-- ==== Sys2Proof/Word.lean ====
section
/-! DEFINITION. Byte strings and the plainest arithmetic on them. -/

namespace Sys2Proof

/-- One byte of a message, of job memory or of an image. -/
abbrev Byte := BitVec 8

/-- A byte string in the order in which it travels. -/
abbrev Bytes := List Byte

/-- The byte of a number's low 8 bits. -/
abbrev byteOf (n : Nat) : Byte := BitVec.ofNat 8 n

end Sys2Proof
end

