-- ==== Sys2Proof/Syntax.lean ====
section
/-! DEFINITION. The commands of the module: one constructor for each row of spec/opcode_table.json, and the data they
carry. The first operand of each is the time in ns since the command before it (log entry 1). -/

namespace Sys2Proof

/-- The answer to one dictionary access or request (R536, R538, R558). The manual gives the codes names only. -/
inductive Status
  | ok | unknownObject | accessDenied | typeMismatch | modeLocked | outOfRange | busy | notReady
  | commitRejected | authFailed | staleSequence
  deriving DecidableEq, Repr

/-- The twelve modes (R575). -/
inductive Mode
  | reset | boot | assemble | idle | prime | armed | print | hold | calibrate | service | verify | safe
  deriving DecidableEq, Repr

/-- The value of DEVICE_MODE (R575). -/
def Mode.code : Mode → Nat
  | .reset => 0 | .boot => 1 | .assemble => 2 | .idle => 3 | .prime => 4 | .armed => 5 | .print => 6
  | .hold => 7 | .calibrate => 8 | .service => 9 | .verify => 10 | .safe => 11

/-- The three lines of an encoder input (R35). -/
inductive EncLine
  | a | b | z
  deriving DecidableEq, Repr

/-- The two encoder inputs as Yarrow receives them (R32, R479). -/
inductive EncInput
  | encP | encX
  deriving DecidableEq, Repr

/-- What a training ordered set carries (R188); `inverted` says that its commas arrived inverted. -/
structure OrderedSet where
  version : Nat
  link : Nat
  side : Nat
  rxLocked : Bool
  eqDone : Bool
  inverted : Bool
  step : Nat
  deriving DecidableEq, Repr

/-- A sequence number that an ACK or a NAK names (`no`: LAST_SEQ or FIRST_SEQ, R206), with the SEQ of the header (R196). -/
structure Heard where
  seq : Nat
  no : Nat
  deriving DecidableEq, Repr

/-- A received frame that is discarded: its port, the bytes between SOF and EOF, and whether one of its symbols is invalid
(R196, R197). -/
structure BadFrame where
  port : Nat
  bytes : Bytes
  symbolError : Bool
  deriving DecidableEq, Repr

/-- The header of a camera packet: its camera, its virtual channel and how many bits of the header are wrong (R259). -/
structure CsiHead where
  cam : Nat
  vc : Nat
  wrong : Nat
  deriving DecidableEq, Repr

/-- The row of a camera packet: its data type and its pixels in that type (R259). -/
structure CsiRow where
  type : Nat
  pixels : List Nat
  deriving DecidableEq, Repr

/-- One block of a STATUS (R200). -/
structure StatusBlock where
  firstEvent : Nat
  fired : Nat
  isOpen : Bool
  holderChanged : Bool
  drops1 : Nat
  drops2 : Nat
  drops3 : Nat
  deriving DecidableEq, Repr

/-- What a STATUS carries (R200): a reading that is missing is none. -/
structure StatusFrame where
  temps : List (Option Int)
  timeValid : Bool
  holderThis : Bool
  holderOther : Bool
  stopped : Bool
  lateLines : Nat
  rxCrc : Nat
  errFlags : Nat
  lastFired : Nat
  blocks : List StatusBlock
  deriving DecidableEq, Repr

/-- A TOKEN_GRANT (R199). -/
structure Grant where
  result : Nat
  holder : Nat
  grantTime : Nat
  lastFired : Nat
  deriving DecidableEq, Repr

/-- The body of a link frame that the module sends (R199). -/
inductive FrameBody
  | line (payload : Bytes)
  | fire (time : Nat) (blank : Bool)
  | retime (newTime oldTime : Nat)
  | inhibit (action cause : Nat)
  | tokenClaim (kind module : Nat)
  | tokenRelease
  | liveness (role module count : Nat)
  | timeSync (time delay : Nat) (echo : Bool)
  | cfgWrite (addr : Nat) (data : Bytes)
  | cfgRead (addr count : Nat)
  | ack (lastSeq lostMask : Nat)
  | nak (firstMissing missing reason : Nat)
  | idleSet
  deriving DecidableEq, Repr

/-- A link frame that the module sends (R196): web line or event, generation, and the flags it sets. -/
structure Frame where
  body : FrameBody
  seq : Nat
  event : Option Nat
  gen : Nat
  resend : Bool
  applyAt : Bool
  deriving DecidableEq, Repr

/-- A Hyaskion message as it arrives (R529): source address, UDP length and fields. -/
structure HyMsg where
  net : Nat
  src : Nat
  udpLength : Nat
  magic : Nat
  version : Nat
  sid : Nat
  seq : Nat
  stopOnError : Bool
  small : Bool
  body : Bytes
  mac : Bytes
  deriving DecidableEq, Repr

/-- A seam's entry of the status table (R84). -/
structure Seam where
  id : Nat
  state : Nat
  outcome : Nat
  target : Nat
  applied : Option Nat
  slip : Nat
  composed : Nat
  fired : Nat
  time : Nat
  scope : Nat
  squashed : Nat
  host : Bool
  deriving DecidableEq, Repr

/-- The values a committed seam carries, in commit order (R78, R80). -/
structure SeamVals where
  id : Nat
  applied : Nat
  scope : Nat
  nums : List (Nat × Int)
  blobs : List (Nat × Bytes)
  deriving DecidableEq, Repr

/-- A layer's verdict for a frame (R134): 1 READY, 2 REPEAT, 3 BLANK, 4 REJECT, and the content used. -/
structure Verdict where
  layer : Nat
  verdict : Nat
  content : Nat
  deriving DecidableEq, Repr

/-- A frame whose verdict has been taken (R133 to R144). `pulse`: 0 none configured, 1 pulsed, 2 missed, 3 queued,
4 waiting in the reject list. -/
structure PrintFrame where
  jobLine : Nat
  number : Nat
  jobId : Nat
  first : Nat
  last : Nat
  verdicts : List Verdict
  causes : Nat := 0
  bars : Nat := 0
  pulse : Nat := 0
  closed : Bool := false
  logged : Bool := false
  deriving DecidableEq, Repr

/-- One entry of REJECT_LOG (R143). -/
structure RejectEntry where
  jobId : Nat
  number : Nat
  first : Nat
  causes : Nat
  pulse : Nat
  bars : Nat
  seq : Nat
  deriving DecidableEq, Repr

/-- The tag of a sensor frame (R271); FLAGS is a number of its bits. -/
structure CamTag where
  frameNo : Nat := 0
  line : Nat := 0
  setId : Nat := 0
  cam : Nat := 0
  trigIndex : Nat := 0
  flags : Nat := 0
  jobId : Nat := 0
  jobFrame : Nat := 0
  rows : Nat := 0
  strobeShift : Int := 0
  deriving DecidableEq, Repr

/-- One window's result of ST_C (R294): means of R, G and B, pixels counted, validity, and the profile. -/
structure WinResult where
  r : Nat := 0
  g : Nat := 0
  b : Nat := 0
  px : Nat := 0
  valid : Bool := false
  profile : List Nat := []
  deriving DecidableEq, Repr

/-- The statistics one module of a pair sends the other (R449): a camera's ST_C result, or the phase profiles that it
took of the band at a web line. -/
inductive PeerStats
  | stc (cam : Nat) (tag : CamTag) (wins : List WinResult)
  | band (cam line : Nat) (profiles : List (List Nat))
  deriving DecidableEq, Repr

/-- What a verdict record says (R443). -/
inductive VerdictBody
  | seam (id scope target applied outcome time : Nat)
  | readiness (jobLine jobId frame first last : Nat) (verdicts : List Verdict)
  | loopCommit (zones : List (Nat × Bytes)) (nozzles : List (Nat × Bytes))
  | headPolicy (port action event : Nat)
  | frameMark (jobLine frame causes bars : Nat)
  | mode (m : Mode) (line : Nat)
  | join (id line stamp : Nat) (count : Int)
  deriving DecidableEq, Repr

/-- An action queued on a PSO output (R68, R69, R140). `frame` names the frame of a reject pulse. -/
structure PsoEntry where
  line : Nat
  action : Nat
  frame : Option (Nat × Nat)
  deriving DecidableEq, Repr

/-- What the active module sends a module that resynchronises (R459, R440): settings, seams, readiness verdicts, counters, what
its PSO outputs hold (R72: queue, held level, and the link time at which a pulse in progress ends), the content list, a copied
content, or the index that aligns the origin. -/
inductive ResyncData
  | values (nums effNums : List (Nat × Int)) (blobs effBlobs : List (Nat × Bytes))
  | seams (table : List Seam) (vals : List SeamVals)
  | verdicts (frames : List PrintFrame)
  | counters (framesClosed framesReject : Nat) (log : List RejectEntry)
  | outputs (l : List (Nat × List PsoEntry × Bool × Option Nat))
  | digests (l : List (Nat × Bytes × Nat))
  | content (handle : Nat) (digest : Bytes) (data : Bytes)
  | index (stamp : Nat) (count : Int)
  deriving DecidableEq, Repr

/-- What the MAC sees of a received Ethernet frame (R504, R505): its length, destination, VLAN tag, kind (0 other,
1 ARP, 2 IPv4, 3 IPv4 fragment, 4 IPv6, 5 IPv6 fragment, 6 PTP over Ethernet, 7 PAUSE or PFC), whether its FCS and its
UDP checksum are right, its UDP port, the bytes that the receive buffer holds when it arrives, and what it asks the port (0
nothing, 1 its link address by ARP or neighbour discovery, 2 an echo, 3 its groups by IGMP or MLD). -/
structure NetFrame where
  length : Nat
  dst : Nat
  vlan : Option Nat
  kind : Nat
  fcsOk : Bool
  checksumOk : Bool
  udpPort : Nat
  buffered : Nat
  asks : Nat := 0
  deriving DecidableEq, Repr

/-- The dataset of an Announce (R513): grandmaster identity, its priorities and quality in the order in which the
best master clock algorithm compares them, the sender, steps removed, and the logarithm of the Announce interval. -/
structure Announce where
  sender : Nat
  gm : Nat
  quality : List Nat
  steps : Nat
  logInterval : Int
  deriving DecidableEq, Repr

/-- The commands (R19 to R26 say what sends them; 95_what_each_step_holds.md lists what each holds). -/
inductive Instr
  /-- ENC_COUNT (R36): an accepted edge; `aLeads` says whether A led B. -/
  | encCount (dt : Nat) (aLeads : Bool)
  /-- ENC_ILLEGAL (R37). -/
  | encIllegal (dt : Nat)
  /-- OPEN_LINE (R35). -/
  | openLine (dt : Nat) (line : EncLine)
  /-- OPEN_LINE_ENDED (R42). -/
  | openLineEnded (dt : Nat) (line : EncLine)
  /-- ENC_FAULT_CLEAR (R39): session and value written. -/
  | encFaultClear (dt sid v : Nat)
  /-- INDEX_PULSE (R52). -/
  | indexPulse (dt : Nat)
  /-- INDEX_ARM (R50). -/
  | indexArm (dt sid v : Nat)
  /-- GPIN_EDGE (R45): the input, 0 to 7. -/
  | gpinEdge (dt n : Nat)
  /-- SPEED_STALL (R65). -/
  | speedStall (dt : Nat)
  /-- PSO_PULSE_END (R71): the output, 0 to 15. -/
  | psoPulseEnd (dt n : Nat)
  /-- PSO_SCHEDULE (R68): session, output and the 64-bit value. -/
  | psoSchedule (dt sid n v : Nat)
  /-- COMMIT_SEAM (R97): session and the record's fields. -/
  | commitSeam (dt sid target scope id flags : Nat)
  /-- SEAM_CANCEL (R86): session and seam ID. -/
  | seamCancel (dt sid id : Nat)
  /-- BANK_LOAD_DONE (R170): the bar and the scope group bit whose bank is loaded. -/
  | bankLoadDone (dt bar group : Nat)
  /-- COMPOSE_LINE (R89): the bar, and the time in ns that its composer took for the line. -/
  | composeLine (dt bar took : Nat)
  /-- FIRE_SEND (R203): the bar whose next event falls due. -/
  | fireSend (dt bar : Nat)
  /-- LINE_SEND (R204): the port whose next LINE is assembled. -/
  | lineSend (dt port : Nat)
  /-- LAYER_POST (R131): session and the record's fields. -/
  | layerPost (dt sid layer job frame content : Nat)
  /-- LAYER_CONFIG_WRITE (R118): session, sub-index (0 for the whole record) and the bytes written. -/
  | layerConfigWrite (dt sid sub : Nat) (data : Bytes)
  /-- JOB_CONFIG_WRITE (R149): session, sub-index (0 for the whole record) and the bytes written. -/
  | jobConfigWrite (dt sid sub : Nat) (data : Bytes)
  /-- RC_CONSUME (R542): session, index and sub-index read with CONSUME. -/
  | rcConsume (dt sid idx sub : Nat)
  /-- NOZZLE_EDIT (R161): session and the 64-bit value. -/
  | nozzleEdit (dt sid v : Nat)
  /-- HEAD_SLOT_WRITE (R174): session, slot 0 to 7 and the 64-bit value. -/
  | headSlotWrite (dt sid slot v : Nat)
  /-- LINK_RETRAIN (R225): session and value; the port is the session's PORT_SELECT. -/
  | linkRetrain (dt sid v : Nat)
  /-- TS1_RECEIVED (R188): port, the set, and whether it arrived without error. -/
  | ts1Received (dt port : Nat) (o : OrderedSet) (good : Bool)
  /-- TS2_RECEIVED (R189). -/
  | ts2Received (dt port : Nat) (o : OrderedSet)
  /-- EQ_STEP_TIMER (R189): port and the eye width measured over the step that ends. -/
  | eqStepTimer (dt port eye : Nat)
  /-- TRAIN_TIMEOUT (R189). -/
  | trainTimeout (dt port : Nat)
  /-- LOCK_LOST (R190). -/
  | lockLost (dt port : Nat)
  /-- RX_INVALID_SYMBOL (R190): port and how many symbols arrived since the last invalid one. -/
  | rxInvalidSymbol (dt port gap : Nat)
  /-- LINK_SLEEP (R187): session and value. -/
  | linkSleep (dt sid v : Nat)
  /-- EIOS_RECEIVED (R186). -/
  | eiosReceived (dt port : Nat)
  /-- WAKE_BURST_RECEIVED (R186). -/
  | wakeBurstReceived (dt port : Nat)
  /-- TIME_SYNC_TIMER (R192). -/
  | timeSyncTimer (dt : Nat)
  /-- DELAY_EXCHANGE (R195): the port whose next exchange falls due. -/
  | delayExchange (dt port : Nat)
  /-- ACK_TIME_ECHO (R195): port, t2 and t3, and the ACK's LAST_SEQ and LOST_MASK. -/
  | ackTimeEcho (dt port t2 t3 : Nat) (lastSeq : Heard) (lostMask : Nat)
  /-- ACK_CUMULATIVE (R206). -/
  | ackCumulative (dt port : Nat) (lastSeq : Heard) (lostMask : Nat)
  /-- LIVENESS_TIMER (R205). -/
  | livenessTimer (dt : Nat)
  /-- NAK_RECEIVED (R207): port, first missing, number missing and reason. -/
  | nakReceived (dt port : Nat) (first : Heard) (missing reason : Nat)
  /-- RX_FRAME_BAD (R197): the received frame that is discarded, with its port. -/
  | rxFrameBad (dt : Nat) (port : BadFrame)
  /-- STATUS_RECEIVED (R200): port, the frame's SEQ and its content. -/
  | statusReceived (dt port seq : Nat) (st : StatusFrame)
  /-- STATUS_TIMEOUT (R245). -/
  | statusTimeout (dt port : Nat)
  /-- TOKEN_GRANT_RECEIVED (R451). -/
  | tokenGrantReceived (dt port seq : Nat) (g : Grant)
  /-- TOKEN_CLAIM_TIMEOUT (R207). -/
  | tokenClaimTimeout (dt port : Nat)
  /-- CFG_REPLY_RECEIVED (R219): port, the frame's SEQ, address, result, and the data of a read reply. -/
  | cfgReplyReceived (dt port seq : Nat) (write : Bool) (addr result : Nat) (data : Bytes)
  /-- CFG_TIMEOUT (R207). -/
  | cfgTimeout (dt port : Nat)
  /-- REF_CONFIG_WRITE (R226): session and the 16-bit value. -/
  | refConfigWrite (dt sid v : Nat)
  /-- HEAD_REENABLE (R248): session and value; the port is the session's PORT_SELECT. -/
  | headReenable (dt sid v : Nat)
  /-- GATE_INHIBIT (R251): the input, 0 to 9, that has held its active level for 500 ns. -/
  | gateInhibit (dt k : Nat)
  /-- GATE_CLEAR (R254): session and the 16-bit value. -/
  | gateClear (dt sid v : Nat)
  /-- GATE_INPUT_INACTIVE (R254): the input that returns to its inactive level. -/
  | gateInputInactive (dt k : Nat)
  /-- TRIG_PULSE_END (R266): the camera. -/
  | trigPulseEnd (dt cam : Nat)
  /-- FLASH_START (R268). -/
  | flashStart (dt cam : Nat)
  /-- FLASH_END (R268). -/
  | flashEnd (dt cam : Nat)
  /-- CSI_FRAME_START (R259, R273): the packet's camera and header. -/
  | csiFrameStart (dt : Nat) (cam : CsiHead)
  /-- CSI_ROW_RECEIVED (R259, R273): the packet's camera and header, its data type and pixels, whether its CRC is right, and
  whether the camera writer keeps up. -/
  | csiRowReceived (dt : Nat) (cam : CsiHead) (pixels : CsiRow) (crcOk writerKeepsUp : Bool)
  /-- CSI_FRAME_END (R259, R273): as CSI_FRAME_START. -/
  | csiFrameEnd (dt : Nat) (cam : CsiHead)
  /-- FS_TIMEOUT (R273). -/
  | fsTimeout (dt cam : Nat)
  /-- FE_TIMEOUT (R273). -/
  | feTimeout (dt cam : Nat)
  /-- CAM_SOFT_TRIGGER (R270): session and value; the camera is the session's CAM_SELECT. -/
  | camSoftTrigger (dt sid v : Nat)
  /-- CAM_CONFIG_WRITE (R264): session, index 0x6001, 0x6002 or 0x6003, sub-index and the bytes written. -/
  | camConfigWrite (dt sid idx sub : Nat) (data : Bytes)
  /-- CAM_BUS_TRANSFER_DONE (R260): the camera and whether the sensor acknowledged. -/
  | camBusTransferDone (dt cam : Nat) (acked : Bool)
  /-- CAM_EXPOSURE_COMMIT (R277): session and value. -/
  | camExposureCommit (dt sid v : Nat)
  /-- CAM_STREAM_COMMIT (R290): session and value. -/
  | camStreamCommit (dt sid v : Nat)
  /-- LOOP_COMPUTE_DONE (R323). -/
  | loopComputeDone (dt : Nat)
  /-- LOOP_COMPUTE_OVERRUN (R311). -/
  | loopComputeOverrun (dt : Nat)
  /-- LOOP_SEAM_RETRY (R324). -/
  | loopSeamRetry (dt : Nat)
  /-- LOOP_MODE_WRITE (R300): session and value. -/
  | loopModeWrite (dt sid v : Nat)
  /-- LOOP_BAR_RESET (R328): session and bar. -/
  | loopBarReset (dt sid v : Nat)
  /-- LOOP_BASELINE_SAVE (R330): session and value. -/
  | loopBaselineSave (dt sid v : Nat)
  /-- BASELINE_SAVE_TIMER (R330). -/
  | baselineSaveTimer (dt : Nat)
  /-- FRC_CODING_DONE (R349): the compressor finishes its object; stripes (plane, stripe) where the second decoder
  disagreed. -/
  | frcCodingDone (dt : Nat) (disagree : List (Nat × Nat))
  /-- FRC_VERIFY_DONE (R351): the object whose verify ends. -/
  | frcVerifyDone (dt handle : Nat)
  /-- REFRESH_DUE (R378): channel, the MR4 rate read at the decision (0, 1 or 2), and whether a class P read is queued. -/
  | refreshDue (dt ch rate : Nat) (pQueued : Bool)
  /-- REFRESH_PAYBACK_START (R379). -/
  | refreshPaybackStart (dt ch : Nat)
  /-- MR4_POLL (R380): channel and rate. -/
  | mr4Poll (dt ch rate : Nat)
  /-- MEM_TEMP_READ (R381): channel and case temperature in 0.1 degC. -/
  | memTempRead (dt ch : Nat) (temp : Int)
  /-- AGE_PROMOTION (R370): channel, and the queued request counted from the oldest. -/
  | agePromotion (dt ch k : Nat)
  /-- ARB_CUTOFF (R393): requester and address of the stalled write, and the cycles it stalled. -/
  | arbCutoff (dt q addr cycles : Nat)
  /-- ARB_COMMIT (R391): session and value. -/
  | arbCommit (dt sid v : Nat)
  /-- URGENT_LIFT (R392): session and requester. -/
  | urgentLift (dt sid v : Nat)
  /-- ARB_REENABLE (R394): session and mask. -/
  | arbReenable (dt sid v : Nat)
  /-- MEM_READ_DONE (R396): channel, requester and latency in ns of a class P read. -/
  | memReadDone (dt ch q latency : Nat)
  /-- ENGINE_FAULT (R404): engine 0 to 12 and FAULT_CAUSE. -/
  | engineFault (dt n cause : Nat)
  /-- SUPERVISOR_WATCHDOG (R404). -/
  | supervisorWatchdog (dt : Nat)
  /-- USER_IMAGE (R407): session and the image with its signature. -/
  | userImage (dt sid : Nat) (image : Bytes)
  /-- USER_RUN (R407): session and the value of USER_CONTROL, RUN set. -/
  | userRun (dt sid v : Nat)
  /-- USER_WATCHDOG (R408): cause 4 for the watchdog, else the fault of E13. -/
  | userWatchdog (dt cause : Nat)
  /-- USER_WDT_RESTART (R408). -/
  | userWdtRestart (dt : Nat)
  /-- USER_DICT_REQUEST (R406): index, sub-index, whether it writes, whether it consumes, and the data. -/
  | userDictRequest (dt idx sub : Nat) (write consume : Bool) (data : Bytes)
  /-- USER_MAILBOX_IN (R409): session and message. -/
  | userMailboxIn (dt sid : Nat) (msg : Bytes)
  /-- USER_MAILBOX_POST (R409): the message E13 posts. -/
  | userMailboxPost (dt : Nat) (msg : Bytes)
  /-- USER_MAILBOX_READ (R409). -/
  | userMailboxRead (dt : Nat)
  /-- SEM_TRY (R411): engine and semaphore. -/
  | semTry (dt n s : Nat)
  /-- SEM_WAIT (R411). -/
  | semWait (dt n s : Nat)
  /-- SEM_RELEASE (R411). -/
  | semRelease (dt n s : Nat)
  /-- SEM_RENEW (R411). -/
  | semRenew (dt n s : Nat)
  /-- SEM_DECLARE_RECOVERY (R412). -/
  | semDeclareRecovery (dt n s : Nat)
  /-- SEM_LEASE_EXPIRED (R414). -/
  | semLeaseExpired (dt s : Nat)
  /-- DBG_CHALLENGE (R422): the scope asked for. -/
  | dbgChallenge (dt scope : Nat)
  /-- DBG_RESPONSE (R422): scope byte, public key and signature. -/
  | dbgResponse (dt scope : Nat) (key sig : Bytes)
  /-- TAP_BYPASS (R421): the code loaded. -/
  | tapBypass (dt code : Nat)
  /-- TAP_IDCODE (R421). -/
  | tapIdcode (dt : Nat)
  /-- TAP_SAMPLE_PRELOAD (R421): the bits shifted into the chain; the lands as sampled. -/
  | tapSamplePreload (dt : Nat) (preload lands : Bytes)
  /-- TAP_EXTEST (R421). -/
  | tapExtest (dt : Nat)
  /-- TAP_CLAMP (R421). -/
  | tapClamp (dt : Nat)
  /-- TAP_HIGHZ (R421). -/
  | tapHighz (dt : Nat)
  /-- TAP_RESET (R414). -/
  | tapReset (dt : Nat)
  /-- DBG_HALT (R427): engine. -/
  | dbgHalt (dt n : Nat)
  /-- DBG_RESUME (R425). -/
  | dbgResume (dt n : Nat)
  /-- DBG_STEP (R425). -/
  | dbgStep (dt n : Nat)
  /-- DBG_SET_BP (R425): engine, breakpoint and DBG_DATA. -/
  | dbgSetBp (dt n bp data : Nat)
  /-- DBG_CLEAR_BP (R425). -/
  | dbgClearBp (dt n bp : Nat)
  /-- DBG_READ_REG (R425): engine and register. -/
  | dbgReadReg (dt n reg : Nat)
  /-- DBG_WRITE_REG (R425): engine, register and DBG_DATA. -/
  | dbgWriteReg (dt n reg data : Nat)
  /-- DBG_READ_MEM (R426): engine and the command's address field. -/
  | dbgReadMem (dt n addr : Nat)
  /-- DBG_WRITE_MEM (R426): engine, address field and DBG_DATA. -/
  | dbgWriteMem (dt n addr data : Nat)
  /-- DBG_SEM_ACQUIRE (R425): semaphore, and whether it waits. -/
  | dbgSemAcquire (dt s : Nat) (wait : Bool)
  /-- DBG_SEM_RELEASE (R425). -/
  | dbgSemRelease (dt s : Nat)
  /-- DBG_SEM_RECOVERED (R425). -/
  | dbgSemRecovered (dt s : Nat)
  /-- BREAKPOINT_HIT (R425): engine and breakpoint. -/
  | breakpointHit (dt n bp : Nat)
  /-- DBG_TIMEOUT (R426). -/
  | dbgTimeout (dt : Nat)
  /-- HEARTBEAT_TIMER (R435). -/
  | heartbeatTimer (dt : Nat)
  /-- HAREBELL_TIMER (R436). -/
  | harebellTimer (dt : Nat)
  /-- BINDWEED_HEARTBEAT (R435): the peer's role, mode, last verdict record, last mirror record, Phi0, link time. -/
  | bindweedHeartbeat (dt role mode lastVerdict lastMirror phi0 linkTime : Nat)
  /-- HAREBELL_FRAME (R436): the 40 bits as they arrived. -/
  | harebellFrame (dt bits : Nat)
  /-- PATH_ABSENT (R437): path 0 Bindweed or 1 Harebell, and the mask of Bindweed lanes that are locked. -/
  | pathAbsent (dt path lanes : Nat)
  /-- YIELD_RECEIVED (R452). -/
  | yieldReceived (dt : Nat)
  /-- VERDICT_RECORD_RECEIVED (R443): number and content. -/
  | verdictRecordReceived (dt no : Nat) (v : VerdictBody)
  /-- VERDICT_ACK_RECEIVED (R444). -/
  | verdictAckReceived (dt no : Nat)
  /-- VERDICT_ACK_TIMEOUT (R437): the mask of Bindweed lanes that are locked. -/
  | verdictAckTimeout (dt lanes : Nat)
  /-- FORWARDED_WRITE_RECEIVED (R439): number, index, sub-index, which of the per-port or per-bar objects, and data. -/
  | forwardedWriteReceived (dt no idx sub inst : Nat) (data : Bytes)
  /-- MIRROR_CYCLE (R446). -/
  | mirrorCycle (dt : Nat)
  /-- MIRROR_CHUNK_RECEIVED (R448): record number, chunk and its bytes. -/
  | mirrorChunkReceived (dt recordNo chunk : Nat) (data : Bytes)
  /-- ORIGIN_STAMP_RECEIVED (R441): the peer's stamp at `time`, or its count since the origin at `time`. -/
  | originStampReceived (dt : Nat) (isCount : Bool) (time : Nat) (count : Int)
  /-- PEER_STATS_RECEIVED (R449). -/
  | peerStatsReceived (dt : Nat) (p : PeerStats)
  /-- STOP_REPORT_RECEIVED (R442): the cause of the standby's stop, its ports, and the first event not fired. -/
  | stopReportReceived (dt cause ports event : Nat)
  /-- DIGEST_RECEIVED (R440): handle and the standby's digest. -/
  | digestReceived (dt handle : Nat) (digest : Bytes)
  /-- INGEST_WAIT_EXPIRY (R440): handle. -/
  | ingestWaitExpiry (dt handle : Nat)
  /-- DISCOVERY_END (R432): the measured Bindweed delay in ns, and the active module's content list (handle, digest,
  bytes). -/
  | discoveryEnd (dt delay : Nat) (list : List (Nat × Bytes × Nat))
  /-- FORWARD_ACK_RECEIVED (R438): number and the standby's status. -/
  | forwardAckReceived (dt no : Nat) (st : Status)
  /-- RESYNC_DATA_RECEIVED (R459). -/
  | resyncDataReceived (dt : Nat) (d : ResyncData)
  /-- YR_ENC_COUNT (R469): whether A led B at Yarrow's receivers. -/
  | yrEncCount (dt : Nat) (aLeads : Bool)
  /-- ENC_X_COUNT (R478). -/
  | encXCount (dt : Nat) (aLeads : Bool)
  /-- CAL_LEN_START (R477): session and value. -/
  | calLenStart (dt sid v : Nat)
  /-- YR_JOB_START (R471): the record's sequence number and check, job, W*, CHANNELS and COMPARE_INCREMENT. -/
  | yrJobStart (dt seq : Nat) (good : Bool) (jobId line channels increment : Nat)
  /-- YR_JOB_END (R471). -/
  | yrJobEnd (dt seq : Nat) (good : Bool)
  /-- YR_ORIGIN (R474). -/
  | yrOrigin (dt seq : Nat) (good : Bool)
  /-- YR_IDLE (R471). -/
  | yrIdle (dt seq : Nat) (good : Bool)
  /-- YR_TICK (R472): domain time, its domain, WEB_LINE_NOW and Phi7. -/
  | yrTick (dt seq : Nat) (good : Bool) (time domain line phi7 : Nat)
  /-- YR_GAP (R473): a GAP record, or (`restart`) a restart of the link. -/
  | yrGap (dt seq : Nat) (good restart : Bool)
  /-- YR_DROP_BLOCK (R474): port and block. -/
  | yrDropBlock (dt seq : Nat) (good : Bool) (port : Nat) (b : StatusBlock)
  /-- TOTALS_SAVE (R466). -/
  | totalsSave (dt : Nat)
  /-- YR_TEMP_READ (R477): TEMP_IN0 to TEMP_IN3 in 0.01 degC, none for an open or out-of-range input. -/
  | yrTempRead (dt : Nat) (temps : List (Option Int))
  /-- SEAL_CHECK (R485): whether the loop is closed. -/
  | sealCheck (dt : Nat) (loopClosed : Bool)
  /-- LOCKSTEP_MISMATCH (R483). -/
  | lockstepMismatch (dt : Nat)
  /-- YR_RESTART_DONE (R483). -/
  | yrRestartDone (dt : Nat)
  /-- METRO_NONCE (R487): the session that reads. -/
  | metroNonce (dt sid : Nat)
  /-- NONCE_EXPIRY (R487). -/
  | nonceExpiry (dt : Nat)
  /-- METRO_WRITE (R487): session, the bytes written, and the public key the signature names. -/
  | metroWrite (dt sid : Nat) (data key : Bytes)
  /-- METRO_STOP_CLEAR (R484): session and value. -/
  | metroStopClear (dt sid v : Nat)
  /-- YR_FW_IMAGE (R489): session, image, signature and the key it names. -/
  | yrFwImage (dt sid : Nat) (image sig key : Bytes)
  /-- TRAIL_RENEW (R494): session, the bytes written, and the public key the signature names. -/
  | trailRenew (dt sid : Nat) (data key : Bytes)
  /-- REPORT_REQUEST (R496): session and the bytes written. -/
  | reportRequest (dt sid : Nat) (data : Bytes)
  /-- REPORT_READY (R496). -/
  | reportReady (dt : Nat)
  /-- MARK_RENDER_DONE (R500). -/
  | markRenderDone (dt : Nat)
  /-- YARROW_SILENT (R503). -/
  | yarrowSilent (dt : Nat)
  /-- YR_ENC_ILLEGAL (R469). -/
  | yrEncIllegal (dt : Nat)
  /-- YR_OPEN_LINE (R479): the input, the line, and whether it opens or closes. -/
  | yrOpenLine (dt : Nat) (input : EncInput) (line : EncLine) (opens : Bool)
  /-- YARROW_SELF_TEST_DONE (R468): what the region holds (0 valid items, 1 another device key's items, 2 none), and
  of a foreign region the key and the trail's running hash. -/
  | yarrowSelfTestDone (dt region : Nat) (foreignKey foreignHash : Bytes)
  /-- NET_FRAME_RECEIVED (R505): port and frame. -/
  | netFrameReceived (dt port : Nat) (f : NetFrame)
  /-- NET_LINK_UP (R507). -/
  | netLinkUp (dt port : Nat)
  /-- NET_LINK_DOWN (R527): port and cause (0 block lock lost, 1 remote fault, 2 configuration write). -/
  | netLinkDown (dt port cause : Nat)
  /-- NET_CONFIG_WRITE (R506): session, port and value. -/
  | netConfigWrite (dt sid port v : Nat)
  /-- PTP_SYNC (R515): domain, port, sender, sequence, two-step or not, the master's time of a one-step Sync in ns,
  the correction in ns, the MAC's receive stamp in link time, and the logarithm of the Sync interval. -/
  | ptpSync (dt dom port sender seq : Nat) (twoStep : Bool) (origin : Nat) (corr : Int) (stamp : Nat) (logInterval : Int)
  /-- PTP_FOLLOW_UP (R513). -/
  | ptpFollowUp (dt dom port sender seq origin : Nat) (corr : Int)
  /-- PTP_ANNOUNCE (R513). -/
  | ptpAnnounce (dt dom port : Nat) (a : Announce)
  /-- PTP_DELAY_RESP (R513): sender, sequence, the master's receive time, correction, logMinDelayReqInterval. -/
  | ptpDelayResp (dt dom port sender seq time : Nat) (corr logMin : Int)
  /-- PTP_PDELAY_REQ (R513): domain, port, sender, sequence, and the MAC's receive stamp. -/
  | ptpPdelayReq (dt dom port sender seq stamp : Nat)
  /-- PTP_PDELAY_RESP (R513): a response with t2, or its follow-up with t3; the MAC's receive stamp of a response. -/
  | ptpPdelayResp (dt dom port sender seq : Nat) (followUp : Bool) (time : Nat) (corr : Int) (stamp : Nat)
  /-- DELAY_REQ_TIMER (R513): the domain. -/
  | delayReqTimer (dt dom : Nat)
  /-- PDELAY_REQ_TIMER (R513): domain and port. -/
  | pdelayReqTimer (dt dom port : Nat)
  /-- PTP_HOLDOVER (R517): the domain. -/
  | ptpHoldover (dt dom : Nat)
  /-- TD_CONFIG_WRITE (R514): session, domain and value. -/
  | tdConfigWrite (dt sid dom v : Nat)
  /-- TD_SET (R519): session, domain and the time written. -/
  | tdSet (dt sid dom v : Nat)
  /-- TIME_SELECT_WRITE (R522): session and value. -/
  | timeSelectWrite (dt sid v : Nat)
  /-- SLEW_END (R523). -/
  | slewEnd (dt : Nat)
  /-- HELLO (R532). -/
  | hello (dt : Nat) (m : HyMsg)
  /-- AUTH (R534). -/
  | auth (dt : Nat) (m : HyMsg)
  /-- AUTH_BLOCK_EXPIRY (R535): the source address. -/
  | authBlockExpiry (dt src : Nat)
  /-- CLOSE (R531). -/
  | close (dt : Nat) (m : HyMsg)
  /-- KEEPALIVE (R531). -/
  | keepalive (dt : Nat) (m : HyMsg)
  /-- ACCESS (R537). -/
  | access (dt : Nat) (m : HyMsg)
  /-- BULK_OPEN (R543). -/
  | bulkOpen (dt : Nat) (m : HyMsg)
  /-- BULK_STATUS (R546). -/
  | bulkStatus (dt : Nat) (m : HyMsg)
  /-- BULK_CLOSE (R546). -/
  | bulkClose (dt : Nat) (m : HyMsg)
  /-- BULK_CHUNK (R545): the datagram. -/
  | bulkChunk (dt : Nat) (datagram : Bytes)
  /-- BULK_TIMEOUT (R546): the transfer. -/
  | bulkTimeout (dt tid : Nat)
  /-- SUBSCRIBE (R549). -/
  | subscribe (dt : Nat) (m : HyMsg)
  /-- UNSUBSCRIBE (R549). -/
  | unsubscribe (dt : Nat) (m : HyMsg)
  /-- AUTH_TIMEOUT (R535): the session. -/
  | authTimeout (dt sid : Nat)
  /-- IDLE_TIMEOUT (R535): the session. -/
  | idleTimeout (dt sid : Nat)
  /-- NOTICE (R550): the session whose waiting records are sent. -/
  | notice (dt sid : Nat)
  /-- CONTENT_RELEASE (R548): session and handle. -/
  | contentRelease (dt sid handle : Nat)
  /-- DICT_QUERY (R571): session and the 32-bit value. -/
  | dictQuery (dt sid v : Nat)
  /-- JOB_MEM_READ (R573): session, OFFSET and LENGTH of the segment read. -/
  | jobMemRead (dt sid offset length : Nat)
  /-- DICT_WRITE (R557): session, index, sub-index and the bytes written. -/
  | dictWrite (dt sid idx sub : Nat) (data : Bytes)
  /-- RECORD_WINDOW_CLOSE (R587): the open record, counted from the oldest. -/
  | recordWindowClose (dt k : Nat)
  /-- RECORDER_CLEAR (R593): session and value. -/
  | recorderClear (dt sid v : Nat)
  /-- STORE_SAVE (R608): session and value. -/
  | storeSave (dt sid v : Nat)
  /-- STORE_WRITE_DONE (R609): whether the read-back matched. -/
  | storeWriteDone (dt : Nat) (good : Bool)
  /-- CAL_LINK_MEASURE (R604): session and the 64-bit port mask. -/
  | calLinkMeasure (dt sid v : Nat)
  /-- CAL_CAM_START (R598): session and value. -/
  | calCamStart (dt sid v : Nat)
  /-- CAM_TEMP_READ (R598): the camera and its register value, none for a failed read. -/
  | camTempRead (dt cam : Nat) (v : Option Nat)
  /-- CAL_CAM_STARTED (R598). -/
  | calCamStarted (dt : Nat)
  /-- CAL_ARM_SETTLE (R599). -/
  | calArmSettle (dt : Nat)
  /-- CAL_FRAME_TRIGGER (R599): MIN_INTERVAL of the camera has passed. -/
  | calFrameTrigger (dt cam : Nat)
  /-- MODE_REQUEST_IDLE (R619): the session. -/
  | modeRequestIdle (dt sid : Nat)
  /-- MODE_REQUEST_PRIME (R621). -/
  | modeRequestPrime (dt sid : Nat)
  /-- MODE_REQUEST_ARMED (R614). -/
  | modeRequestArmed (dt sid : Nat)
  /-- MODE_REQUEST_PRINT (R618). -/
  | modeRequestPrint (dt sid : Nat)
  /-- MODE_REQUEST_HOLD (R618). -/
  | modeRequestHold (dt sid : Nat)
  /-- MODE_REQUEST_CALIBRATE (R613). -/
  | modeRequestCalibrate (dt sid : Nat)
  /-- MODE_REQUEST_SERVICE (R613). -/
  | modeRequestService (dt sid : Nat)
  /-- MODE_REQUEST_VERIFY (R622). -/
  | modeRequestVerify (dt sid : Nat)
  /-- MODE_REQUEST_RESET (R629). -/
  | modeRequestReset (dt sid : Nat)
  /-- MODE_REQUEST_SAFE (R624). -/
  | modeRequestSafe (dt sid : Nat)
  /-- STATIONARY_START (R621): session and value. -/
  | stationaryStart (dt sid v : Nat)
  /-- STATIONARY_LINE (R621). -/
  | stationaryLine (dt : Nat)
  /-- POWER_GOOD (R645). -/
  | powerGood (dt : Nat)
  /-- FW_VERIFY_DONE (R627). -/
  | fwVerifyDone (dt : Nat)
  /-- DRAM_TRAINING_DONE (R627). -/
  | dramTrainingDone (dt : Nat)
  /-- STORE_LOAD_DONE (R607): item IDs, keys and generations of newer copies that failed, and items with no valid copy. -/
  | storeLoadDone (dt : Nat) (bad : List (Nat × Nat × Nat)) (missing : Nat)
  /-- PORT_GROUP_TRAIN (R627). -/
  | portGroupTrain (dt : Nat)
  /-- RESET_N (R629): held low for 10 us. -/
  | resetN (dt : Nat)
  /-- RESET_RELEASE (R629). -/
  | resetRelease (dt : Nat)
  /-- FW_IMAGE (R634): session and the bytes of the header and image, gathered from its segments. -/
  | fwImage (dt sid : Nat) (data : Bytes)
  /-- FW_ACTIVATE (R634): session and slot. -/
  | fwActivate (dt sid slot : Nat)
  /-- FW_CONFIRM (R634): session and value. -/
  | fwConfirm (dt sid v : Nat)
  /-- OTP_CONFIG_WRITE (R639): session, the block, and whether its read-back matched. -/
  | otpConfigWrite (dt sid : Nat) (block : Bytes) (good : Bool)
  /-- OTP_REVOKE (R639): session, hash slot, and whether the read-back matched. -/
  | otpRevoke (dt sid slot : Nat) (good : Bool)
  /-- JUNCTION_TEMP_READ (R604): main-die and Yarrow junctions and the DC-DC substrate in 0.1 degC, none for no reading,
  and the supply's readings at that time in 10 mV, mA and 0.1 W (R653, log entry 8). -/
  | junctionTempRead (dt : Nat) (main yarrow dcdc : Option Int) (vin iin pin : Nat)
  /-- THERMAL_TRIP_RELEASE (R652). -/
  | thermalTripRelease (dt : Nat)
  /-- VIN_HIGH (R651): VIN in 10 mV, above 78 V for 10 ms. -/
  | vinHigh (dt vin : Nat)
  /-- RAIL_FAULT (R651): RAILS as the monitor sees them. -/
  | railFault (dt rails : Nat)
  /-- POWER_FAIL (R647): source 0 PWR_FAIL_N or 1 the VIN monitor, and VIN in 10 mV. -/
  | powerFail (dt source vin : Nat)
  /-- POWER_FAIL_HOLD_END (R647). -/
  | powerFailHoldEnd (dt : Nat)
  /-- POWER_RESTORED (R648). -/
  | powerRestored (dt : Nat)
  /-- VIN_BROWNOUT (R643). -/
  | vinBrownout (dt : Nat)
  /-- VIN_START_THRESHOLD (R645): VIN in 10 mV. -/
  | vinStartThreshold (dt vin : Nat)
  /-- VIN_OUT_OF_RANGE (R673): 0 below 36 V or 1 above 75 V, and VIN in 10 mV. -/
  | vinOutOfRange (dt side vin : Nat)
  deriving DecidableEq, Repr

end Sys2Proof
end

