-- ==== Sys2Proof/Config.lean ====
section
/-! DEFINITION. The free values: constants without a body, one for every value that the manual leaves open.
Each is applied to a plain counter of the state (`Mach.free`) or to the operands it depends on, so nothing
proved in this model can rest on what it is (log entries 5 and 6). -/

namespace Sys2Proof

/-- Byte j of the k-th random string the module draws: nonces, module signatures, ephemeral secrets (log entry 5). -/
opaque Config.freeByte : Nat → Nat → Byte

/-- The k-th number that the manual leaves open (log entry 5). -/
opaque Config.freeNat : Nat → Nat

/-- The k-th integer that the manual leaves open (log entry 5). -/
opaque Config.freeInt : Nat → Int

/-- The byte SOURCE (R582) of a record whose agent no chapter names, by event code (log entry 7). -/
opaque Config.agentByte : Nat → Nat

/-- A value that the colour loop's formulas do not give, by its case and operands: the logarithm of 0, a slope over a flat
tone curve, the mean over no reference pixel, an unknown that the equations leave open, a ratio to a median of 0
(R307, R312, R321; log entry 30). -/
opaque Config.loopOpen : Nat → List Int → Int

/-- How many fraction bits the loop's fixed point has above 16 (R307; log entry 30). -/
opaque Config.loopBits : Nat

/-- A job-memory address that the module gives a buffer, ring or area of its own choosing (R353, R365; log entry 6). -/
opaque Config.bufferBase : Nat → Nat

/-- What the n-th run of an engine's program leaves in a register, or in a local byte from 0x10000 on (R425; log entry 5). -/
opaque Config.engineStep : Nat → Nat → Nat

/-- A rate over no time at all: the net change of the raw position between two counts with one timestamp, or line
events at one instant (R63, R674 state no value; log entry 5). -/
opaque Config.rateAtOnce : Int → Int

/-- Whether a mean that is no whole number is rounded up: the sum and the number of values (R145, R283, R284,
R290, R292 state no rounding; log entry 5). -/
opaque Config.meanUp : Nat → Nat → Bool

/-- A pixel of the image pipeline whose neighbourhood reaches past the sensor frame: the stage and the values that
exist (R283, R284 state none; log entry 5). -/
opaque Config.edgePixel : Nat → List Nat → Nat

/-- The servo's filtered offset and frequency estimate on E11 (R515), in ns and ppb (log entry 31). -/
opaque Config.servoFilter : Nat → List Int → Int

/-- Whether a dot of a glyph of Yarrow's font is drawn: character code, column and row (R501 states no shapes;
log entry 5). -/
opaque Config.glyph : Nat → Nat → Nat → Bool

/-- ITEM_ID of a kind of stored item (R606 states no numbers; log entry 5). -/
opaque Config.itemId : Nat → Nat

/-- The 32 bytes of the Yarrow die's public key and of the module's (R532, R495): OTP contents (log entry 3). -/
opaque Config.otpByte : Nat → Byte

/-- The byte of a status in a message, by its place in R558's list (R529, R538 give names only; log entry 5). -/
opaque Config.statusByte : Nat → Byte

end Sys2Proof
end

