-- ==== Sys2Proof/Machine/Bits.lean ====
section
/-! DEFINITION. Bit fields, byte orders, two's complement and rounding, as R7 to R17 of 00_scope name them. -/

namespace Sys2Proof.Machine

/-- Bits [lo + w - 1 : lo] of a number. -/
def bits (v lo w : Nat) : Nat := v / 2 ^ lo % 2 ^ w

/-- Bit i of a number. -/
def bit (v i : Nat) : Bool := bits v i 1 = 1

/-- The number with bit i set or cleared. -/
def setBit (v i : Nat) (b : Bool) : Nat :=
  if bit v i then (if b then v else v - 2 ^ i) else (if b then v + 2 ^ i else v)

/-- The mask of the positions of a list. -/
def maskOf (l : List Nat) : Nat := l.foldl (fun acc i => setBit acc i true) 0

/-- The positions below n that are set in a mask, lowest first. -/
def setBits (v n : Nat) : List Nat := (List.range n).filter (bit v)

/-- 1 for true. -/
def b2n (b : Bool) : Nat := if b then 1 else 0

/-- n bytes of a number, least significant first (R11). -/
def leBytes : Nat → Nat → Bytes
  | 0, _ => []
  | n + 1, v => byteOf (v % 256) :: leBytes n (v / 256)

/-- n bytes of a number, most significant first. -/
def beBytes (n v : Nat) : Bytes := (leBytes n v).reverse

/-- The number of bytes given least significant first (R11). -/
def ofLe : Bytes → Nat
  | [] => 0
  | b :: t => b.toNat + 256 * ofLe t

/-- The number of bytes given most significant first. -/
def ofBe (l : Bytes) : Nat := ofLe l.reverse

/-- The n-bit two's complement pattern of an integer. -/
def ofInt (n : Nat) (i : Int) : Nat := (i % (2 ^ n : Int)).toNat

/-- The integer of an n-bit two's complement pattern. -/
def toInt (n v : Nat) : Int :=
  let u := v % 2 ^ n
  if u < 2 ^ (n - 1) then (u : Int) else (u : Int) - (2 ^ n : Int)

/-- Division to the nearest integer, halves away from zero for values of zero or more. -/
def divRound (a b : Nat) : Nat := (a + b / 2) / b

/-- Division rounded up. -/
def divUp (a b : Nat) : Nat := (a + b - 1) / b

/-- A sum that stops at a greatest value (saturating counters). -/
def satAdd (mx a b : Nat) : Nat := min mx (a + b)

/-- An integer held between two bounds. -/
def clampI (lo hi x : Int) : Int := max lo (min hi x)

/-- A number held between two bounds. -/
def clampN (lo hi x : Nat) : Nat := max lo (min hi x)

/-- Element i of a list, or the default. -/
def nth {α : Type} (l : List α) (i : Nat) (d : α) : α := (l[i]?).getD d

/-- The list with element i replaced, where it has one. -/
def setNth {α : Type} : List α → Nat → α → List α
  | [], _, _ => []
  | _ :: t, 0, v => v :: t
  | h :: t, i + 1, v => h :: setNth t i v

/-- n bytes from an offset, zeros past the end. -/
def slice (l : Bytes) (off n : Nat) : Bytes := (l.drop off).take n

/-- The little-endian field of n bytes at an offset. -/
def leAt (l : Bytes) (off n : Nat) : Nat := ofLe (slice l off n)

/-- A byte string padded with zeros to a multiple of m. -/
def padTo (m : Nat) (l : Bytes) : Bytes := l ++ List.replicate ((m - l.length % m) % m) 0

/-- The characters of a string as ASCII bytes. -/
def ascii (s : String) : Bytes := s.toList.map (fun c => byteOf c.toNat)

/-- The largest of a list, or the default of an empty one. -/
def maxOf (d : Nat) (l : List Nat) : Nat := l.foldl max d

/-- The sum of a list. -/
def sumOf (l : List Nat) : Nat := l.foldl (· + ·) 0

/-- Keep the first k elements that a test picks, in order. -/
def firstWhere {α : Type} (p : α → Bool) (l : List α) : Option α := (l.filter p).head?

/-- The largest r with r^k ≤ n, bit by bit from the highest that may stand in it. -/
def natRoot (k n : Nat) : Nat :=
  (List.range (Nat.log2 n / k + 1)).foldr (fun i r => if (r + 2 ^ i) ^ k ≤ n then r + 2 ^ i else r) 0

end Sys2Proof.Machine
end

