-- ==== Sys2Proof/Machine/Pipeline.lean ====
section
/-! DEFINITION. The image pipeline of a camera port, pixel by pixel (R281 to R284, R287, R288). -/

namespace Sys2Proof.Machine

/-- A picture: the value at a column and row, where one was received. -/
abbrev Pix := Nat → Nat → Option Nat

/-- The settings of CAM_PORT_CONFIG that shape a sensor frame (R261). -/
structure Sensor where
  width : Nat
  rows : Nat
  mono : Bool
  bayer : Nat
  flipX : Bool
  flipY : Bool
  shift : Nat
  deriving DecidableEq, Repr

/-- The sensor of a CAM_PORT_CONFIG value; RAW8 and RAW10 are shifted to 12 bits. -/
def sensorOf (v : Nat) : Sensor :=
  { width := bits v 0 14, rows := bits v 14 13, mono := bit v 49, bayer := bits v 50 2, flipX := bit v 47
    flipY := bit v 48, shift := nth [16, 4, 1] (bits v 54 2) 1 }

/-- The rows as received, in the orientation of R261, with 12-bit values. -/
def orient (s : Sensor) (rows : List (Option (List Nat))) : Pix := fun x y =>
  if x < s.width && y < s.rows then
    let row := nth rows (if s.flipY then s.rows - 1 - y else y) none
    row.bind (fun l => (l[if s.flipX then s.width - 1 - x else x]?).map (fun v => min 4095 (v * s.shift)))
  else none

/-- The colour of a mosaic position: 0 R, 1 G, 2 B (R261). -/
def colourAt (s : Sensor) (x y : Nat) : Nat :=
  nth (nth [[0, 1, 1, 2], [1, 0, 2, 1], [1, 2, 0, 1], [2, 1, 1, 0]] s.bayer []) (2 * (y % 2) + x % 2) 1

/-- The mean of n values by their sum, as a whole number: one of the two nearest where it is none. -/
def meanOver (sum n : Nat) : Nat :=
  let k := max 1 n
  if sum % k = 0 then sum / k else sum / k + b2n (Config.meanUp sum k)

/-- The mean of values, as a whole number. -/
def meanOf (l : List Nat) : Nat := meanOver (sumOf l) l.length

/-- The value at an offset from a pixel. -/
def atOff (p : Pix) (x y : Nat) (dx dy : Int) : Option Nat :=
  if (x : Int) + dx < 0 || (y : Int) + dy < 0 then none else p ((x : Int) + dx).toNat ((y : Int) + dy).toNat

/-- Stage 1, black level (R283). -/
def blackLevel (black : Nat) (p : Pix) : Pix := fun x y =>
  (p x y).map (fun v =>
    let b := bits black (16 * (2 * (y % 2) + x % 2)) 16
    (v - b) * 4095 / (4095 - b))

/-- Stage 1, defect pixels: the mean of the nearest same-colour pixels of the row, rounded down (R283). -/
def fixDefects (s : Sensor) (defects : List (Nat × Nat)) (p : Pix) : Pix := fun x y =>
  if defects.contains (x, y) then
    let d : Int := if s.mono then 1 else 2
    let l := [atOff p x y (-d) 0, atOff p x y d 0].filterMap id
    if l.isEmpty then p x y else (p x y).map (fun _ => sumOf l / l.length)
  else p x y

/-- The offsets of the eight same-colour neighbours in the 5 by 5 window. -/
def ring8 : List (Int × Int) := [(-2, -2), (0, -2), (2, -2), (-2, 0), (2, 0), (-2, 2), (0, 2), (2, 2)]

/-- Stage 2, spatial noise reduction (R283). -/
def spatial (strength thresh : Nat) (p : Pix) : Pix := fun x y =>
  (p x y).map (fun (v : Nat) =>
    let l := ring8.filterMap (fun d => atOff p x y d.1 d.2)
    let diff : Int := (sumOf l : Int) - 8 * (v : Int)
    if strength = 0 then v
    else if l.length < 8 then Config.edgePixel 2 (v :: l) % 4096
    else if diff.natAbs ≤ 8 * thresh then ((v : Int) + (diff * (strength : Int)).tdiv 64).toNat
    else v)

/-- Stage 3, one blended pixel (R288). -/
def blend (k thresh p h : Nat) : Nat := if (p - h) + (h - p) ≤ thresh then (p * (16 - k) + h * k + 8) / 16 else p

/-- The offsets of the 3 by 3 neighbourhood without its centre. -/
def ring3 : List (Int × Int) := [(-1, -1), (0, -1), (1, -1), (-1, 0), (1, 0), (-1, 1), (0, 1), (1, 1)]

/-- Stage 4, one colour of a pixel by bilinear interpolation (R284). -/
def colourOf (s : Sensor) (p : Pix) (c x y : Nat) : Option Nat :=
  (p x y).map (fun v =>
    if s.mono || colourAt s x y = c then v
    else
      let want := ring3.filter (fun d => colourAt s ((x : Int) + 2 + d.1).toNat ((y : Int) + 2 + d.2).toNat = c)
      let l := want.filterMap (fun d => atOff p x y d.1 d.2)
      if l.length < want.length then Config.edgePixel 4 (c :: v :: l) % 4096 else meanOf l)

/-- Stage 5, white balance in Q4.12 (R284). -/
def whiteBalance (wb c v : Nat) : Nat := min 4095 (v * bits wb (16 * c) 16 / 4096)

/-- Stage 6, one row of the colour matrix in Q4.12 (R284). -/
def matrixRow (ccm : Bytes) (c : Nat) (rgb : List Nat) : Nat :=
  let e := fun k => toInt 16 (leAt ccm (2 * (3 * c + k)) 2)
  let t := e 0 * (nth rgb 0 0 : Int) + e 1 * (nth rgb 1 0 : Int) + e 2 * (nth rgb 2 0 : Int)
  (clampI 0 4095 (t / 4096)).toNat

/-- Stages 4 to 6: the linear red, green and blue of a pixel. -/
def linearRgb (s : Sensor) (wb : Nat) (ccm : Bytes) (p : Pix) (x y : Nat) : Option (List Nat) :=
  match colourOf s p 0 x y, colourOf s p 1 x y, colourOf s p 2 x y with
  | some r, some g, some b =>
    let l := [whiteBalance wb 0 r, whiteBalance wb 1 g, whiteBalance wb 2 b]
    some ((List.range 3).map (fun c => matrixRow ccm c l))
  | _, _, _ => none

/-- Stage 7: the 8-bit red, green and blue of a pixel. -/
def toneRgb (tone : Bytes) (rgb : List Nat) : List Nat := rgb.map (fun v => leAt tone (v / 4) 1)

/-- The mean of the pixels of a block, colour by colour; pixels that were not received count as 0 (R274). -/
def blockMean (rgb : Nat → Nat → List Nat) (x y n : Nat) : List Nat :=
  (List.range 3).map (fun c => meanOf ((List.range n).flatMap (fun j => (List.range n).map (fun i =>
    nth (rgb (x + i) (y + j)) c 0))))

end Sys2Proof.Machine
end

