-- ==== Sys2Proof/Machine/Crypto.lean ====
section
/-! DEFINITION. CRC-32 (R197), SHA-256, HMAC-SHA-256, and P-256 (ECDSA verification and ECDH), over numbers. -/

namespace Sys2Proof.Machine

/-- One byte into a reflected CRC-32 register. -/
def crc32Step (c : Nat) (b : Byte) : Nat :=
  (List.range 8).foldl (fun r _ => if r % 2 = 1 then Nat.xor (r / 2) 0xEDB88320 else r / 2) (Nat.xor c b.toNat)

/-- CRC-32 of R197: polynomial 0x04C1_1DB7, reflected, starting and ending with all ones. -/
def crc32 (l : Bytes) : Nat := Nat.xor (l.foldl crc32Step 0xFFFFFFFF) 0xFFFFFFFF

/-- The addition of SHA-256. -/
def add32 (a b : Nat) : Nat := (a + b) % 2 ^ 32

/-- Rotation of a 32-bit word to the right. -/
def ror32 (x n : Nat) : Nat := x / 2 ^ n + (x % 2 ^ n) * 2 ^ (32 - n)

/-- The first 32 fraction bits of the k-th root of a number. -/
def rootBits (k p : Nat) : Nat := natRoot k (p * 2 ^ (32 * k)) % 2 ^ 32

/-- The first 64 primes. -/
def shaPrimes : List Nat := ((List.range 312).drop 2).filter (fun n => ((List.range 18).drop 2).all (fun d => n % d != 0 || n == d))

/-- The 64 round constants of SHA-256: cube roots of the primes. -/
def shaK : List Nat := shaPrimes.map (rootBits 3)

/-- The eight starting words of SHA-256: square roots of the primes. -/
def shaH0 : List Nat := (shaPrimes.take 8).map (rootBits 2)

/-- The message schedule, newest word first: 48 words added to the block's 16. -/
def shaSchedule (w16rev : List Nat) : List Nat :=
  (List.range 48).foldl (fun w _ =>
    let a := nth w 14 0
    let b := nth w 1 0
    let s0 := Nat.xor (Nat.xor (ror32 a 7) (ror32 a 18)) (a / 2 ^ 3)
    let s1 := Nat.xor (Nat.xor (ror32 b 17) (ror32 b 19)) (b / 2 ^ 10)
    add32 (add32 (nth w 15 0) s0) (add32 (nth w 6 0) s1) :: w) w16rev

/-- One round of SHA-256 on the eight working words. -/
def shaRound (h : List Nat) (kw : Nat) : List Nat :=
  match h with
  | [a, b, c, d, e, f, g, x] =>
    let s1 := Nat.xor (Nat.xor (ror32 e 6) (ror32 e 11)) (ror32 e 25)
    let ch := Nat.xor (Nat.land e f) (Nat.land (2 ^ 32 - 1 - e) g)
    let t1 := add32 (add32 x s1) (add32 ch kw)
    let s0 := Nat.xor (Nat.xor (ror32 a 2) (ror32 a 13)) (ror32 a 22)
    let mj := Nat.xor (Nat.xor (Nat.land a b) (Nat.land a c)) (Nat.land b c)
    [add32 t1 (add32 s0 mj), a, b, c, add32 d t1, e, f, g]
  | _ => h

/-- One 64-byte block of SHA-256. -/
def shaBlock (h : List Nat) (blk : Bytes) : List Nat :=
  let w16 := (List.range 16).map (fun i => ofBe (slice blk (4 * i) 4))
  let w := (shaSchedule w16.reverse).reverse
  let kws := List.zipWith add32 shaK w
  List.zipWith add32 h (kws.foldl shaRound h)

/-- The blocks of a padded message, n of them. -/
def shaBlocks : Nat → List Nat → Bytes → List Nat
  | 0, h, _ => h
  | n + 1, h, l => shaBlocks n (shaBlock h (l.take 64)) (l.drop 64)

/-- SHA-256. -/
def sha256 (l : Bytes) : Bytes :=
  let p := l ++ [0x80] ++ List.replicate ((119 - l.length % 64) % 64) 0 ++ beBytes 8 (8 * l.length)
  (shaBlocks (p.length / 64) shaH0 p).flatMap (beBytes 4)

/-- HMAC-SHA-256. -/
def hmac (key msg : Bytes) : Bytes :=
  let k0 := if key.length > 64 then sha256 key else key
  let k := k0 ++ List.replicate (64 - k0.length) 0
  sha256 (k.map (· ^^^ 0x5c) ++ sha256 (k.map (· ^^^ 0x36) ++ msg))

/-- The prime of P-256. -/
def p256P : Nat := 0xffffffff00000001000000000000000000000000ffffffffffffffffffffffff
/-- The order of P-256's base point. -/
def p256N : Nat := 0xffffffff00000000ffffffffffffffffbce6faada7179e84f3b9cac2fc632551
/-- The coefficient b of P-256. -/
def p256B : Nat := 0x5ac635d8aa3a93e7b3ebbd55769886bc651d06b0cc53b0f63bce3c3e27d2604b
/-- The base point of P-256. -/
def p256G : Option (Nat × Nat) :=
  some (0x6b17d1f2e12c4247f8bce6e563a440f277037d812deb33a0f4a13945d898c296,
        0x4fe342e2fe1a7f9b8ee7eb4a7c0f9e162bce33576b315ececbb6406837bf51f5)

/-- A power in a modulus, by the exponent's bits: k of them, lowest first. -/
def powMod (m : Nat) : Nat → Nat → Nat → Nat
  | 0, _, _ => 1 % m
  | k + 1, x, e =>
    let r := powMod m k (x * x % m) (e / 2)
    if e % 2 = 1 then x * r % m else r

/-- The inverse in a prime modulus of 256 bits. -/
def invMod (m x : Nat) : Nat := powMod m 256 (x % m) (m - 2)

/-- The sum of two points of P-256; none is the point at infinity. -/
def ecAdd (a b : Option (Nat × Nat)) : Option (Nat × Nat) :=
  match a, b with
  | none, q => q
  | p, none => p
  | some (x1, y1), some (x2, y2) =>
    if x1 = x2 ∧ (y1 + y2) % p256P = 0 then none
    else
      let l := if x1 = x2 then (3 * x1 * x1 + (p256P - 3)) * invMod p256P (2 * y1) % p256P
        else (y2 + p256P - y1) * invMod p256P (x2 + p256P - x1) % p256P
      let x3 := (l * l + 2 * p256P - x1 - x2) % p256P
      some (x3, (l * (x1 + p256P - x3) + p256P - y1) % p256P)

/-- A difference in P-256's field, of numbers below its prime. -/
def fieldSub (a b : Nat) : Nat := (a + p256P - b) % p256P

/-- A product in P-256's field. -/
def fieldMul (a b : Nat) : Nat := a * b % p256P

/-- A point as X/Z^2 and Y/Z^3, so that a multiple needs one inverse; Z = 0 is the point at infinity. -/
structure EcPoint where
  x : Nat
  y : Nat
  z : Nat
  deriving DecidableEq, Repr

/-- Twice a point. -/
def EcPoint.double (p : EcPoint) : EcPoint :=
  let yy := fieldMul p.y p.y
  let s := fieldMul (4 * p.x) yy
  let zz := fieldMul p.z p.z
  let m := fieldMul (3 * fieldSub p.x zz) (p.x + zz)
  let x := fieldSub (fieldMul m m) (2 * s % p256P)
  ⟨x, fieldSub (fieldMul m (fieldSub s x)) (fieldMul (8 * yy) yy), fieldMul (2 * p.y) p.z⟩

/-- The sum of two points. -/
def EcPoint.add (p q : EcPoint) : EcPoint :=
  if p.z = 0 then q
  else if q.z = 0 then p
  else
    let pz := fieldMul p.z p.z
    let qz := fieldMul q.z q.z
    let u := fieldMul p.x qz
    let s := fieldMul p.y (fieldMul qz q.z)
    let h := fieldSub (fieldMul q.x pz) u
    let r := fieldSub (fieldMul q.y (fieldMul pz p.z)) s
    if h = 0 then (if r = 0 then p.double else ⟨1, 1, 0⟩)
    else
      let hh := fieldMul h h
      let hhh := fieldMul hh h
      let v := fieldMul u hh
      let x := fieldSub (fieldSub (fieldMul r r) hhh) (2 * v % p256P)
      ⟨x, fieldSub (fieldMul r (fieldSub v x)) (fieldMul s hhh), fieldMul (fieldMul h p.z) q.z⟩

/-- The multiple of a point, by k bits of the scalar, lowest first. -/
def EcPoint.times : Nat → Nat → EcPoint → EcPoint
  | 0, _, _ => ⟨1, 1, 0⟩
  | k + 1, e, q =>
    let r := EcPoint.times k (e / 2) q.double
    if e % 2 = 1 then q.add r else r

/-- The multiple of a point, by k bits of the scalar; none is the point at infinity. -/
def ecMul (k e : Nat) (q : Option (Nat × Nat)) : Option (Nat × Nat) :=
  match q with
  | none => none
  | some (x, y) =>
    let p := EcPoint.times k e ⟨x, y, 1⟩
    if p.z = 0 then none
    else
      let w := invMod p256P p.z
      let ww := fieldMul w w
      some (fieldMul p.x ww, fieldMul p.y (fieldMul ww w))

/-- The point of a 64-byte key, X then Y, when it lies on the curve. -/
def ecPoint (key : Bytes) : Option (Nat × Nat) :=
  let x := ofBe (slice key 0 32)
  let y := ofBe (slice key 32 32)
  if key.length = 64 ∧ x < p256P ∧ y < p256P ∧
      (y * y) % p256P = (x * x * x + (p256P - 3) * x + p256B) % p256P then some (x, y) else none

/-- The 64 bytes of a point, X then Y. -/
def ecBytes : Option (Nat × Nat) → Bytes
  | none => List.replicate 64 0
  | some (x, y) => beBytes 32 x ++ beBytes 32 y

/-- ECDSA P-256: the signature r then s verifies over a SHA-256 digest under a 64-byte public key. -/
def ecdsaOk (key digest sig : Bytes) : Bool :=
  let r := ofBe (slice sig 0 32)
  let s := ofBe (slice sig 32 32)
  match ecPoint key with
  | none => false
  | some q =>
    if sig.length = 64 ∧ 0 < r ∧ r < p256N ∧ 0 < s ∧ s < p256N then
      let w := invMod p256N s
      let u1 := ofBe digest * w % p256N
      let u2 := r * w % p256N
      match ecAdd (ecMul 256 u1 p256G) (ecMul 256 u2 (some q)) with
      | none => false
      | some (x, _) => decide (x % p256N = r)
    else false

/-- The two keys of a P-256 point with X coordinate x, where it has one. -/
def ecLift (x : Nat) : List (Nat × Nat) :=
  let y2 := (x * x * x + (p256P - 3) * x + p256B) % p256P
  let y := powMod p256P 256 y2 ((p256P + 1) / 4)
  if x < p256P ∧ y * y % p256P = y2 then [(x, y), (x, p256P - y)] else []

/-- The public keys under which an ECDSA signature verifies over a digest. -/
def ecKeys (digest sig : Bytes) : List Bytes :=
  let r := ofBe (slice sig 0 32)
  let s := ofBe (slice sig 32 32)
  let w := invMod p256N r
  let u1 := (p256N - ofBe digest * w % p256N) % p256N
  let u2 := s * w % p256N
  ((ecLift r ++ ecLift (r + p256N)).map (fun q => ecBytes (ecAdd (ecMul 256 u1 p256G) (ecMul 256 u2 (some q))))).filter
    (fun k => ecdsaOk k digest sig)

/-- The X coordinate of an ECDH product (R533), as 32 bytes. -/
def ecdhX (secret : Nat) (peer : Bytes) : Bytes :=
  match ecPoint peer with
  | none => List.replicate 32 0
  | some q => (ecBytes (ecMul 256 secret (some q))).take 32

end Sys2Proof.Machine
end

