-- ==== Sys2Proof/Machine/Map.lean ====
section
/-! DEFINITION. Finite maps as sorted lists of key and value, and the byte memory in its canonical form. -/

namespace Sys2Proof.Machine

/-- A finite map: an unlisted key reads as a default that the reader names. -/
abbrev FMap (α : Type) := List (Nat × α)

/-- The value at a key, or the default. -/
def fget {α : Type} : FMap α → Nat → α → α
  | [], _, d => d
  | (j, v) :: t, k, d => if j = k then v else fget t k d

/-- The value at a key, if one is listed. -/
def ffind {α : Type} : FMap α → Nat → Option α
  | [], _ => none
  | (j, v) :: t, k => if j = k then some v else ffind t k

/-- The map with a value set at a key. -/
def fset {α : Type} : FMap α → Nat → α → FMap α
  | [], k, v => [(k, v)]
  | (j, w) :: t, k, v =>
    if k < j then (k, v) :: (j, w) :: t
    else if k = j then (k, v) :: t
    else (j, w) :: fset t k v

/-- The map without a key. -/
def fdel {α : Type} (m : FMap α) (k : Nat) : FMap α := m.filter (fun p => p.1 != k)

/-- The map with the value at a key changed by a function. -/
def fupd {α : Type} (m : FMap α) (k : Nat) (d : α) (f : α → α) : FMap α := fset m k (f (fget m k d))

/-- What a byte of job memory that nothing has written reads as (log entry 6, DESIGN CHOICE). -/
def Memory.unlisted : Byte := 0

/-- The byte at an address. -/
def Memory.read : List (Nat × Byte) → Nat → Byte
  | [], _ => Memory.unlisted
  | (j, v) :: t, a => if j = a then v else Memory.read t a

/-- Insert at the sorted place; writing what an unlisted address reads as removes the entry. -/
def Memory.write : List (Nat × Byte) → Nat → Byte → List (Nat × Byte)
  | [], a, v => if v = Memory.unlisted then [] else [(a, v)]
  | (j, w) :: t, a, v =>
    if a < j then (if v = Memory.unlisted then (j, w) :: t else (a, v) :: (j, w) :: t)
    else if a = j then (if v = Memory.unlisted then t else (a, v) :: t)
    else (j, w) :: Memory.write t a v

/-- Consecutive bytes written from an address upwards. -/
def Memory.writeAll : List (Nat × Byte) → Nat → Bytes → List (Nat × Byte)
  | m, _, [] => m
  | m, a, b :: bs => Memory.writeAll (Memory.write m a b) (a + 1) bs

/-- Consecutive bytes read from an address upwards. -/
def Memory.readAll (m : List (Nat × Byte)) (a : Nat) (n : Nat) : Bytes :=
  (List.range n).map (fun k => Memory.read m (a + k))

/-- Every address of the list lies above the bound, addresses rise, and no entry is what an unlisted byte reads as. -/
def Memory.wfFrom : Nat → List (Nat × Byte) → Bool
  | _, [] => true
  | lo, (a, v) :: t => lo ≤ a && v != Memory.unlisted && Memory.wfFrom (a + 1) t

/-- The canonical form of job memory: equal memories are equal lists. -/
def Memory.wf (m : List (Nat × Byte)) : Bool := Memory.wfFrom 0 m

end Sys2Proof.Machine
end

