-- ==== Sys2Proof/Machine/State.lean ====
section
/-! DEFINITION. The state of the module as plain data, the reasons a step can stop, and the state after reset. -/

namespace Sys2Proof.Machine

/-- Why a step stops (WellFormed refuses the same terms). -/
inductive Fault
  /-- Raised by a command that names a port, bar, camera, channel, engine or other unit that the module does not
  have (R19, R20). Safe: the hardware has no such command. -/
  | noSuchUnit (unit : String) (n : Nat)
  deriving DecidableEq, Repr

/-- Why a step is refused. -/
inductive Refusal
  /-- Raised by an arm of Dispatch whose meaning is not written yet. Safe. -/
  | notModelled (mnemonic : String)
  deriving DecidableEq, Repr

/-- Who makes a dictionary access (R562, R567): a session, E13, or the active module that forwards a write with
its port, bar or engine named (R438). -/
inductive Who
  | host (sid : Nat)
  | e13
  | peer (inst : Nat)
  deriving DecidableEq, Repr

/-- A value of the dictionary: a number of any numeric type, or a byte string (BLOB and STR). -/
inductive Val
  | num (i : Int)
  | blob (b : Bytes)
  deriving DecidableEq, Repr

/-- The agent that records (R582). `unstated` is an agent that no chapter names (log entry 7). -/
inductive Agent
  | unit (n : Nat)
  | yarrow
  | peer
  | unstated
  deriving DecidableEq, Repr

/-- A record (R580, R581). `num` counts the records the module ever wrote; SEQ is its low 16 bits (R584). -/
structure Rec where
  code : Nat
  agent : Agent
  notActive : Bool
  trail : Bool
  lineValid : Bool
  timeValid : Bool
  domain : Nat
  repeats : Nat
  num : Nat
  time : Nat
  line : Nat
  spanMs : Nat
  p0 : Nat
  p1 : Nat
  deriving DecidableEq, Repr

/-- One entry of an ACCESS response (R538). -/
structure EntryReply where
  idx : Nat
  sub : Nat
  status : Status
  resultSeq : Nat
  ty : Nat
  total : Nat
  data : Bytes
  deriving DecidableEq, Repr

/-- A message between the modules of a pair over Bindweed (chapter 13); `giveUp` is a yield (R452). -/
inductive PeerMsg
  | heartbeat (bytes : Bytes)
  | verdict (no : Nat) (body : VerdictBody)
  | verdictAck (no : Nat)
  | forward (no idx sub inst : Nat) (data : Bytes)
  | forwardAck (no : Nat) (st : Status)
  | mirror (recordNo chunk : Nat) (data : Bytes)
  | originStamp (stamp : Nat)
  | originCount (time : Nat) (count : Int)
  | stopReport (cause : Nat) (ports : Nat) (event : Nat)
  | stats (p : PeerStats)
  | digest (handle : Nat) (d : Bytes)
  | fetch (handle : Nat)
  | resync (d : ResyncData)
  | giveUp
  deriving DecidableEq, Repr

/-- What the last command, and the time before it, put on the module's links and ports (log entry 4): a link frame with its
bytes between SOF and EOF, an ordered set or EAB symbol by symbol (a K symbol has true), and the REFOUT outputs that are
driven. -/
inductive Out
  | frame (port : Nat) (f : Frame) (bytes : Bytes)
  | ordered (port kind : Nat) (symbols : List (Bool × Nat))
  | refOut (mask : Nat)
  | answer (who : Who) (idx sub : Nat) (st : Status)
  | value (who : Who) (idx sub : Nat) (data : Bytes) (resultSeq : Nat)
  | response (src sid seq : Nat) (st : Status) (entries : List EntryReply) (body mac : Bytes)
  | notice (sid seq : Nat) (records : List Rec) (mac : Bytes)
  | preview (sid cam frameNo part : Nat) (data : Bytes)
  | peer (m : PeerMsg)
  | harebell (bytes : Bytes)
  | net (port kind : Nat) (domain : Nat) (fields : List Nat)
  | yarrow (kind : Nat) (fields : List Nat)
  | camBus (cam addr speed : Nat) (bytes : Bytes) (isRead : Bool)
  | tap (bits : Bytes)
  deriving DecidableEq, Repr

/-- An open record (R587): the record and the link time of its last occurrence. -/
structure OpenRec where
  r : Rec
  firstAt : Nat
  lastAt : Nat
  deriving DecidableEq, Repr

/-- The service recorder (R584 to R596). The lists hold closed records, oldest first. -/
structure Recorder where
  openRecs : List OpenRec := []
  first : List Rec := []
  last : List Rec := []
  lastBase : Nat := 0
  fore : List Rec := []
  made : Nat := 0
  lost : Nat := 0
  starts : Nat := 0
  areaFull : Bool := false
  unclean : Bool := false
  layout : Nat := 0
  flushed : Bool := false
  deriving DecidableEq, Repr

/-- The stored values of the dictionary (R13, R76): values and shadows, and the RS values in effect outside a run.
An unlisted key reads as the object table's value. Keys are those of `okey`. -/
structure Dict where
  nums : FMap Int := []
  blobs : FMap Bytes := []
  effNums : FMap Int := []
  effBlobs : FMap Bytes := []
  deriving DecidableEq, Repr

/-- One session's copies of the session-local objects (R562). -/
structure Locals where
  seamSel : Nat := 0
  portSel : Nat := 0
  barSel : Nat := 0
  layerSel : Nat := 0
  camSel : Nat := 0
  query : Nat := 0
  rsView : Nat := 0
  memBase : Nat := 0
  deriving DecidableEq, Repr

/-- A session (R532 to R550). `level` is 1 OPERATOR, 2 INTEGRATOR, 3 VERIFIER, 4 VENDOR. -/
structure Session where
  level : Nat := 0
  net : Nat := 0
  authed : Bool := false
  src : Nat := 0
  openedAt : Nat := 0
  lastReq : Nat := 0
  lastSeq : Nat := 0
  lastMac : Bytes := []
  kept : Option Out := none
  kReq : Bytes := []
  kRsp : Bytes := []
  transcript : Bytes := []
  segKey : Option Nat := none
  segData : Bytes := []
  loc : Locals := {}
  eventMask : Option Nat := none
  preview : Option (Nat × Nat) := none
  noticeSeq : Nat := 0
  waiting : List Rec := []
  deriving DecidableEq, Repr

/-- A bulk transfer (R543 to R547). -/
structure Transfer where
  handle : Nat := 0
  total : Nat := 0
  digest : Bytes := []
  multicast : Bool := false
  net : Nat := 0
  received : List (Nat × Nat) := []
  data : List (Nat × Bytes) := []
  lastChunk : Nat := 0
  state : Nat := 0
  fail : Nat := 0
  deriving DecidableEq, Repr

/-- One entry of an ACCESS request (R537). -/
structure HyEntry where
  idx : Nat
  sub : Nat
  flags : Nat
  offset : Nat
  len : Nat
  data : Bytes
  deriving DecidableEq, Repr

/-- An ACCESS request under way (R536, R537, R568): its session, source, SEQ and flags, the entries that are left, the
replies so far, the entry that waits, and the key of its response. -/
structure HyRun where
  sid : Nat
  src : Nat
  seq : Nat
  stop : Bool
  small : Bool
  rest : List HyEntry := []
  done : List EntryReply := []
  idx : Nat := 0
  sub : Nat := 0
  kRsp : Bytes := []
  deriving DecidableEq, Repr

/-- Sessions, credentials and ingest (chapter 16). `run` is the request whose entry waits, `queue` those behind it. -/
structure Hy where
  sessions : FMap Session := []
  nextSid : Nat := 1
  refused : List (Nat × Nat) := []
  blocked : FMap Nat := []
  counters : FMap Nat := []
  transfers : FMap Transfer := []
  nextTransfer : Nat := 1
  nextHandle : Nat := 1
  resultSeq : Nat := 1
  run : Option HyRun := none
  queue : List HyRun := []
  e13 : Locals := {}
  deriving DecidableEq, Repr

/-- The process encoder, origin, web lines and speed estimator (chapter 02). `fastFrom` is since when the datum line rate has
exceeded the cap (R234). -/
structure Enc where
  raw : Int := 0
  dirDown : Bool := false
  dirNoticed : Bool := false
  illegalTotal : Nat := 0
  illegalTimes : List Nat := []
  illegalLatched : Nat := 0
  faultCause : Nat := 0
  fault : Bool := false
  openLines : List EncLine := []
  indexSeen : Bool := false
  indexOnce : Bool := false
  indexFree : Bool := true
  indexRef : Int := 0
  indexBase : Int := 0
  hiRaw : Int := 0
  loRaw : Int := 0
  origin : Option Int := none
  originStamp : Nat := 0
  armSource : Nat := 0
  armed : Bool := false
  firstLine : Nat := 0
  datumNext : Nat := 0
  barNext : FMap Nat := []
  window : List (Nat × Int) := []
  datumTimes : List Nat := []
  events : Nat := 0
  waitForward : Bool := false
  lastCount : Nat := 0
  counted : Bool := false
  overspeed : Bool := false
  fastFrom : Option Nat := none
  deriving DecidableEq, Repr

/-- A PSO output (R66 to R71). -/
structure Pso where
  queue : List PsoEntry := []
  next : Nat := 0
  held : Bool := false
  pulseEnd : Option Nat := none
  deriving DecidableEq, Repr

/-- A commit that waits for a SHADOW bank (R171): one of a host names who asked, one of the loop is held there. -/
structure WaitingSeam where
  who : Who
  target : Nat
  scope : Nat
  id : Nat
  flags : Nat
  host : Bool
  since : Nat
  deriving DecidableEq, Repr

/-- The table banks of a bar and group (R169, R170): the applied line of the seam whose set is in NEXT or is being
loaded into it, and the loads under way, oldest first (0 SHADOW, 1 NEXT). -/
structure Banks where
  nextSeam : Option Nat := none
  loads : List Nat := []
  deriving DecidableEq, Repr

/-- Seams and run-ahead (chapter 03). -/
structure Seams where
  table : List Seam := []
  vals : List SeamVals := []
  waiting : List WaitingSeam := []
  fireNext : FMap Nat := []
  queued : FMap Nat := []
  compNext : FMap Nat := []
  compStart : FMap Nat := []
  portNext : FMap Nat := []
  redo : FMap Nat := []
  times : FMap (List Nat) := []
  banks : FMap Banks := []
  bankWait : FMap Nat := []
  entered : Nat := 0
  deriving DecidableEq, Repr

/-- A posted content of a variable layer (R131). -/
structure Post where
  layer : Nat
  jobId : Nat
  frame : Nat
  content : Nat
  postedAt : Nat
  deriving DecidableEq, Repr

/-- A line of a bar's dot store (R177): its web line and levels from nozzle 0. -/
structure DotLine where
  line : Nat
  levels : List Nat
  deriving DecidableEq, Repr

/-- What the inspection ring holds of a web line at a bar (R145, R146): the ink of each reference pixel summed over its
positions in the line, and the static-mask bit of each tile column. -/
structure RefLine where
  line : Nat
  bar : Nat
  pixels : List Nat
  staticTiles : List Bool
  deriving DecidableEq, Repr

/-- Frames, layers and composition (chapters 04 and 05). -/
structure Comp where
  posts : List Post := []
  frames : List PrintFrame := []
  rejectList : List (Nat × Nat × Nat) := []
  rejectLog : List RejectEntry := []
  framesClosed : Nat := 0
  framesReject : Nat := 0
  demand : List Nat := [0, 0, 0, 0, 0]
  mapReserved : List Nat := []
  jobEnd : List Nat := []
  jobStarted : Option Nat := none
  dots : FMap (List DotLine) := []
  lastSet : FMap (Nat × Nat × Nat) := []
  ring : List RefLine := []
  deriving DecidableEq, Repr

/-- The phases of a port (R221). -/
inductive LinkPhase
  | down | ts1 | lock | eq | config | delay | active | sleep
  deriving DecidableEq, Repr

/-- Training, delay and transport of a port (chapter 06). -/
structure Link where
  phase : LinkPhase := .down
  failures : Nat := 0
  startedAt : Nat := 0
  heard : Bool := false
  ts1Run : Nat := 0
  rxLocked : Bool := false
  inverted : Bool := false
  eqStep : Nat := 0
  eqBest : Nat := 0
  eqBestStep : Nat := 0
  eqTried : Nat := 0
  eqSince : Nat := 0
  eqDone : Bool := false
  peerEqDone : Bool := false
  ts2Run : Nat := 0
  badSymbols : List Nat := []
  eqConfig : Nat := 0
  asym : Int := 0
  rxIdle : Bool := false
  txIdle : Bool := false
  delay : Nat := 0
  delayTarget : Nat := 0
  spread : Nat := 0
  temp : Int := 0
  measuredAt : Nat := 0
  samples : List Int := []
  exchange : Option Nat := none
  exchangeDue : Nat := 0
  measuring : Bool := false
  due : Bool := false
  holder : Nat := 0
  timeValid : Bool := false
  badTimes : List Nat := []
  counters : FMap Nat := []
  deriving DecidableEq, Repr

/-- A sent sequenced frame that no ACK covers yet; `noticed` says that its loss has been noticed (R207). -/
structure Unacked where
  f : Frame
  sentAt : Nat
  tries : Nat
  noticed : Bool := false
  deriving DecidableEq, Repr

/-- A configuration request that awaits its answer (R207, R219): its data where it writes, the event from which a write
with APPLY_AT takes effect, and how often it has been resent. -/
structure CfgReq where
  addr : Nat
  data : Option Bytes
  event : Option Nat
  seq : Nat
  sentAt : Nat
  tries : Nat
  deriving DecidableEq, Repr

/-- A port's queues to and from the endpoint (R198 to R219): the frames that wait for the lane, highest priority first, when
the next may leave, and the frame on the lane with its end (R202); what has been received and what is missing (R206).
`taken` holds LINEs that an ACK covers, which BUFFER_FULL may still refuse (R213).
`sleepAfter` says that EIOS follows the frames that wait (R187). -/
structure Transport where
  txSeq : Nat := 0
  rxSeq : Nat := 0
  rxLast : Option Nat := none
  rxMissing : List Nat := []
  ackAt : Nat := 0
  unacked : List Unacked := []
  taken : List Frame := []
  liveCount : Nat := 0
  queue : List Frame := []
  freeAt : Nat := 0
  sending : Option (Frame × Nat) := none
  sleepAfter : Bool := false
  token : Bool := false
  claim : Option (Nat × Nat × Nat) := none
  denied : Nat := 0
  epInfo : FMap Nat := []
  epSerial : Bytes := []
  slotSerials : List Bytes := []
  enumerated : Bool := false
  mismatch : Bool := false
  cfgQueue : List CfgReq := []
  applyAt : List (Nat × Nat) := []
  rewrite : Bool := false
  deriving DecidableEq, Repr

/-- A FIRE that has been queued at a port (R203, R238); `left` says that it has left. -/
structure FireRec where
  event : Nat
  time : Nat
  gen : Nat
  blank : Bool
  left : Bool := false
  deriving DecidableEq, Repr

/-- A LINE that has been assembled at a port (R204, R209): event and generation, and, once it has left, the link time of its
last symbol. -/
structure LineRec where
  event : Nat
  gen : Nat
  doneAt : Nat
  resent : Bool
  lost : Bool
  left : Bool := false
  deriving DecidableEq, Repr

/-- Firing state of a port (chapter 07). `capped` holds the ranges of events at which its level cap or a stop was set
(R320); `resumeKind` is the stop whose RESUME the endpoint has not acknowledged (R675); `limits` are the limits that the last
STATUS was judged by (R244); `policies` holds an ACTIVE module's decisions for events still to come (R249); `excused` holds
events fired blank for data that the module knows to be late or lost (R241). -/
structure FirePort where
  nextLine : Nat := 0
  lines : List LineRec := []
  gens : FMap Nat := []
  fires : List FireRec := []
  lastFired : Option Nat := none
  stopUnacked : Bool := false
  resumeKind : Option Nat := none
  temps : List (Option Int) := []
  tempMax : Option Int := none
  missRun : List Nat := [0, 0, 0, 0, 0, 0, 0, 0]
  noReading : Bool := false
  noStatus : Bool := false
  limits : Option (Int × Int × Int) := none
  policies : List (Nat × Nat) := []
  tempCap : Bool := false
  tempStop : Bool := false
  overspeed : Bool := false
  firing : Bool := false
  statusAt : Nat := 0
  lateLines : Nat := 0
  lateSeen : List (Nat × Nat) := []
  excused : List Nat := []
  lastBlock : Option Nat := none
  capped : List (Nat × Nat) := []
  counters : FMap Nat := []
  deriving DecidableEq, Repr

/-- A head port (chapters 05 to 07). -/
structure Port where
  link : Link := {}
  tx : Transport := {}
  fire : FirePort := {}
  deriving DecidableEq, Repr

/-- The gating path, STOP_REQ reasons and the bar link's own timers (chapters 06 and 07). -/
structure Gate where
  latched : Nat := 0
  present : Nat := 0
  overStop : Bool := false
  modeStop : Bool := false
  coldInhibit : Bool := false
  syncAt : Nat := 0
  liveAt : Nat := 0
  deriving DecidableEq, Repr

/-- Stationary firing (R620, R621). -/
structure Stationary where
  active : Bool := false
  ports : Nat := 0
  pattern : Nat := 0
  level : Nat := 0
  period : Nat := 0
  left : Option Nat := none
  dueAt : Nat := 0
  lineNo : Nat := 0
  deriving DecidableEq, Repr

/-- Modes, start-up, firmware and OTP (chapter 19). `step` is the step of R627 that has ended; `group` groups of ports have
begun training. `factory` marks the firmware slots that still hold what the factory put there (log entry 3);
`revoked` is what REVOKED was at the last start-up, `otpRevoked` what it is now (R638); `confirmDue` says that the slot
to boot is confirmed by the first start-up that reaches IDLE (R634). -/
structure Sys where
  mode : Mode := .reset
  previous : Mode := .reset
  enteredAt : Nat := 0
  holdRequested : Bool := false
  safeCause : Nat := 0
  safeUnit : Nat := 0
  yielded : Bool := false
  lineBase : Nat := 0
  startupMs : Nat := 0
  leavingSafe : Bool := false
  nNext : Nat := 0
  stationary : Stationary := {}
  powerGoodAt : Nat := 0
  step : Nat := 0
  group : Nat := 0
  groupDue : Nat := 0
  slots : List Bytes := [[], [], []]
  running : Nat := 0
  bootNext : Nat := 0
  confirmed : Nat := 0
  trial : Bool := false
  tries : Nat := 0
  keyHashes : List Bytes := []
  revoked : Nat := 0
  secMin : Nat := 0
  debugLock : Nat := 0
  otpConfig : List Bytes := []
  inEffect : Option Nat := none
  psoSafe : Nat := 0
  otpRead : Bool := false
  otpRevoked : Nat := 0
  factory : List Bool := [true, true, true]
  confirmDue : Bool := false
  faultN : Bool := false
  deriving DecidableEq, Repr

/-- A valid copy of an item of the settings store (R605, R606). `kind`: 1 configuration set, 2 camera calibration,
3 zone baselines of a bar, 4 user image, 5 nozzle baselines of a head slot; the rest is what the item holds. -/
structure StoreItem where
  kind : Nat
  key : Nat
  gen : Nat := 0
  nums : FMap Int := []
  blobs : FMap Bytes := []
  lists : FMap (List Int) := []
  deriving DecidableEq, Repr

/-- The settings store beyond Yarrow's region and the firmware slots (R605 to R610): the valid copies, newest last, the
writes that wait, each with whether it is a retry, the calibrations in effect, the baselines by the CRC-32 of serials (R327),
and the items and keys that had a bad check word at start-up. -/
structure Store where
  items : List StoreItem := []
  writes : List (StoreItem × Bool) := []
  configGen : Nat := 0
  badItems : Nat := 0
  erasesMax : Nat := 0
  saver : Option Who := none
  camCal : FMap (List Int) := []
  nozzleBase : FMap (List Int) := []
  zoneBase : FMap (List Int) := []
  badKeys : List (Nat × Nat) := []
  deriving DecidableEq, Repr

/-- An exposure set (R276). -/
structure ExpSet where
  setId : Nat := 0
  strobe : Nat := 0
  delay : Nat := 0
  writes : List (Nat × Nat) := []
  deriving DecidableEq, Repr

/-- An issued trigger whose sensor frame is awaited: its tag, when it was issued, the raw position of the trigger
point, whether it belongs to a calibration, and the stream configuration it has. -/
structure Shot where
  tag : CamTag
  issuedAt : Nat
  trigRaw : Int
  cal : Bool
  streams : FMap Int
  black : Nat
  wb : Nat
  deriving DecidableEq, Repr

/-- A transfer of the sensor control bus: register, value, and whether it reads (R260). Register 0xFFFF is a pause. -/
structure BusXfer where
  reg : Nat
  value : Nat
  read : Bool
  deriving DecidableEq, Repr

/-- A slot of the temporal noise reduction history (R287). -/
structure TnrSlot where
  jobId : Nat
  jobFrame : Nat
  setId : Nat
  tiles : List Nat
  pixels : List (List Nat)
  deriving DecidableEq, Repr

/-- An ST_A entry (R291): its offset in the ring, tag, and rows of pixels; a pixel is R, G and B. -/
structure StaEntry where
  offset : Nat
  tag : CamTag
  rows : List (List (List Nat))
  dropped : Nat
  cols : Nat
  x0 : Nat
  bin : Bool
  deriving DecidableEq, Repr

/-- A camera port (chapter 08). `phase`: 0 held in reset, 1 starting, 2 running, 3 FAULT. `busKind`: 0 start-up script,
1 exposure commit, 2 exposure rewrite. -/
structure Cam where
  phase : Nat := 0
  bus : List BusXfer := []
  busKind : Nat := 0
  pauseTill : Option Nat := none
  trigNext : Nat := 0
  frameNo : Nat := 0
  lastTrig : Option Nat := none
  shots : List Shot := []
  cur : Option Shot := none
  rows : List (Option (List Nat)) := []
  rowCount : Nat := 0
  lastRow : Nat := 0
  dropFrom : Option Nat := none
  trigEnd : Option Nat := none
  flashAt : Option Nat := none
  flashEnd : Option Nat := none
  flashMid : Option (Nat × Option Int) := none
  expState : Nat := 0
  inEffect : ExpSet := {}
  pendingSet : Option ExpSet := none
  effectFrame : Option Nat := none
  uncertain : Bool := false
  uncertainLeft : Nat := 0
  streams : FMap Int := []
  nextStreams : Option (Nat × FMap Int) := none
  readyAt : Nat := 0
  tnr : FMap TnrSlot := []
  tnrOff : List Nat := []
  ring : List StaEntry := []
  lastTag : Option CamTag := none
  stats : Option (CamTag × List WinResult × Nat) := none
  statsRead : Bool := true
  profiles : Option (CamTag × List WinResult × Nat) := none
  profilesRead : Bool := true
  lastPreview : Option Nat := none
  calState : Nat := 0
  calCause : Nat := 0
  calTemp : Int := -32768
  temp : Option Int := none
  due : Option Nat := none
  counters : FMap Nat := []
  deriving DecidableEq, Repr

/-- A camera calibration run (R598 to R602). `phase`: 0 none, 1 arm settling, 2 dark frame, 3 lit frames, 4 arm
settling back. -/
structure CalRun where
  phase : Nat := 0
  cams : Nat := 0
  since : Nat := 0
  startedAt : Nat := 0
  black : FMap (List Nat) := []
  lit : FMap (List (List Nat)) := []
  cause : FMap Nat := []
  result : FMap (List Nat) := []
  lastEnd : Option Nat := none
  deriving DecidableEq, Repr

/-- One measurement of the loop (R308): camera, tag, window number and its results. -/
structure Meas where
  cam : Nat
  tag : CamTag
  wins : List WinResult
  deriving DecidableEq, Repr

/-- A candidate change of a nozzle (R321): bar, nozzle, candidate state and bands in a row. -/
structure Cand where
  bar : Nat
  nozzle : Nat
  cand : Nat
  count : Nat
  deriving DecidableEq, Repr

/-- One change of an offset in a loop seam (R314): applied line, bar, index 17 z + k, and its size. -/
structure RateItem where
  applied : Nat
  bar : Nat
  index : Nat
  size : Nat
  deriving DecidableEq, Repr

/-- A seam that the loop posts: target and scope, the zone offsets of bars, changes of nozzles as (bar, nozzle, state,
gain), how many zones change, the changes as (bar, index, size), and the feed-forward parts. -/
structure LoopPost where
  target : Nat
  scope : Nat
  zones : FMap Bytes
  edits : List (Nat × Nat × Nat × Nat)
  changed : Nat
  sizes : List (Nat × Nat × Nat)
  forward : FMap (List Int)
  deriving DecidableEq, Repr

/-- The colour loop (chapter 09). `mode`, `policy` and `coefs` are LOOP_MODE, LOOP_POLICY and LOOP_FEEDFORWARD as the
cycle took them; the next cycle begins at or after `notBefore`; `left` and `taken` count a LEARNING bar's cycles;
`forward` is the feed-forward part of each offset; `peerBands` the peer's phase profiles by band. -/
structure Loop where
  mode : Nat := 0
  policy : List Nat := []
  coefs : FMap (Int × Bytes) := []
  notBefore : Nat := 0
  cycleFrom : Option Nat := none
  cycleFrames : Nat := 0
  meas : List Meas := []
  computing : Option Nat := none
  learning : Nat := 0
  left : FMap Nat := []
  taken : FMap Nat := []
  half : Bool := false
  saturated : Bool := false
  cycles : Nat := 0
  nextSeam : Nat := 0xF000
  lastSeam : Nat := 0
  lastLine : Nat := 0
  lastApplied : Nat := 0
  lastNozzle : Nat := 0
  zoneErr : FMap (List Nat) := []
  forward : FMap (List Int) := []
  rate : List RateItem := []
  retry : Option LoopPost := none
  held : List (LoopPost × Bool) := []
  cands : List Cand := []
  lastBand : Option Nat := none
  resetBars : Nat := 0
  resetSlots : List Nat := []
  savedAt : Nat := 0
  temps : FMap (List Int) := []
  peerStats : Nat := 0
  peerBands : List (Nat × Nat × List (List Nat)) := []
  pausedAt : Option Nat := none
  deriving DecidableEq, Repr

/-- Where a part of a stream row lies (R355, R356): buffer, offset in it, offset in the stream, length, and the row's
first unit in the part. -/
structure Part where
  buf : Nat
  off : Nat
  start : Nat
  len : Nat
  unit : Nat
  deriving DecidableEq, Repr

/-- A content object (R119, R361): `raw` and `stream` hold its planes as sent and as stored, `hash` the digest of what
is stored. `state`: 1 RECEIVING, 2 QUEUED, 3 CODING, 4 VERIFYING, 5 READY, 6 FAILED. `kind`: 0 contone, 1 drop. -/
structure Content where
  kind : Nat := 0
  input : Nat := 0
  coding : Nat := 0
  mask : Nat := 0
  x : Nat := 0
  y : Nat := 0
  w : Nat := 0
  h : Nat := 0
  signed : Bool := false
  digest : Bytes := []
  signature : Bytes := []
  state : Nat := 0
  bound : Nat := 0
  maps : FMap Bytes := []
  raw : Bytes := []
  stream : Bytes := []
  errors : FMap (List Nat) := []
  worst : Nat := 0xFF
  refused : Nat := 0
  firstBad : Nat := 0xFFFFFFFF
  failCause : Nat := 0
  buffers : List (Nat × Nat × Nat) := []
  parts : List Part := []
  hash : Bytes := []
  remainder : Nat := 0
  bufferKib : Nat := 0
  peerDigest : Bytes := []
  waitSince : Option Nat := none
  ready : Bool := false
  doneAt : Nat := 0
  deriving DecidableEq, Repr

/-- Content objects and the coding path (chapter 10). -/
structure Frc where
  objects : FMap Content := []
  queue : List Nat := []
  used : Nat := 0
  nextBuffer : Nat := 0
  counters : FMap Nat := []
  deriving DecidableEq, Repr

/-- A memory channel (R365 to R382): case temperature, refresh debt and rate, and since when it pays debt back. -/
structure Channel where
  temp : Option Int := none
  debt : Nat := 0
  rate : Nat := 0
  paying : Option Nat := none
  tempHigh : Bool := false
  deriving DecidableEq, Repr

/-- A requester of the fabric (R384 to R394): its current rank and whether it is lifted. -/
structure Requester where
  rank : Nat := 0
  lifted : Bool := false
  deriving DecidableEq, Repr

/-- Job memory's controllers and the fabric (chapter 11). -/
structure Mem where
  channels : FMap Channel := []
  reqs : FMap Requester := []
  quarantine : Nat := 0
  mapInEffect : Nat := 3
  counters : FMap Nat := []
  deriving DecidableEq, Repr

/-- A breakpoint of an engine (R425). -/
structure Breakpoint where
  addr : Nat := 0
  mask : Nat := 0
  kind : Nat := 0
  deriving DecidableEq, Repr

/-- An engine (R401, R420). `state`: 0 RESET, 1 RUNNING, 2 HALTED, 3 FAULT, 4 SLEEP, 5 WAITING. Registers 0 to 31,
pc at 32 and CSRs from 0x1000 are in `regs`; what is not listed there or in `local_` is what the program's run `ran`
left, a free value (log entry 5), and 0 before the first run. -/
structure Engine where
  state : Nat := 0
  cause : Nat := 0
  resets : Nat := 0
  waitSem : Option Nat := none
  waitSince : Nat := 0
  grantWord : Nat := 0
  regs : FMap Nat := []
  local_ : FMap Byte := []
  bps : FMap Breakpoint := []
  ran : Nat := 0
  deriving DecidableEq, Repr

/-- A semaphore (R410 to R417). `state`: 0 FREE, 1 HELD, 2 ABANDONED. An owner of 14 is none. -/
structure Sem where
  state : Nat := 0
  recovering : Bool := false
  owner : Nat := 14
  lastOwner : Nat := 14
  waiters : List (Nat × Nat) := []
  leaseEnd : Nat := 0
  frozen : Option Nat := none
  deriving DecidableEq, Repr

/-- The user engine's image, watchdog and mailboxes (R405 to R409); `starts` counts its starts. -/
structure User where
  image : Bytes := []
  digest : Bytes := []
  wdtAt : Nat := 0
  resetTimes : List Nat := []
  mailIn : List Bytes := []
  mailOut : List (Nat × Bytes) := []
  mailStatus : Nat := 0
  mailRead : Bytes := []
  starts : Nat := 0
  deriving DecidableEq, Repr

/-- The debug port (R421 to R427). `ir` is the instruction loaded; `driven` says whether EXTEST, CLAMP or HIGHZ drives
the lands (1, 2, 3); `access` is the last job-memory access: its time, address and the bytes it replaced. -/
structure Dbg where
  ir : Nat := 0x01
  nonce : Bytes := []
  challenge : Bytes := []
  scope : Nat := 0
  unlocked : Nat := 0
  failures : Nat := 0
  blocked : Bool := false
  halt : Bool := false
  data : Nat := 0
  scan : Bytes := []
  driven : Nat := 0
  access : Option (Nat × Nat × Bytes) := none
  semWait : Option Nat := none
  deriving DecidableEq, Repr

/-- Engines, semaphores, the user engine and the debug port (chapter 12). -/
structure Cpu where
  engines : FMap Engine := []
  sems : FMap Sem := []
  user : User := {}
  dbg : Dbg := {}
  deriving DecidableEq, Repr

/-- A verdict record sent and not yet acknowledged (R444): its number, when it left, and its content. -/
structure SentVerdict where
  no : Nat
  sentAt : Nat
  body : VerdictBody
  deriving DecidableEq, Repr

/-- A forwarded write that the standby has not acknowledged (R438): who waits for the answer, and what it wrote. -/
structure SentForward where
  no : Nat
  sentAt : Nat
  who : Who
  idx : Nat
  sub : Nat
  deriving DecidableEq, Repr

/-- Paired operation (chapter 13). `role`: 0 SINGLE, 1 ACTIVE, 2 STANDBY, 3 COLD_STANDBY, 4 JOINING, 5 DISCOVERING.
`bindFailed` and `hareFailed` mark a failed path. `ownTime` says that the link time was not loaded from the peer;
`takeover` is the kind of a takeover whose grants are awaited. -/
structure Pair where
  role : Nat := 0
  peerRole : Nat := 0xFF
  peerMode : Nat := 0
  peerModule : Nat := 0
  heardBind : Bool := false
  heardHare : Bool := false
  secondWait : Bool := false
  discoveryAt : Nat := 0
  lastBind : Nat := 0
  lastHare : Nat := 0
  bindFailed : Bool := false
  hareFailed : Bool := false
  peerPhi0 : Nat := 0
  peerLink : Nat := 0
  peerVerdict : Nat := 0
  peerMirror : Nat := 0
  hareSeq : Nat := 0
  yielded : Bool := false
  beatAt : Nat := 0
  hareAt : Nat := 0
  verdictNo : Nat := 0
  sentVerdicts : List SentVerdict := []
  verdictApplied : Nat := 0
  verdictQueue : List (Nat × VerdictBody) := []
  forwardNo : Nat := 0
  sentForwards : List SentForward := []
  forwardApplied : Nat := 0
  mirrorNo : Nat := 0
  mirrorAt : Nat := 0
  mirrorPart : Option (Nat × FMap Bytes) := none
  mirrorReady : Option Bytes := none
  lastMirror : Nat := 0
  peerStamp : Option Nat := none
  resync : Nat := 0
  resyncAt : Nat := 0
  toCopy : List (Nat × Bytes × Nat) := []
  joinSeam : Nat := 0xF400
  joinLine : Option Nat := none
  joinStamp : Option (Nat × Int) := none
  peerIndex : Option (Nat × Int) := none
  delay : Nat := 0
  cfg : Nat := 0
  ownTime : Bool := false
  declaredAt : Option Nat := none
  yieldedAt : Option Nat := none
  takeover : Option Nat := none
  takeoverLost : Nat := 0
  windowFrom : Nat := 0
  claims : FMap Nat := []
  flags : Nat := 0
  lastTakeover : Option Nat := none
  handLength : Nat := 0
  handHash : Bytes := []
  counters : FMap Nat := []
  deriving DecidableEq, Repr

/-- A job as Yarrow keeps it (R471, R475, R497). `pend` counts steps of a calibration run that are not yet converted;
`openUntil` is the web line of Phi7, and then `closeAt` the time, at which its drop figures close. -/
structure YrJob where
  jobId : Nat
  line : Nat
  channels : Nat
  increment : Nat
  acc : Nat := 0
  pend : Nat := 0
  lengthOpen : Bool := true
  drops : List Nat := []
  causes : Nat := 0
  openUntil : Option Nat := none
  closeAt : Option Nat := none
  deriving DecidableEq, Repr

/-- METRO_PARAMS (R486), a new carrier's values. -/
structure MetroParams where
  nominalPitch : Nat := 500000
  refPitch : Nat := 10000000
  encConfig : Nat := 4
  calDt : Nat := 500
  calAuto : Nat := 1
  calMaxStep : Nat := 500000
  rollerInput : Nat := 0
  pl : List Nat := []
  faultStop : Nat := 0
  deriving DecidableEq, Repr

/-- MARK_CONFIG (R500). -/
structure MarkConfig where
  format : Nat := 0
  bars : Nat := 0
  x : Nat := 0
  y : Nat := 0
  dot : Nat := 2
  level : Nat := 1
  every : Nat := 1
  deriving DecidableEq, Repr

/-- What Yarrow's totals save holds (R466); `clean` marks a PWR_FAIL_N save. -/
structure YrSaved where
  acc : Nat := 0
  highest : Int := 0
  drops : List Nat := []
  causes : Nat := 0x10
  savedAt : Nat := 0
  clean : Bool := false
  deriving DecidableEq, Repr

/-- A length calibration run (R478): Yarrow's count at its start, ENC_X counts since, and the highest of both. -/
structure CalLenRun where
  startP : Int
  countX : Int
  highX : Int
  highP : Int
  deriving DecidableEq, Repr

/-- The last TICK (R472) and when it came. -/
structure YrTickRec where
  time : Nat := 0
  domain : Nat := 0
  line : Nat := 0xFFFFFFFFFFFF
  phi7 : Nat := 0
  at_ : Nat := 0
  jobAcc : Nat := 0
  deriving DecidableEq, Repr

/-- The Yarrow section (chapter 14). `up` is false while its die has no supply; `restarting` while E14 and E15 restart;
`serviceHash` and `fwHash` are the hashes of the Umvon service key and the Umvon firmware key in its OTP (R488, R489; log
entry 3). -/
structure Yarrow where
  up : Bool := false
  ready : Bool := false
  restarting : Bool := false
  count : Int := 0
  highest : Int := 0
  illegalTimes : List Nat := []
  openP : List EncLine := []
  openX : List EncLine := []
  xPresent : Bool := false
  acc : Nat := 0
  pend : Nat := 0
  params : MetroParams := {}
  verifierKeys : List Bytes := [[], [], [], []]
  mark : MarkConfig := {}
  nonce : Option (Bytes × Nat) := none
  job : Option YrJob := none
  closed : List YrJob := []
  drops : List Nat := []
  lastBlock : FMap Nat := []
  expect : Option Nat := none
  buffer : List Instr := []
  tick : YrTickRec := {}
  factor : Int := 0
  generation : Nat := 0
  refTemp : Int := 0
  calDue : Bool := false
  requested : Bool := false
  run : Option CalLenRun := none
  temps : List (Option Int) := []
  causes : Nat := 0x10
  foreign : Bool := false
  foreignKey : Bytes := []
  foreignHash : Bytes := []
  metroStop : Bool := false
  sealClosed : Bool := true
  sealOpenedAt : Nat := 0
  lockRestarts : Nat := 0
  trail : List Rec := []
  trailLost : Nat := 0
  trailBase : Bytes := []
  renewals : Nat := 0
  reportNo : Nat := 0
  pendingReport : Option (Bytes × Nat) := none
  report : Option (Bytes × Nat) := none
  saved : YrSaved := {}
  markFrame : Option (Nat × Nat × Nat) := none
  answerAt : Nat := 0
  dropSeq : Nat := 0
  fwDigest : Bytes := []
  serviceHash : Bytes := (List.range 32).map (fun i => Config.otpByte (256 + i))
  fwHash : Bytes := (List.range 32).map (fun i => Config.otpByte (288 + i))
  deriving DecidableEq, Repr

/-- A PTP clock's record of one time domain (R511 to R520). `eBase` is in 2^-40 ns; `quality` is 0 FREE_RUN,
1 ACQUIRING, 2 LOCKED, 3 HOLDOVER, 4 MANUAL. -/
structure TimeDomain where
  offset : Int := 0
  rate : Int := 0
  eBase : Int := 0
  cBase : Nat := 0
  quality : Nat := 0
  masterOffset : Int := 0
  pathDelay : Nat := 0
  gm : Nat := 0
  steps : Nat := 0
  portNow : Nat := 0xFF
  lockedSince : Nat := 0
  good : Nat := 0
  freq : Int := 0
  everLocked : Bool := false
  master : Option Nat := none
  foreigns : List (Announce × Nat × Nat) := []
  syncInterval : Nat := 1000000000
  lastSync : Nat := 0
  lastAnnounce : Nat := 0
  announceInterval : Nat := 1000000000
  twoStep : Option (Nat × Nat × Int × Int) := none
  syncPair : Option (Int × Int) := none
  reqSeq : Nat := 0
  reqSent : Option (Nat × Int) := none
  reqInterval : Nat := 1000000000
  pdSeq : FMap Nat := []
  pdSent : FMap (Nat × Int) := []
  pdGot : FMap (Int × Int × Int) := []
  pdDelay : FMap Nat := []
  samples : List Int := []
  deriving DecidableEq, Repr

/-- A network port (R504 to R509). -/
structure NetPort where
  linkUp : Bool := false
  fecLock : Bool := false
  blockLock : Bool := false
  remoteFault : Bool := false
  speedNow : Nat := 0
  ptpRxAt : Option Nat := none
  counters : FMap Nat := []
  deriving DecidableEq, Repr

/-- Time and network (chapter 15): both domains, output time's domain and slew, and both ports. -/
structure Time where
  tdA : TimeDomain := {}
  tdB : TimeDomain := {}
  sel : Nat := 0
  k : Int := 0
  slewFrom : Option Nat := none
  net0 : NetPort := {}
  net1 : NetPort := {}
  deriving DecidableEq, Repr

/-- Supply and temperatures (chapter 20). `conditions` holds the rows of R651 that hold; `flags` the warnings that stand,
bit 2 the Yarrow junction's; `failAt` is when a sequence of R647 began; `held` says that only R648 ends the reset;
`tripped` is a thermal trip's cause and temperature, and `belowSince` since when it has cooled. -/
structure Power where
  alwaysOn : Bool := false
  vin : Nat := 0
  iin : Nat := 0
  pin : Nat := 0
  vinMin : Nat := 0
  vinMax : Nat := 0
  rails : Nat := 0
  fails : Nat := 0
  tjMain : Option Int := none
  tjMax : Option Int := none
  tjYarrow : Option Int := none
  dcdc : Option Int := none
  flags : Nat := 0
  conditions : Nat := 0
  failAt : Option Nat := none
  held : Bool := false
  tripped : Option (Nat × Int) := none
  belowSince : Option Nat := none
  repeater : Bool := false
  deriving DecidableEq, Repr

/-- Everything of the machine but its queue and job memory. `now` counts the nanoseconds of all commands; link time is
`now + linkOfs` (R28, R434, R510). -/
structure Mach where
  now : Nat := 0
  linkOfs : Int := 0
  out : List Out := []
  free : Nat := 0
  recorder : Recorder := {}
  dict : Dict := {}
  hy : Hy := {}
  enc : Enc := {}
  psos : FMap Pso := []
  seams : Seams := {}
  comp : Comp := {}
  ports : FMap Port := []
  gate : Gate := {}
  sys : Sys := {}
  store : Store := {}
  cams : FMap Cam := []
  cal : CalRun := {}
  loop : Loop := {}
  frc : Frc := {}
  mem : Mem := {}
  cpu : Cpu := {}
  pair : Pair := {}
  yarrow : Yarrow := {}
  time : Time := {}
  power : Power := {}
  deriving DecidableEq, Repr

/-- The machine: the commands that wait, first in first out; job memory's listed bytes; and the rest. -/
structure State where
  pending : List Instr
  mem : List Host.Cell
  m : Mach
  deriving DecidableEq, Repr

/-- The module held in reset with its always-on domain running (R645, R640, R629): no command waits, no byte of job
memory is listed, mode RESET, and every register at its reset value, the store's at a new module's (log entries 2
and 3). -/
def State.reset : State :=
  { pending := [], mem := [], m := { power := { alwaysOn := true, repeater := true, rails := 0x100 } } }

end Sys2Proof.Machine
end

