-- ==== Sys2Proof/Machine/Objects.lean ====
section
/-! DEFINITION. The object dictionary as a table (R554 to R579): every index, its form, type, access code, selection,
scope group, mode lock, ranges, and the value a new module's store holds (log entry 2). -/

namespace Sys2Proof.Machine

/-- The types of R556. -/
inductive Ty
  | bool | u8 | u16 | u32 | u64 | i16 | i32 | i64 | q | enum | blob | str
  deriving DecidableEq, Repr

/-- The access codes of R557. -/
inductive Acc
  | ro | rw | rs | wo | rc
  deriving DecidableEq, Repr

/-- What selects one of the like objects (R561, R571). -/
inductive Sel
  | none | port | bar | layer | cam | seam | here
  deriving DecidableEq, Repr

/-- The lock sets of R559. -/
inductive Lock
  | none | run | idleOnly | idleService
  deriving DecidableEq, Repr

/-- The form of an object (R554): simple, a record, or an array of like values. -/
inductive Form
  | simple | record | arr (n : Nat)
  deriving DecidableEq, Repr

/-- A value's type, range (for byte strings: of the length), value in a new store, and, for a register with a field
map, its fields as (lowest bit, width, least, most); bits outside them are reserved (R14). -/
structure Fld where
  name : String
  ty : Ty
  lo : Int := 0
  hi : Int := 0
  dflt : Int := 0
  parts : List (Nat × Nat × Nat × Nat) := []
  lock : Option Lock := none
  deriving DecidableEq, Repr

/-- An object. `scope` is the group bit of R77, 0xFE for ARB_COMMIT, 0xFF for none; `whole` marks a record that is
written whole only. -/
structure Obj where
  idx : Nat
  name : String
  form : Form
  acc : Acc
  flds : List Fld
  sel : Sel := .none
  lock : Lock := .none
  scope : Nat := 0xFF
  whole : Bool := false
  deriving DecidableEq, Repr

/-- Wire codes of R539. -/
def Ty.code : Ty → Nat
  | .bool => 1 | .u8 => 2 | .u16 => 3 | .u32 => 4 | .u64 => 5 | .i16 => 6 | .i32 => 7 | .i64 => 8 | .q => 9
  | .enum => 0x0A | .blob => 0x0C | .str => 0x0D

/-- Bytes of a numeric type on the wire (R539); 0 for byte strings. -/
def Ty.size : Ty → Nat
  | .bool | .u8 | .enum => 1
  | .u16 | .i16 => 2
  | .u32 | .i32 => 4
  | .u64 | .i64 | .q => 8
  | .blob | .str => 0

/-- Whether the type is two's complement. -/
def Ty.signed : Ty → Bool
  | .i16 | .i32 | .i64 => true
  | _ => false

/-- A numeric field with a range and a first value. -/
def fNum (name : String) (ty : Ty) (lo hi d : Int) : Fld := { name := name, ty := ty, lo := lo, hi := hi, dflt := d }

/-- A numeric field that takes every value of its type. -/
def fAll (name : String) (ty : Ty) (d : Int) : Fld :=
  if ty.signed then fNum name ty (-(2 ^ (8 * ty.size - 1))) (2 ^ (8 * ty.size - 1) - 1) d
  else if ty = .bool then fNum name ty 0 1 d
  else fNum name ty 0 (2 ^ (8 * ty.size) - 1) d

/-- A register with a field map. -/
def fMap (name : String) (ty : Ty) (d : Int) (parts : List (Nat × Nat × Nat × Nat)) : Fld :=
  { name := name, ty := ty, lo := 0, hi := 2 ^ (8 * ty.size) - 1, dflt := d, parts := parts }

/-- A byte string with a range of lengths. -/
def fBlob (name : String) (lo hi : Int) : Fld := { name := name, ty := .blob, lo := lo, hi := hi }

/-- Printable text of at most n characters. -/
def fStr (name : String) (n : Int) : Fld := { name := name, ty := .str, lo := 0, hi := n }

/-- A simple object. -/
def oOne (idx : Nat) (acc : Acc) (f : Fld) (lock : Lock := .none) (sel : Sel := .none) (scope : Nat := 0xFF) : Obj :=
  { idx := idx, name := f.name, form := .simple, acc := acc, flds := [f], sel := sel, lock := lock, scope := scope }

/-- A record. -/
def oRec (idx : Nat) (name : String) (acc : Acc) (fs : List Fld) (lock : Lock := .none) (sel : Sel := .none)
    (scope : Nat := 0xFF) (whole : Bool := false) : Obj :=
  { idx := idx, name := name, form := .record, acc := acc, flds := fs, sel := sel, lock := lock, scope := scope, whole := whole }

/-- An array of n like values. -/
def oArr (idx n : Nat) (acc : Acc) (f : Fld) (lock : Lock := .none) (sel : Sel := .none) (scope : Nat := 0xFF) : Obj :=
  { idx := idx, name := f.name, form := .arr n, acc := acc, flds := [f], sel := sel, lock := lock, scope := scope }

/-- Identity, mode, pair role and dictionary service (R571 to R576, R3, R430). -/
def objs1 : List Obj := [
  oOne 0x1000 .ro (fAll "DEVICE_ID" .u32 0x0A174C03),
  oRec 0x1001 "FAMILY_PARAMS" .ro [fAll "BARS" .u8 8, fAll "PORTS" .u8 64, fAll "ENGINES" .u8 16, fAll "DRAM_GIB" .u16 32,
    fAll "CAM_PORTS" .u8 4, fAll "NOZZLE_PITCH" .u16 1200],
  oOne 0x1008 .ro (fStr "PRODUCT_NAME" 16),
  oOne 0x1009 .ro (fAll "HW_REVISION" .u16 0x4102),
  oOne 0x100A .ro (fAll "FW_VERSION" .u32 0x02000000),
  oOne 0x1010 .ro (fNum "DEVICE_MODE" .enum 0 11 0),
  oOne 0x1011 .wo (fNum "MODE_REQUEST" .enum 0 11 0),
  oOne 0x1012 .ro (fNum "PAIR_ROLE" .enum 0 5 0),
  oOne 0x1018 .ro (fStr "SERIAL" 16),
  oOne 0x1100 .rw (fMap "DICT_QUERY" .u32 0 [(0, 24, 0, 0xFFFFFF), (31, 1, 0, 1)]) .none .here,
  oRec 0x1101 "DICT_ENTRY" .ro [fAll "OBJECT" .u32 0, fAll "TYPE" .u8 0, fAll "ACCESS" .enum 0, fAll "SELECT" .enum 0,
    fAll "SCOPE" .u8 0, fAll "WRITE_LEVELS" .u8 0, fAll "MODE_LOCK" .u16 0, fAll "FORWARDED" .bool 0,
    fAll "MAX_LENGTH" .u32 0, fStr "NAME" 32],
  oOne 0x1102 .rw (fNum "RS_VIEW" .u8 0 1 0) .none .here,
  oOne 0x1104 .rw (fNum "JOB_MEM_BASE" .u64 0 0x7FFFFFFFF 0) .none .here,
  oOne 0x1105 .ro (fBlob "JOB_MEM_READ" 0 8192),
  oRec 0x1201 "HYASKION_CONFIG" .rw [fNum "IDLE_TIMEOUT" .u16 1 3600 30, fNum "BULK_TIMEOUT" .u16 100 60000 5000],
  oOne 0x1202 .ro (fBlob "MODULE_PUBKEY" 64 64),
  oArr 0x1210 8 .rw (fBlob "CRED_KEYS" 64 64),
  oRec 0x1220 "INGEST_CONFIG" .rw [{ fNum "STAGING_MIB" .u16 256 8192 2048 with lock := some .idleOnly }, fBlob "GROUP" 16 16],
  oOne 0x1221 .ro (fAll "SESSION_COUNT" .u8 0),
  oRec 0x1222 "HY_COUNTERS" .ro [fAll "REQUESTS" .u32 0, fAll "MAC_FAILURES" .u32 0, fAll "STALE" .u32 0,
    fAll "RESENT_RESPONSES" .u32 0, fAll "BULK_FAILED" .u32 0, fAll "NOTICES_DROPPED" .u32 0],
  oOne 0x1224 .wo (fAll "CONTENT_RELEASE" .u32 0)]

/-- Seams, modes, web position and gating (R577, R41 to R75, R250, R254, R620, R633, R641). -/
def objs2 : List Obj := [
  oRec 0x2000 "COMMIT_SEAM" .wo [fMap "TARGET" .u64 0 [(0, 48, 0, 0xFFFFFFFFFFFF)], fMap "SCOPE" .u16 0 [(0, 6, 1, 63)],
    fNum "SEAM_ID" .u16 1 0xEFFF 0, fMap "FLAGS" .u8 0 [(0, 2, 0, 3)]] .none .none 0xFF true,
  oRec 0x2001 "SEAM_STATUS" .ro [fAll "STATE" .enum 0, fAll "OUTCOME" .enum 0, fAll "TARGET" .u64 0, fAll "APPLIED_LINE" .u64 0,
    fAll "SLIP_LINES" .u32 0, fAll "BARS_COMPOSED" .u8 0, fAll "BARS_FIRED" .u8 0, fAll "COMMIT_TIME" .u64 0,
    fAll "SCOPE" .u16 0, fAll "SQUASHED_LINES" .u16 0] .none .seam,
  oOne 0x2002 .rw (fAll "SEAM_SELECT" .u16 0) .none .here,
  oOne 0x2003 .wo (fAll "SEAM_CANCEL" .u16 0),
  oOne 0x2004 .ro (fBlob "SEAM_LIST" 0 256),
  oOne 0x2010 .rw (fNum "RUNAHEAD_LINES" .u8 8 64 32) .run,
  oOne 0x2011 .ro (fAll "RUNAHEAD_NOW" .u8 8),
  oArr 0x2012 8 .ro (fAll "FIRE_FRONTIER" .u64 0),
  oArr 0x2013 8 .ro (fAll "COMPOSED_FRONTIER" .u64 0),
  oRec 0x2020 "MODE_STATUS" .ro [fAll "MODE" .enum 0, fAll "PREVIOUS" .enum 0, fAll "ENTERED_AT" .u64 0,
    fAll "HOLD_REQUESTED" .bool 0, fAll "SAFE_CAUSE" .enum 0, fAll "LINE_BASE" .u64 0, fAll "STARTUP_MS" .u16 0],
  oRec 0x2024 "STATIONARY_FIRE" .rw [fAll "PORTS" .u64 0, fNum "PATTERN" .enum 0 1 0, fNum "LEVEL" .u8 1 3 1,
    fNum "PERIOD" .u32 10 10000000 10, fAll "LINES" .u32 0],
  oOne 0x2025 .wo (fAll "STATIONARY_START" .bool 0),
  oOne 0x2030 .wo (fBlob "FW_IMAGE" 257 8388608),
  oRec 0x2031 "FW_SLOTS" .ro [fAll "RUNNING" .enum 0, fAll "CONFIRMED" .u8 0, fAll "TRIAL" .bool 0, fAll "A_VERSION" .u32 0,
    fAll "B_VERSION" .u32 0, fAll "RECOVERY_VERSION" .u32 0, fAll "A_SEC" .u8 0, fAll "B_SEC" .u8 0],
  oOne 0x2032 .wo (fNum "FW_ACTIVATE" .u8 0 1 0),
  oOne 0x2033 .wo (fAll "FW_CONFIRM" .bool 0),
  oOne 0x2100 .rw (fMap "ENC_P_CONFIG" .u32 4 [(0, 8, 0, 255), (8, 1, 0, 1), (9, 1, 0, 1)]) .run,
  oOne 0x2101 .ro (fAll "ENC_P_STATUS" .u32 0),
  oOne 0x2102 .wo (fAll "ENC_FAULT_CLEAR" .bool 0),
  oOne 0x2104 .rw (fNum "ENC_ILLEGAL_LIMIT" .u8 1 255 4),
  oOne 0x2105 .rw (fAll "REV_HYSTERESIS" .u16 4),
  oOne 0x2108 .rw (fNum "INDEX_MODE" .enum 0 2 0) .run,
  oOne 0x2109 .rw (fAll "INDEX_SPACING" .u32 0),
  oOne 0x210A .rw (fAll "INDEX_TOL" .u16 0),
  oOne 0x210B .wo (fAll "INDEX_ARM" .bool 0),
  oOne 0x210C .ro (fAll "INDEX_COUNT" .i64 0),
  oOne 0x2110 .ro (fAll "RAW_POSITION" .i64 0),
  oOne 0x2111 .rw (fNum "ORIGIN_SOURCE" .enum 0 9 0) .run,
  oOne 0x2112 .ro (fAll "ORIGIN_POSITION" .i64 0),
  oOne 0x2113 .ro (fAll "WEB_LINE_NOW" .u64 0),
  oOne 0x2120 .rw (fNum "COMPARE_INCREMENT" .q (4 * 2 ^ 32) (65536 * 2 ^ 32 - 1) (4 * 2 ^ 32)) .run,
  oRec 0x2130 "SPEED_EST" .ro [fAll "STATE" .enum 0, fAll "SPEED" .i32 0, fAll "ACCEL" .i32 0, fAll "LINE_RATE" .u32 0,
    fAll "EVENTS" .u16 0],
  oOne 0x2131 .rw (fNum "SPEED_STALL_TIME" .u16 1 1000 10),
  oArr 0x2140 16 .rw (fMap "PSO_CONFIG" .u64 0x100010000 [(0, 2, 0, 2), (2, 1, 0, 1), (16, 16, 1, 65535), (32, 20, 1, 1048575)]) .run,
  oArr 0x2141 16 .rw (fMap "PSO_OFFSET" .u32 0 [(0, 22, 0, 4194303)]) .run,
  oArr 0x2142 16 .wo (fMap "PSO_SCHEDULE" .u64 0 [(0, 48, 0, 0xFFFFFFFFFFFF), (48, 2, 0, 2)]),
  oArr 0x2143 16 .ro (fAll "PSO_QUEUE_FREE" .u8 48),
  oOne 0x2150 .rw (fMap "GATE_CONFIG" .u32 0x3FF [(0, 10, 0, 1023), (16, 10, 0, 1023)]) .idleOnly,
  oOne 0x2151 .ro (fAll "GATE_STATUS" .u32 0),
  oOne 0x2152 .wo (fMap "GATE_CLEAR" .u16 0 [(0, 10, 0, 1023)])]

/-- Head ports, their links and their firing (R173 to R176, R221 to R227, R229 to R257). -/
def objs3 : List Obj := [
  oOne 0x3000 .rw (fNum "PORT_SELECT" .u8 0 63 0) .none .here,
  oArr 0x3010 8 .rw (fMap "HEAD_SLOT" .u64 0 [(0, 14, 0, 16383), (14, 12, 0, 2048), (26, 2, 0, 3), (28, 1, 0, 1), (29, 1, 0, 1),
    (32, 7, 0, 96), (40, 7, 0, 96), (48, 7, 0, 96), (56, 7, 0, 96)]) .run .port,
  oOne 0x3011 .ro (fAll "LINE_PAYLOAD_BYTES" .u16 0) .none .port,
  oOne 0x3020 .rs (fMap "FIRE_TIMING" .u32 0x640032 [(0, 11, 50, 2000), (16, 12, 100, 3000)]) .none .port 2,
  oOne 0x3021 .ro (fAll "FIRE_RATE_MAX" .u32 0) .none .port,
  oRec 0x3024 "HEAD_TEMP_LIMITS" .rw [fNum "WARN" .i16 (-400) 1500 1499, fNum "LIMIT" .i16 (-400) 1500 1500,
    fNum "HYST" .u16 1 200 1] .none .port,
  oOne 0x3025 .wo (fAll "HEAD_REENABLE" .bool 0) .none .port,
  oOne 0x3026 .ro (fAll "FIRE_STATE" .u32 0x80000000) .none .port,
  oRec 0x3027 "FIRE_COUNTERS" .ro [fAll "RETIMES_SENT" .u32 0, fAll "LATE_LINES" .u32 0, fAll "OVERSPEED_BLANKS" .u32 0,
    fAll "CATCHUPS" .u32 0, fAll "TEMP_STOPS" .u32 0, fAll "GATED_EVENTS" .u32 0] .none .port,
  oOne 0x3040 .ro (fAll "LINK_STATE" .u32 0) .none .port,
  oOne 0x3041 .rw (fMap "LINK_EQ" .u16 0 [(0, 4, 0, 15), (4, 1, 0, 1), (6, 2, 0, 2), (8, 2, 0, 2)]) .run .port,
  oRec 0x3042 "LINK_DELAY" .ro [fAll "DELAY" .u32 0, fAll "SPREAD" .u16 0, fAll "TEMP" .i16 0, fAll "WHEN" .u64 0] .none .port,
  oOne 0x3043 .rw (fNum "LINK_ASYM" .i16 (-1024) 1023 0) .none .port,
  oRec 0x3044 "LINK_COUNTERS" .ro [fAll "RX_CRC" .u32 0, fAll "LOST_TX" .u32 0, fAll "RESENT" .u32 0, fAll "BLANK_LINES" .u32 0,
    fAll "RETRAINS" .u32 0, fAll "EP_LATE_LINES" .u32 0] .none .port,
  oOne 0x3045 .wo (fAll "LINK_RETRAIN" .bool 0) .run .port,
  oRec 0x3046 "EP_INFO" .ro [fAll "EP_VENDOR" .u16 0, fAll "EP_MODEL" .u16 0, fAll "EP_REVISION" .u16 0,
    fAll "GRIUST_VERSION" .u8 0, fAll "SIDES" .u8 0, fAll "T_LATCH_NS" .u32 0, fAll "LINE_BUFFERS" .u16 0,
    fAll "SLOTS_FITTED" .u8 0, fStr "EP_SERIAL" 16] .none .port,
  oArr 0x3047 8 .ro (fStr "EP_SLOT_SERIAL" 16) .none .port,
  oOne 0x3100 .rw (fNum "LINE_AHEAD" .u8 2 8 6) .run,
  oOne 0x3101 .rw (fMap "REF_CONFIG" .u16 0 [(0, 8, 0, 255), (8, 2, 0, 1), (10, 1, 0, 1)]) .idleOnly,
  oOne 0x3102 .rw (fAll "LINK_SLEEP" .bool 0),
  oOne 0x3103 .ro (fAll "LINK_ACTIVE_MAP" .u64 0),
  oOne 0x3104 .ro (fAll "LINE_RATE_CAP" .u32 0),
  oOne 0x3105 .rw (fNum "RETIME_THRESHOLD" .u16 5 1000 20)]

/-- Bars (R60, R61, R95, R154, R164, R165, R175, R235). -/
def objs4 : List Obj := [
  oOne 0x4000 .rw (fNum "BAR_SELECT" .u8 0 7 0) .none .here,
  oOne 0x4012 .rw (fMap "BAR_OFFSET" .u32 0 [(0, 20, 0, 1048575)]) .run .bar,
  oOne 0x4013 .rw (fNum "BAR_TRIM" .i16 (-1024) 1023 0) .run .bar,
  oOne 0x4014 .ro (fAll "BAR_FIRED_MAX" .u64 0) .none .bar,
  oOne 0x4015 .ro (fAll "STAGGER_DEPTH" .u8 0) .none .bar,
  oOne 0x4016 .rw (fNum "DROP_THROW" .u32 0 1000000 0) .run .bar,
  oOne 0x4017 .ro (fAll "COMPOSE_TIME" .u32 20000) .none .bar,
  oOne 0x4020 .rs (fBlob "TONE_CURVE" 512 512) .none .bar 1,
  oOne 0x4021 .rs (fBlob "SCREEN_MASK" 98304 98304) .none .bar 1,
  oOne 0x4022 .rs (fMap "SCREEN_SHIFT" .u16 0 [(0, 7, 0, 127), (8, 7, 0, 127)]) .none .bar 1]

/-- Jobs, frames, layers, reject output and the reference ring (R113 to R151). -/
def objs5 : List Obj := [
  oOne 0x5000 .rw (fNum "LAYER_SELECT" .u8 0 7 0) .none .here,
  oRec 0x5001 "JOB_CONFIG" .rs [fNum "JOB_ID" .u32 1 0xFFFFFFFF 0, fNum "FRAME_LINES" .u32 2048 1048576 2048,
    fAll "FRAME_COUNT" .u32 0, fNum "WIDTH_NOZZLES" .u32 1 98304 1, fAll "CHANNELS" .u64 0,
    fNum "LINE_RATE_LIMIT" .u32 1 120000 1, fAll "CAP_ACCEPT" .bool 0] .none .none 0,
  oRec 0x5002 "JOB_DEMAND" .ro [fAll "TOTAL" .u32 0, fAll "WORST_BAR" .u8 0, fAll "WORST_DEMAND" .u32 0, fAll "VERDICT" .enum 0,
    fAll "CAP_RATE" .u32 0],
  oRec 0x5004 "JOB_NOW" .ro [fAll "JOB_ID" .u32 0, fAll "FRAME" .u32 0xFFFFFFFF, fAll "FRAME_FIRST" .u64 0xFFFFFFFFFFFF],
  oRec 0x5010 "LAYER_CONFIG" .rs [fNum "KIND" .enum 0 4 0, fNum "CODING" .enum 0 2 0, fNum "BLEND" .enum 0 6 0,
    fAll "BAR_MASK" .u8 0, fAll "X_ORIGIN" .u32 0, fAll "Y_ORIGIN" .u32 0, fAll "WIDTH" .u32 0, fAll "HEIGHT" .u32 0,
    fNum "POLICY" .enum 0 2 0, fAll "UNIQUE" .bool 0, fNum "COVERAGE" .u16 0 1000 0, fAll "CONTENT" .u32 0,
    fNum "L7_SOURCE" .enum 0 1 0] .none .layer 0,
  oRec 0x5020 "LAYER_POST" .wo [fNum "LAYER" .u8 0 7 0, fAll "JOB_ID" .u32 0, fAll "FRAME" .u32 0, fAll "CONTENT" .u32 0]
    .none .none 0xFF true,
  oArr 0x5021 8 .ro (fAll "LAYER_POST_FREE" .u8 64),
  oOne 0x5030 .rw (fNum "REF_SCALE" .enum 0 3 3) .run,
  oOne 0x5031 .rw (fNum "REF_RING_MIB" .u16 256 8192 2048) .run,
  oOne 0x5032 .ro (fAll "REF_RING_DEPTH" .u32 0),
  oRec 0x5038 "REJECT_OUTPUT" .rw [fAll "PSO" .u8 0xFF, fAll "CUT_OFFSET" .u32 0] .run,
  oOne 0x5039 .ro (fAll "REJECT_LIST_USED" .u16 0),
  oRec 0x5040 "REJECT_LOG" .rc [fAll "JOB_ID" .u32 0, fAll "FRAME" .u32 0, fAll "FIRST_LINE" .u64 0, fAll "CAUSES" .u16 0,
    fAll "PULSE" .enum 0, fAll "BARS" .u8 0],
  oRec 0x5041 "FRAME_COUNTERS" .ro [fAll "FRAMES_CLOSED" .u64 0, fAll "FRAMES_REJECT" .u64 0]]

/-- Cameras (R261 to R298). -/
def objs6 : List Obj := [
  oOne 0x6000 .rw (fNum "CAM_SELECT" .u8 0 3 0) .none .here,
  oOne 0x6001 .rw (fMap "CAM_PORT_CONFIG" .u64 0x20040008010 [(0, 14, 16, 8192), (14, 13, 2, 8191), (30, 8, 1, 255), (38, 8, 8, 250),
    (46, 1, 0, 1), (47, 1, 0, 1), (48, 1, 0, 1), (49, 1, 0, 1), (50, 2, 0, 3), (52, 2, 0, 2), (54, 2, 0, 2), (56, 2, 0, 3)]) .run .cam,
  oRec 0x6002 "CAM_SENSOR_PROFILE" .rw [fNum "BUS_ADDR" .u8 8 0x77 8, fNum "BUS_SPEED" .enum 0 1 0, fNum "ADDR_BYTES" .u8 1 2 1,
    fNum "DATA_BYTES" .u8 1 2 1, fAll "HOLD_REG" .u16 0, fAll "HOLD_ON" .u16 0, fAll "HOLD_OFF" .u16 0] .run .cam,
  oOne 0x6003 .rw (fBlob "CAM_SENSOR_INIT" 0 4096) .run .cam,
  oRec 0x6004 "CAM_GEOMETRY" .rw [fAll "CAM_OFFSET" .u32 0, fNum "CAM_TRIM" .i16 (-1024) 1023 0, fAll "X_ORIGIN" .i32 0,
    fAll "PX_NOZZLES" .u16 0, fAll "ROW_LINES" .u16 0] .run .cam,
  oRec 0x6010 "CAM_TRIGGER" .rw [fNum "MODE" .enum 0 2 0, fAll "START" .u32 0, fNum "PERIOD" .u32 256 0xFFFFFFFF 256,
    fNum "MIN_INTERVAL" .u32 8334 1000000 8334, fNum "TRIG_WIDTH" .u16 1 1000 1, fAll "TRIG_POL" .bool 0] .run .cam,
  oOne 0x6011 .wo (fAll "CAM_SOFT_TRIGGER" .bool 0) .none .cam,
  oRec 0x6018 "CAM_EXPOSURE" .rw [fNum "SET_ID" .u16 1 0xFFFF 1, fNum "STROBE" .u16 100 20000 100,
    fNum "STROBE_DELAY" .u32 0 100000 0, fBlob "WRITES" 0 64] .none .cam,
  oOne 0x6019 .wo (fAll "CAM_EXPOSURE_COMMIT" .bool 0) .none .cam,
  oRec 0x601A "CAM_EXPOSURE_STATUS" .ro [fAll "STATE" .enum 0, fAll "SET_IN_EFFECT" .u16 0, fAll "SET_PENDING" .u16 0,
    fAll "EFFECT_FRAME" .u32 0xFFFFFFFF] .none .cam,
  oRec 0x6020 "CAM_PIPE" .rw [fMap "BLACK" .u64 0 [(0, 16, 0, 4094), (16, 16, 0, 4094), (32, 16, 0, 4094), (48, 16, 0, 4094)],
    fNum "SNR" .u8 0 8 0, fNum "SNR_THRESH" .u16 0 4095 0, fAll "TNR_EN" .bool 0, fNum "TNR_K" .u8 0 15 0,
    fNum "TNR_THRESH" .u16 0 4095 0, fMap "WB" .u64 0 [(0, 48, 0, 0xFFFFFFFFFFFF)], fBlob "CCM" 18 18] .run .cam,
  oOne 0x6021 .rw (fBlob "CAM_DEFECTS" 0 4096) .run .cam,
  oOne 0x6022 .rw (fBlob "CAM_TONE" 1024 1024) .run .cam,
  oRec 0x6030 "CAM_STREAMS" .rw [fAll "STA_X0" .u16 0, fAll "STA_WIDTH" .u16 0, fNum "STA_BIN" .enum 0 1 0, fAll "STB_X0" .u16 0,
    fAll "STB_WIDTH" .u16 0, fNum "STB_DIV" .u8 1 16 1, fNum "STB_MAX_FPS" .u8 1 30 1] .none .cam,
  oOne 0x6031 .rs (fBlob "CAM_WINDOWS" 512 512) .none .cam 5,
  oOne 0x6032 .wo (fAll "CAM_STREAM_COMMIT" .bool 0) .none .cam,
  oOne 0x6033 .rw (fNum "STA_RING_MIB" .u16 0 8192 0) .run .cam,
  oOne 0x6034 .rw (fNum "CAM_TNR_MIB" .u16 0 4096 64) .run .cam,
  oRec 0x6035 "STA_RING" .ro [fAll "BASE" .u64 0, fAll "SIZE" .u64 0, fAll "HEAD" .u64 0, fAll "HEAD_FRAME" .u32 0] .none .cam,
  oOne 0x6040 .ro (fBlob "CAM_LAST_TAG" 32 32) .none .cam,
  oOne 0x6041 .rc (fBlob "CAM_STATS" 544 544) .none .cam,
  oOne 0x6042 .rc (fBlob "CAM_PROFILES" 0 32800) .none .cam,
  oRec 0x6043 "CAM_COUNTERS" .ro [fAll "FRAMES" .u32 0, fAll "SKIPPED" .u32 0, fAll "MISSING" .u32 0, fAll "SHORT" .u32 0,
    fAll "LONG" .u32 0, fAll "CRC_ERRORS" .u32 0, fAll "UNSOLICITED" .u32 0, fAll "OVERFLOWS" .u32 0,
    fAll "STATS_MISSED" .u32 0] .none .cam]

/-- The colour loop, zone offsets and nozzle maps (R155, R160 to R162, R300 to R334). -/
def objs7 : List Obj := [
  oOne 0x7001 .rw (fNum "LOOP_MODE" .enum 0 2 0),
  oRec 0x7002 "LOOP_POLICY" .rw [fNum "CYCLE_FRAMES" .u8 1 64 4, fNum "DEADBAND" .u16 0 1000 30, fNum "GAIN" .u8 1 16 8,
    fNum "STEP_LIMIT" .u16 1 2047 81, fNum "RATE_LIMIT" .u16 1 4095 81, fNum "RATE_WINDOW" .u32 1024 4194303 47244,
    fNum "OFFSET_LIMIT" .u16 0 2047 410, fNum "MIN_PX" .u32 1 262144 64, fNum "SEAM_LEAD" .u32 64 1048575 4096,
    fNum "LEARN_GAIN" .u8 1 16 14, fNum "LEARN_STEP_LIMIT" .u16 1 2047 327, fNum "PATCH_MARGIN" .u8 0 16 4],
  oRec 0x7003 "NOZZLE_POLICY" .rw [fAll "WEAK_RATIO" .u16 160, fAll "OUT_RATIO" .u16 64, fNum "CONFIRM" .u8 1 8 2,
    fNum "RECOVER" .u8 1 8 3, fNum "GAIN_STEP_MAX" .u8 1 64 4],
  oRec 0x7004 "LOOP_FEEDFORWARD" .rw [fNum "T_REF" .i16 (-400) 1500 0, fBlob "COEF" 34 34] .none .bar,
  oRec 0x7008 "LOOP_STATE" .ro [fAll "STATE" .enum 0, fAll "LEARNING" .u8 0, fAll "LEARN_LEFT" .u32 0, fAll "FLAGS" .u8 0,
    fAll "CYCLES" .u32 0, fAll "LAST_SEAM" .u16 0, fAll "LAST_APPLIED" .u64 0],
  oOne 0x7009 .ro (fBlob "ZONE_ERROR" 128 128) .none .bar,
  oOne 0x700A .wo (fNum "LOOP_BAR_RESET" .u8 0 7 0),
  oOne 0x700B .wo (fAll "LOOP_BASELINE_SAVE" .bool 0),
  oOne 0x7010 .rs (fBlob "ZONE_OFFSETS" 2176 2176) .none .bar 3,
  oOne 0x7020 .rs (fBlob "PRINTER_MODEL" 872 872) .none .none 0,
  oRec 0x7021 "LOOP_GUTTER" .rs [fAll "PATCH_FIRST" .u32 0, fNum "PATCH_LINES" .u16 0 1024 0, fAll "PATCH_LEVELS" .u64 0,
    fAll "BAND_FIRST" .u32 0, fNum "BAND_MARK_LINES" .u8 8 64 0, fNum "NOZZLE_BAND_EVERY" .u16 0 1024 0] .none .none 0,
  oOne 0x7101 .rs (fBlob "NOZZLE_MAP" 122880 122880) .none .bar 4,
  oOne 0x7102 .wo (fMap "NOZZLE_EDIT" .u64 0 [(0, 17, 0, 98303), (17, 3, 0, 7), (24, 8, 0, 255), (32, 2, 0, 3), (34, 1, 0, 1)]),
  oRec 0x7103 "NOZZLE_COUNTS" .ro [fAll "OK" .u32 0, fAll "WEAK" .u32 0, fAll "OUT" .u32 0, fAll "MASKED" .u32 0,
    fAll "ISOLATED_OUT" .u32 0] .none .bar]

/-- Job memory, arbitration and FRC (R350 to R363, R368 to R399). -/
def objs8 : List Obj := [
  oOne 0x8001 .rw (fMap "MEM_CONFIG" .u32 0x19013 [(0, 2, 0, 3), (4, 1, 0, 1), (8, 12, 100, 4000)]) .run,
  oOne 0x8002 .ro (fAll "MEM_STATUS" .u32 1),
  oOne 0x8003 .rw (fNum "MEM_TEMP_LIMIT" .i16 700 1040 1000),
  oArr 0x8004 8 .ro (fAll "MEM_CH_STATE" .u32 0x80000000),
  oRec 0x8007 "MEM_COUNTERS" .ro [fAll "REFRESH_POSTPONED" .u32 0, fAll "REFRESH_FORCED" .u32 0, fAll "ALLBANK_REFRESHES" .u32 0,
    fAll "RAW_WAITS" .u32 0, fAll "AGE_PROMOTIONS" .u32 0, fAll "P_LATENCY_MAX" .u32 0, fAll "P_LATENCY_OVER" .u32 0],
  oOne 0x8010 .wo (fAll "ARB_COMMIT" .bool 0),
  oOne 0x8011 .wo (fNum "URGENT_LIFT" .u8 0 22 0),
  oArr 0x8012 24 .rs (fMap "ARB_REQ" .u16 0 [(0, 4, 0, 15), (8, 2, 0, 3)]) .none .none 0xFE,
  oArr 0x8013 4 .rs (fMap "ARB_CLASS" .u16 0 [(0, 4, 0, 15), (8, 4, 0, 15)]) .none .none 0xFE,
  oOne 0x8014 .rw (fNum "GRANT_HOLD_MAX" .u16 8 1024 64),
  oOne 0x8015 .ro (fAll "ARB_QUARANTINE" .u32 0),
  oOne 0x8016 .wo (fMap "ARB_REENABLE" .u32 0 [(0, 23, 0, 0x7FFFFF)]),
  oArr 0x8017 24 .ro (fAll "ARB_TURN_HINT" .u16 0),
  oArr 0x8019 24 .ro (fAll "ARB_WAIT_MAX" .u32 0),
  oOne 0x8020 .rw (fNum "COMPOSER_OUTSTANDING" .u8 4 32 16) .run,
  oOne 0x8100 .rw (fMap "FRC_CONFIG" .u32 0x3012 [(0, 8, 0, 255), (8, 8, 0, 255)]),
  oOne 0x8101 .rw (fNum "FRC_BUFFER_KIB" .u16 256 16384 1024),
  oOne 0x8102 .rw (fAll "FRC_CONTENT_SELECT" .u32 0),
  oRec 0x8103 "FRC_CONTENT_STATUS" .ro [fAll "STATE" .enum 0, fAll "CODING" .enum 0, fAll "INPUT" .enum 0, fAll "PLANES" .u8 0,
    fAll "STRIPES" .u32 0, fAll "WORST_ERROR" .u8 0, fAll "REFUSED" .u32 0, fAll "FIRST_BAD" .u32 0, fAll "FAIL_CAUSE" .enum 0,
    fAll "STREAM_BYTES" .u64 0, fAll "REMAINDER_BYTES" .u32 0, fAll "BUFFERS" .u32 0],
  oOne 0x8104 .ro (fBlob "FRC_CONTENT_DIGEST" 32 32),
  oArr 0x8105 8 .ro (fBlob "FRC_STRIPE_ERRORS" 0 0xFFFFFFF),
  oRec 0x8106 "FRC_COUNTERS" .ro [fAll "OBJECTS_CODED" .u32 0, fAll "STRIPES_REFUSED" .u32 0, fAll "VERIFY_FAILED" .u32 0,
    fAll "COMPOSE_BAD" .u32 0, fAll "SELF_CHECK" .u32 0]]

/-- Engines, semaphores, the user engine, the debug permit and the pair (R407 to R423, R431, R457 to R461). -/
def objs9 : List Obj := [
  oArr 0x9001 16 .ro (fAll "ENGINE_STATE" .u32 0xFF00),
  oArr 0x9002 16 .ro (fAll "ENGINE_WAIT_US" .u32 0),
  oArr 0x9010 64 .ro (fAll "SEM_STATE" .u32 0x0EE00000),
  oArr 0x9011 64 .rw (fNum "SEM_LEASE" .u16 10 65535 1000),
  oOne 0x9020 .wo (fBlob "USER_IMAGE" 65 262144) .idleService,
  oOne 0x9021 .rw (fMap "USER_CONTROL" .u8 0 [(0, 2, 0, 3)]),
  oOne 0x9022 .rw (fNum "USER_WDT" .u16 0 60000 0),
  oOne 0x9023 .rw (fNum "USER_WINDOW_MIB" .u8 0 64 0) .idleOnly,
  oOne 0x9024 .wo (fBlob "USER_MAILBOX_IN" 1 256),
  oOne 0x9025 .rc (fBlob "USER_MAILBOX_OUT" 0 256),
  oOne 0x9026 .ro (fBlob "USER_IMAGE_DIGEST" 32 32),
  oOne 0x9041 .rw (fAll "DEBUG_PERMIT" .bool 0),
  oOne 0xA001 .rw (fMap "PAIR_CONFIG" .u16 0 [(0, 1, 0, 1), (1, 2, 0, 3)]) .idleOnly,
  oOne 0xA002 .rw (fNum "PAIR_COLD_TAKEOVER" .enum 0 1 0),
  oRec 0xA003 "PAIR_STATUS" .ro [fAll "PEER_ROLE" .enum 0xFF, fAll "PATHS" .u8 0, fAll "LAST_VERDICT" .u32 0,
    fAll "LAST_MIRROR" .u32 0, fAll "MIRROR_AGE" .u32 0, fAll "FLAGS" .u8 0, fAll "JOIN_LINE" .u64 0, fAll "LAST_TAKEOVER" .u64 0],
  oRec 0xA004 "PAIR_COUNTERS" .ro [fAll "TAKEOVERS" .u32 0, fAll "BINDWEED_FAILS" .u32 0, fAll "HAREBELL_FAILS" .u32 0,
    fAll "MIRROR_DISCARDED" .u32 0, fAll "VERDICTS_RESENT" .u32 0, fAll "DEMOTIONS" .u32 0, fAll "SWITCH_OVER_EVENTS" .u32 0],
  oOne 0xA005 .rw (fNum "PAIR_INGEST_WAIT" .u16 1 1000 50)]

/-- Events, Yarrow, time, network, calibration, store, OTP and power (R590 to R655, R486 to R527). -/
def objs10 : List Obj := [
  oOne 0xB001 .rw (fNum "COALESCE_WINDOW" .u16 0 60000 1000),
  oOne 0xB002 .rw (fNum "RECORDER_LAYOUT" .enum 0 1 0) .idleOnly,
  oRec 0xB003 "RECORDER_STATE" .ro [fAll "LAYOUT" .enum 0, fAll "FIRST_COUNT" .u16 0, fAll "LAST_COUNT" .u16 0,
    fAll "LAST_OLDEST" .u16 0, fAll "NEXT_SEQ" .u16 0, fAll "LOST" .u32 0, fAll "STARTS" .u32 0, fAll "UNWRITTEN" .u8 0,
    fAll "RFLAGS" .u8 0],
  oOne 0xB010 .ro (fBlob "RECORDS_FIRST" 0 32768),
  oOne 0xB011 .ro (fBlob "RECORDS_LAST" 0 229376),
  oOne 0xB012 .ro (fBlob "RECORDS_FORERUNNER" 0 262144),
  oOne 0xB020 .wo (fAll "RECORDER_CLEAR" .bool 0) .idleOnly,
  oRec 0xC001 "YR_IDENTITY" .ro [fStr "SERIAL" 16, fAll "SEAL_ID" .u64 0, fStr "FW_ID" 16, fBlob "FW_DIGEST" 32 32,
    fBlob "PUBLIC_KEY" 64 64],
  oOne 0xC002 .ro (fAll "YR_STATUS" .u32 0),
  oRec 0xC010 "LEGAL_TOTALS" .ro [fAll "LENGTH" .u64 0, fBlob "DROPS" 192 192, fBlob "VOLUME" 64 64],
  oOne 0xC011 .rw (fNum "METRO_JOB_SELECT" .u8 0 64 0),
  oRec 0xC012 "METRO_JOB" .ro [fAll "JOB_ID" .u32 0, fAll "FIRST_LINE" .u64 0, fAll "STATE" .enum 0, fAll "LENGTH" .u64 0,
    fBlob "DROPS" 192 192, fBlob "VOLUME" 64 64, fAll "CAUSES" .u8 0, fAll "CHANNELS" .u64 0],
  oRec 0xC018 "METRO_PARAMS" .ro [fNum "NOMINAL_PITCH" .u32 10000 100000000 0, fNum "REF_PITCH" .u32 100000 20000000 0,
    fMap "ENC_CONFIG" .u16 0 [(0, 10, 0, 1023)], fNum "CAL_LEN_DT" .u16 50 5000 0, fAll "CAL_AUTO" .bool 0,
    fNum "CAL_MAX_STEP" .u32 1000 10000000 0, fNum "ROLLER_INPUT" .u8 0 3 0, fBlob "PL_PER_LEVEL" 48 48,
    fAll "METRO_FAULT_STOP" .bool 0],
  oOne 0xC019 .ro (fBlob "METRO_NONCE" 16 16),
  oOne 0xC01A .wo (fBlob "METRO_WRITE" 88 4096),
  oArr 0xC01B 4 .ro (fBlob "VERIFIER_KEYS" 32 32),
  oRec 0xC020 "CAL_LEN_STATE" .ro [fAll "FACTOR_PPB" .i32 0, fAll "GENERATION" .u32 0, fAll "REF_TEMP" .i16 0, fAll "PROGRESS" .u32 0],
  oOne 0xC021 .wo (fAll "CAL_LEN_START" .bool 0),
  oArr 0xC022 4 .ro (fAll "YR_TEMPS" .i16 (-32768)),
  oRec 0xC030 "MARK_CONFIG" .ro [fNum "FORMAT" .enum 0 1 0, fAll "BARS" .u8 0, fAll "X" .u32 0, fAll "Y" .u32 0,
    fNum "DOT" .u8 2 16 0, fNum "LEVEL" .u8 1 3 0, fNum "EVERY" .u16 1 1024 0],
  oOne 0xC040 .wo (fBlob "REPORT_REQUEST" 40 40),
  oOne 0xC041 .rc (fBlob "REPORT" 496 496),
  oRec 0xC048 "TRAIL_STATE" .ro [fAll "RECORDS" .u16 0, fAll "LOST" .u16 0, fBlob "RUNNING_HASH" 32 32, fAll "RENEWALS" .u32 0,
    fAll "FULL" .bool 0],
  oOne 0xC049 .rw (fMap "TRAIL_BLOCK_SELECT" .u16 0 [(0, 8, 0, 255), (15, 1, 0, 1)]),
  oOne 0xC04A .ro (fBlob "TRAIL_BLOCK" 544 544),
  oOne 0xC04B .wo (fBlob "TRAIL_RENEW" 112 112),
  oOne 0xC050 .wo (fAll "METRO_STOP_CLEAR" .bool 0),
  oOne 0xC051 .wo (fBlob "YR_FW_IMAGE" 1 524288) .idleOnly,
  oRec 0xD000 "TIME_NOW" .ro [fAll "LINK_TIME" .u64 0, fAll "TD_A" .u64 0, fAll "TD_B" .u64 0, fAll "OUTPUT" .u64 0],
  oArr 0xD001 2 .rw (fMap "NET_CONFIG" .u32 1 [(0, 1, 0, 1), (1, 1, 0, 1), (2, 1, 0, 1), (13, 3, 0, 7), (16, 12, 0, 4094)]) .run,
  oArr 0xD002 2 .rw (fMap "NET_IPV4" .u64 0 [(0, 32, 0, 0xFFFFFFFF), (32, 6, 0, 32)]) .run,
  oArr 0xD003 2 .rw (fAll "NET_GW4" .u32 0) .run,
  oArr 0xD004 2 .rw (fBlob "NET_IPV6" 17 17) .run,
  oArr 0xD005 2 .ro (fAll "NET_MAC" .u64 0),
  oArr 0xD006 2 .ro (fAll "NET_STATUS" .u32 0),
  oRec 0xD007 "NET_COUNTERS_0" .ro [fAll "RX_FRAMES" .u32 0, fAll "TX_FRAMES" .u32 0, fAll "RX_FCS_ERRORS" .u32 0,
    fAll "RX_DROPPED" .u32 0, fAll "RX_UNKNOWN" .u32 0, fAll "PTP_RX" .u32 0, fAll "LINK_DOWNS" .u32 0],
  oRec 0xD008 "NET_COUNTERS_1" .ro [fAll "RX_FRAMES" .u32 0, fAll "TX_FRAMES" .u32 0, fAll "RX_FCS_ERRORS" .u32 0,
    fAll "RX_DROPPED" .u32 0, fAll "RX_UNKNOWN" .u32 0, fAll "PTP_RX" .u32 0, fAll "LINK_DOWNS" .u32 0],
  oArr 0xD010 2 .rw (fAll "NET_TS_CORR" .u32 0),
  oArr 0xD020 2 .rw (fMap "TD_CONFIG" .u32 0 [(0, 1, 0, 1), (2, 2, 0, 2), (9, 1, 0, 1), (10, 2, 0, 2), (16, 8, 0, 239)]),
  oRec 0xD021 "TD_STATE_A" .ro [fAll "QUALITY" .enum 0, fAll "OFFSET" .i64 0, fAll "RATE" .i64 0, fAll "MASTER_OFFSET" .i32 0,
    fAll "PATH_DELAY" .u32 0, fAll "GM_IDENTITY" .u64 0, fAll "STEPS_REMOVED" .u16 0, fAll "PORT_NOW" .u8 0, fAll "LOCKED_SINCE" .u64 0],
  oRec 0xD022 "TD_STATE_B" .ro [fAll "QUALITY" .enum 0, fAll "OFFSET" .i64 0, fAll "RATE" .i64 0, fAll "MASTER_OFFSET" .i32 0,
    fAll "PATH_DELAY" .u32 0, fAll "GM_IDENTITY" .u64 0, fAll "STEPS_REMOVED" .u16 0, fAll "PORT_NOW" .u8 0, fAll "LOCKED_SINCE" .u64 0],
  oArr 0xD023 2 .wo (fAll "TD_SET" .u64 0),
  oRec 0xD025 "SERVO_POLICY" .rw [fNum "LOCK_THRESHOLD" .u16 10 1000 50, fNum "LOCK_COUNT" .u8 4 64 16,
    fNum "HOLDOVER_SYNCS" .u8 2 16 3],
  oOne 0xD030 .rw (fMap "TIME_SELECT" .u8 0 [(0, 2, 0, 3)]),
  oRec 0xD031 "TIME_OUTPUT" .ro [fAll "DOMAIN" .u8 0, fAll "SLEWING" .bool 0, fAll "K" .i32 0],
  oOne 0xE001 .wo (fAll "STORE_SAVE" .bool 0) .idleOnly,
  oRec 0xE002 "STORE_STATE" .ro [fAll "CONFIG_GEN" .u32 0, fAll "BAD_ITEMS" .u16 0, fAll "BUSY" .bool 0, fAll "ERASES_MAX" .u32 0],
  oArr 0xE010 4 .rw (fMap "CAL_CAM_WINDOW" .u64 0x10040000 [(17, 10, 2, 512), (27, 10, 2, 512), (37, 13, 0, 8190), (50, 14, 0, 8191)]) .run,
  oArr 0xE011 4 .rw (fMap "CAL_CAM_CONFIG" .u64 0xC801E02800000100 [(0, 1, 0, 1), (1, 1, 0, 1), (8, 8, 1, 255), (16, 16, 0, 65535),
    (32, 12, 1, 500), (44, 8, 1, 30), (52, 12, 256, 4000)]) .run,
  oOne 0xE012 .wo (fAll "CAL_CAM_START" .bool 0),
  oArr 0xE013 4 .ro (fAll "CAL_CAM_STATE" .u32 0x80000000),
  oOne 0xE020 .wo (fAll "CAL_LINK_MEASURE" .u64 0),
  oOne 0xF001 .ro (fBlob "OTP_CONFIG" 128 128),
  oRec 0xF002 "OTP_CONFIG_STATE" .ro [fAll "IN_EFFECT" .u8 0xFF, fAll "EMPTY" .u8 0, fAll "SPENT" .u8 0],
  oOne 0xF003 .wo (fBlob "OTP_CONFIG_WRITE" 128 128) .idleOnly,
  oRec 0xF004 "OTP_SECURITY" .ro [fAll "REVOKED" .u16 0, fAll "SEC_MIN" .u8 0, fAll "DEBUG_LOCK" .enum 0, fAll "SLOTS_SET" .u16 0],
  oOne 0xF005 .wo (fNum "OTP_REVOKE" .u8 0 15 0) .idleOnly,
  oRec 0xF010 "POWER_STATUS" .ro [fAll "VIN" .u16 0, fAll "IIN" .u16 0, fAll "PIN" .u16 0, fAll "VIN_MIN" .u16 0,
    fAll "VIN_MAX" .u16 0, fAll "RAILS" .u16 0, fAll "POWER_FAILS" .u32 0],
  oRec 0xF011 "THERMAL_STATUS" .ro [fAll "TJ_MAIN" .i16 0, fAll "TJ_MAIN_MAX" .i16 0, fAll "TJ_YARROW" .i16 0, fAll "T_DCDC" .i16 0,
    fAll "DRAM_CASE_MAX" .i16 0, fAll "FLAGS" .u8 0],
  oRec 0xF012 "THERMAL_LIMITS" .rw [fNum "TJ_WARN" .i16 800 1450 1400, fNum "DCDC_WARN" .i16 800 1200 1100]]

/-- Every object, in order of index. -/
def objTable : List Obj := objs1 ++ objs2 ++ objs3 ++ objs4 ++ objs5 ++ objs6 ++ objs7 ++ objs8 ++ objs9 ++ objs10

/-- The object at an index. -/
def findObj (idx : Nat) : Option Obj := firstWhere (fun o => o.idx == idx) objTable

/-- The last sub-index of an object. -/
def Obj.top (o : Obj) : Nat :=
  match o.form with
  | .simple => 0
  | .record => o.flds.length
  | .arr n => n

/-- Whether the object has the sub-index (R554): an array has no sub-index 00. -/
def Obj.hasSub (o : Obj) (sub : Nat) : Bool :=
  decide (sub ≤ o.top) && (match o.form with | .arr _ => decide (1 ≤ sub) | _ => true)

/-- The field of a sub-index; none for sub-index 00 of a record. -/
def Obj.fld (o : Obj) (sub : Nat) : Option Fld :=
  match o.form with
  | .simple => if sub = 0 then o.flds[0]? else none
  | .record => if sub = 0 then none else o.flds[sub - 1]?
  | .arr _ => if sub = 0 then none else o.flds[0]?

/-- The place of a value: index, sub-index, and the port, bar, layer or camera it belongs to. -/
def okey (idx sub inst : Nat) : Nat := idx * 2 ^ 24 + sub * 2 ^ 16 + inst

/-- The factory values of ARB_REQ: class in bits [9:8], rank in bits [3:0] (R384). Q23 is reserved. -/
def arbReqFactory (q : Nat) : Nat :=
  if q < 8 then 0 else if q < 12 then 0x104 else if q < 14 then 0x202 else if q < 16 then 0x200
  else nth [0x30A, 0x308, 0x106, 0x206, 0x30C, 0x304, 0x300, 0x300] (q - 16) 0x300

/-- The value that an unlisted place reads as (R13, log entry 2). -/
def numDflt (idx sub : Nat) : Int :=
  if idx = 0x8012 then (arbReqFactory (sub - 1) : Nat)
  else if idx = 0x8013 then nth [0xF00, 0xC00, 0x800, 0] (sub - 1) 0
  else match (findObj idx).bind (fun o => o.fld sub) with
    | some f => f.dflt
    | none => 0

/-- The byte string that an unlisted place reads as: zeros of the least length (log entry 2). -/
def blobDflt (idx sub : Nat) : Bytes :=
  match (findObj idx).bind (fun o => o.fld sub) with
  | some f => if f.ty = .blob || f.ty = .str then List.replicate f.lo.toNat 0 else []
  | none => []

/-- The session-local objects (R562). -/
def sessionLocal (idx : Nat) : Bool :=
  [0x2002, 0x3000, 0x4000, 0x5000, 0x6000, 0x1100, 0x1102, 0x1104].contains idx

/-- Whether an accepted write is forwarded to an in-step standby (R438). -/
def forwarded (idx : Nat) : Bool :=
  !(sessionLocal idx || (0x6000 ≤ idx && idx ≤ 0x60FF) || (0xC000 ≤ idx && idx ≤ 0xC0FF) || (0xD000 ≤ idx && idx ≤ 0xD0FF)
    || (0xE010 ≤ idx && idx ≤ 0xE013) || [0xE020, 0xA001, 0x3041, 0x3043, 0x3045, 0x9041].contains idx)

/-- The levels that may write an object (R566), as the bits of WRITE_LEVELS: OPERATOR 1, INTEGRATOR 2, VERIFIER 4,
VENDOR 8. -/
def writeLevels (idx sub : Nat) : Nat :=
  if sessionLocal idx || idx = 0xC040 || idx = 0x1011 then 15
  else if [0xC01A, 0xC04B, 0xC051].contains idx then 4
  else if idx = 0x9011 && sub ≤ 56 then 8
  else if idx = 0xF003 || idx = 0xF005 then 8
  else if [0x2000, 0x2003, 0x5020, 0x2142, 0x2102, 0x2152, 0x3025, 0x7001, 0x700B, 0x6011].contains idx then 11
  else 10

/-- The modes, as a mask of DEVICE_MODE values, in which a lock set refuses writes (R559, R560). -/
def lockMask (l : Lock) : Nat :=
  match l with
  | .none => 0x007
  | .run => 0x0E7
  | .idleOnly => 0xFF7
  | .idleService => 0xDF7

/-- The writes that SAFE still takes (R625). -/
def safeWrite (idx : Nat) : Bool := sessionLocal idx || [0x1011, 0x8016, 0x2152, 0x2030, 0x2032].contains idx

/-- The mode lock of an object, as DICT_ENTRY reports it (R571): its own set, RESET, BOOT and ASSEMBLE, and SAFE; a
commit is refused in VERIFY too (R83), firmware is taken in IDLE and SAFE only (R633), and soft triggers in IDLE, PRIME,
CALIBRATE and SERVICE (R612). -/
def modeLock (o : Obj) (f : Option Fld) : Nat :=
  if sessionLocal o.idx then 0x001
  else if o.idx = 0x2030 || o.idx = 0x2032 then 0x7F7
  else if o.idx = 0x6011 then 0xCE7
  else
    let own := lockMask (((f.bind (fun x => x.lock))).getD o.lock)
    let own1 := if o.idx = 0x2000 then setBit own 10 true else own
    if safeWrite o.idx then own1 else setBit own1 11 true

end Sys2Proof.Machine
end

