-- ==== Sys2Proof/Machine/Ops.lean ====
section
/-! DEFINITION. The operations every family shares: time, stored values, free values, the service recorder, answers,
and the frame in which a command acts. -/

namespace Sys2Proof.Machine

/-- The outcome of a command. -/
abbrev Res := Host.Outcome State Fault Refusal

/-- The next number for a free value (log entry 5). -/
def Mach.drawn (m : Mach) : Mach := { m with free := m.free + 1 }

/-- n random bytes that the module draws (log entry 5). -/
def Mach.randomBytes (m : Mach) (n : Nat) : Bytes := (List.range n).map (Config.freeByte m.free)

/-- The free number that the module draws next. -/
def Mach.freeNat (m : Mach) : Nat := Config.freeNat m.free

/-- The job-memory address, 64-byte aligned, that the module gives its n-th buffer, ring or window (log entry 6). -/
def jobBase (n : Nat) : Nat := 64 * (Config.bufferBase n % 2 ^ 29)

/-- Put something on the links and ports. -/
def Mach.emit (m : Mach) (o : Out) : Mach := { m with out := m.out ++ [o] }

/-! ### Link time, domain time and output time (R28, R510, R511, R521) -/

/-- Link time in ns (R510). -/
def Mach.linkTime (m : Mach) : Nat := ((m.now : Int) + m.linkOfs).toNat

/-- Domain time at a counter value (R511), rounded towards minus infinity. -/
def TimeDomain.at_ (d : TimeDomain) (c : Nat) : Int :=
  (c : Int) + d.offset + (d.eBase + ((c : Int) - (d.cBase : Int)) * d.rate) / 2 ^ 40

/-- The selected domain (R521). -/
def Time.selected (t : Time) : TimeDomain := if t.sel = 0 then t.tdA else t.tdB

/-- K at a moment: it moves towards 0 by 100 ns for each ms since the switch (R523). -/
def Time.kAt (t : Time) (c : Nat) : Int :=
  match t.slewFrom with
  | none => 0
  | some c0 =>
    let moved : Int := (((c - c0) / 10000 : Nat) : Int)
    if 0 ≤ t.k then max 0 (t.k - moved) else min 0 (t.k + moved)

/-- Output time in ns (R521). -/
def Mach.outputTime (m : Mach) : Int := m.time.selected.at_ m.linkTime + m.time.kAt m.linkTime

/-! ### Stored values (R13, R76, R557) -/

/-- A stored number: a value, or the shadow of an RS object. -/
def Mach.num (m : Mach) (idx sub inst : Nat) : Int := fget m.dict.nums (okey idx sub inst) (numDflt idx sub)

/-- A stored number that is not negative. -/
def Mach.nat (m : Mach) (idx sub inst : Nat) : Nat := (m.num idx sub inst).toNat

/-- A stored byte string. -/
def Mach.blob (m : Mach) (idx sub inst : Nat) : Bytes :=
  match ffind m.dict.blobs (okey idx sub inst) with
  | some b => b
  | none => blobDflt idx sub

/-- Store a number. -/
def Mach.setNum (m : Mach) (idx sub inst : Nat) (v : Int) : Mach :=
  { m with dict := { m.dict with nums := fset m.dict.nums (okey idx sub inst) v } }

/-- Store a byte string. -/
def Mach.setBlob (m : Mach) (idx sub inst : Nat) (b : Bytes) : Mach :=
  { m with dict := { m.dict with blobs := fset m.dict.blobs (okey idx sub inst) b } }

/-- The scope group of an RS object, as the bit of R77. -/
def rsGroup (idx : Nat) : Nat :=
  if [0x5001, 0x5010, 0x7020, 0x7021].contains idx then 0
  else if [0x4020, 0x4021, 0x4022].contains idx then 1
  else if idx = 0x3020 then 2
  else if idx = 0x7010 then 3
  else if idx = 0x7101 then 4
  else if idx = 0x6031 then 5
  else 0xFF

/-- Whether an index is an RS object that seams carry (R77). -/
def isRs (idx : Nat) : Bool := rsGroup idx != 0xFF

/-- The copy of the last seam at or before a web line whose scope holds a group (R80): seams lie in commit order, and
of two with one applied line the later counts. -/
def valsAt (l : List SeamVals) (group line : Nat) : Option SeamVals :=
  l.foldl (fun best v =>
    if bit v.scope group && decide (v.applied ≤ line) then
      match best with
      | none => some v
      | some b => if b.applied ≤ v.applied then some v else some b
    else best) none

/-- An RS number at a web line (R80). -/
def Mach.rsNum (m : Mach) (idx sub inst line : Nat) : Int :=
  match valsAt m.seams.vals (rsGroup idx) line with
  | some v => fget v.nums (okey idx sub inst) (numDflt idx sub)
  | none => fget m.dict.effNums (okey idx sub inst) (numDflt idx sub)

/-- An RS number at a web line that is not negative. -/
def Mach.rsNat (m : Mach) (idx sub inst line : Nat) : Nat := (m.rsNum idx sub inst line).toNat

/-- An RS byte string at a web line (R80). -/
def Mach.rsBlob (m : Mach) (idx sub inst line : Nat) : Bytes :=
  let l := match valsAt m.seams.vals (rsGroup idx) line with
    | some v => v.blobs
    | none => m.dict.effBlobs
  match ffind l (okey idx sub inst) with
  | some b => b
  | none => blobDflt idx sub

/-- A number in effect where no line asks: ARB settings, and values outside a run. -/
def Mach.effNum (m : Mach) (idx sub inst : Nat) : Int := fget m.dict.effNums (okey idx sub inst) (numDflt idx sub)

/-! ### Units -/

/-- A head port. -/
def Mach.port (m : Mach) (p : Nat) : Port := fget m.ports p {}

/-- Change a head port. -/
def Mach.onPort (m : Mach) (p : Nat) (f : Port → Port) : Mach := { m with ports := fupd m.ports p {} f }

/-- Change a port's link. -/
def Mach.onLink (m : Mach) (p : Nat) (f : Link → Link) : Mach := m.onPort p (fun x => { x with link := f x.link })

/-- Change a port's transport. -/
def Mach.onTx (m : Mach) (p : Nat) (f : Transport → Transport) : Mach := m.onPort p (fun x => { x with tx := f x.tx })

/-- Change a port's firing state. -/
def Mach.onFire (m : Mach) (p : Nat) (f : FirePort → FirePort) : Mach := m.onPort p (fun x => { x with fire := f x.fire })

/-- A camera. -/
def Mach.cam (m : Mach) (c : Nat) : Cam := fget m.cams c {}

/-- Change a camera. -/
def Mach.onCam (m : Mach) (c : Nat) (f : Cam → Cam) : Mach := { m with cams := fupd m.cams c {} f }

/-- A PSO output. -/
def Mach.pso (m : Mach) (n : Nat) : Pso := fget m.psos n {}

/-- Change a PSO output. -/
def Mach.onPso (m : Mach) (n : Nat) (f : Pso → Pso) : Mach := { m with psos := fupd m.psos n {} f }

/-- A 32-bit saturating counter of a map. -/
def bump (l : FMap Nat) (k n : Nat) : FMap Nat := fupd l k 0 (satAdd 0xFFFFFFFF n)

/-- Whether port p belongs to bar k: eight ports for each bar (R6). -/
def barOf (p : Nat) : Nat := p / 8

/-- The ports of a bar (R6). -/
def portsOf (bar : Nat) : List Nat := (List.range 8).map (fun i => 8 * bar + i)

/-- All 64 ports. -/
def allPorts : List Nat := List.range 64

/-- All eight bars. -/
def allBars : List Nat := List.range 8

/-- Apply a change for each number of a list, in order. -/
def forEach (l : List Nat) (m : Mach) (f : Nat → Mach → Mach) : Mach := l.foldl (fun acc i => f i acc) m

/-! ### The web line now and modes -/

/-- No web line: what a 48-bit field reads. -/
def noLine : Nat := 0xFFFFFFFFFFFF

/-- WEB_LINE_NOW (R48): the highest line whose datum line event has occurred since the origin was captured. -/
def Mach.webLine (m : Mach) : Nat :=
  if m.enc.origin.isSome && decide (m.enc.firstLine < m.enc.datumNext) then m.enc.datumNext - 1 else noLine

/-- The mode is ARMED, PRINT or HOLD (R559 RUN). -/
def Mach.printing (m : Mach) : Bool := m.sys.mode = .armed || m.sys.mode = .print || m.sys.mode = .hold

/-- The module runs as one of a pair (R430). -/
def Mach.paired (m : Mach) : Bool := m.pair.role != 0

/-- The module takes decisions of its own: SINGLE, ACTIVE or COLD_STANDBY (R433). -/
def Mach.decides (m : Mach) : Bool := m.pair.role = 0 || m.pair.role = 1 || m.pair.role = 3

/-- A standby in step exists (R438): this module is ACTIVE and last heard its peer as STANDBY on a working Bindweed. -/
def Mach.inStepPeer (m : Mach) : Bool := m.pair.role = 1 && m.pair.peerRole = 2 && !m.pair.bindFailed

/-- A module that joins is heard on a working Bindweed (R433, R459). -/
def Mach.joiningPeer (m : Mach) : Bool := m.pair.role = 1 && m.pair.peerRole = 4 && !m.pair.bindFailed && decide (2 ≤ m.pair.resync)

/-! ### The service recorder (R580 to R589) -/

/-- The agent that records a code: the units of R582 for the subjects they serve, Yarrow for its trail; no chapter
names the agent of the others (log entry 7). -/
def agentOf (code : Nat) : Agent :=
  if code / 256 = 4 then .unit 0x42
  else if code / 256 = 6 then .unit 0x44
  else if code / 256 = 0x0B then (if code = 0x0B24 then .unit 12 else .yarrow)
  else .unstated

/-- Byte SOURCE of a record (R582). -/
def Agent.byte (a : Agent) (code : Nat) : Nat :=
  match a with
  | .unit n => n
  | .yarrow => 0x80
  | .peer => 0xC0
  | .unstated => Config.agentByte code % 256

/-- Parameter 0 is summed over the merged occurrences (R586). -/
def sumP0 (code : Nat) : Bool := code = 0x0101

/-- Parameter 1 is summed (R586). -/
def sumP1 (code : Nat) : Bool := [0x0403, 0x0601, 0x0605, 0x0606, 0x0805, 0x0C03, 0x0D04, 0x0D07].contains code

/-- Parameter 1 is kept from the first occurrence (R586). -/
def firstP1 (code : Nat) : Bool := [0x0101, 0x0504, 0x0210].contains code

/-- Insert a record by its number. -/
def insertRec : List Rec → Rec → List Rec
  | [], r => [r]
  | h :: t, r => if r.num < h.num then r :: h :: t else h :: insertRec t r

/-- Put a closed record into its area (R588, R589): the first 1,024 that a module writes stay for good, later ones go
round the last area of 7,168; under FORERUNNER_LOG a full area of 8,192 takes no more. -/
def Recorder.file (r : Recorder) (x : Rec) : Recorder :=
  if r.layout = 1 then
    if r.fore.length < 8192 then
      { r with fore := insertRec r.fore x, areaFull := r.areaFull || decide (r.fore.length + 1 = 8192) }
    else { r with lost := satAdd 0xFFFFFFFF r.lost 1 }
  else if x.num < 1024 then { r with first := insertRec r.first x }
  else
    let l := insertRec r.last x
    if 7168 < l.length then { r with last := l.drop 1, lastBase := (r.lastBase + 1) % 7168, areaFull := true }
    else { r with last := l, areaFull := r.areaFull || decide (l.length = 7168) }

/-- Close open record k, counted from the oldest (R587). -/
def Recorder.closeAt (r : Recorder) (k : Nat) : Recorder :=
  match r.openRecs[k]? with
  | none => r
  | some o => Recorder.file { r with openRecs := r.openRecs.eraseIdx k } o.r

/-- Whether an occurrence merges into an open record (R585). -/
def mergesInto (window now : Nat) (x : Rec) (o : OpenRec) : Bool :=
  o.r.code = x.code && o.r.agent = x.agent
    && (sumP0 x.code || o.r.p0 = x.p0) && (sumP1 x.code || firstP1 x.code || o.r.p1 = x.p1)
    && decide (0 < window) && decide (now - o.lastAt ≤ window * 1000000)
    && decide (o.r.repeats < 65535) && decide (o.r.spanMs < 65535)

/-- The record after a merge (R585, R586). -/
def mergeRec (now : Nat) (x : Rec) (o : OpenRec) : OpenRec :=
  { o with
    lastAt := now
    r := { o.r with
      repeats := o.r.repeats + 1
      spanMs := min 65535 ((now - o.firstAt) / 1000000)
      p0 := if sumP0 x.code then satAdd 0xFFFFFFFF o.r.p0 x.p0 else o.r.p0
      p1 := if sumP1 x.code then satAdd 0xFFFFFFFF o.r.p1 x.p1 else o.r.p1 } }

/-- The position of the newest open record that an occurrence merges into. -/
def mergeAt (window now : Nat) (x : Rec) (l : List OpenRec) : Option Nat :=
  let same := (List.range l.length).filter (fun i =>
    match l[i]? with | some o => o.r.code = x.code && o.r.agent = x.agent | none => false)
  match same.getLast? with
  | none => none
  | some i => match l[i]? with
    | some o => if mergesInto window now x o then some i else none
    | none => none

/-- Take an occurrence: the recorder after it, and the record it wrote, none for a merge (R584, R585, R587). -/
def Recorder.take (r : Recorder) (window now : Nat) (x : Rec) : Recorder × Option Rec :=
  match mergeAt window now x r.openRecs with
  | some i => ({ r with openRecs := r.openRecs.modify i (mergeRec now x) }, none)
  | none =>
    let x' := { x with num := r.made }
    let r' := { r with made := r.made + 1, openRecs := r.openRecs ++ [{ r := x', firstAt := now, lastAt := now }] }
    (if 32 < r'.openRecs.length then r'.closeAt 0 else r', some x')

/-- The occurrence of a code now (R580, R581); the web line is the one now unless the chapter names another. -/
def Mach.mkRec (m : Mach) (code p0 p1 line : Nat) (trail : Bool) : Rec :=
  { code := code, agent := agentOf code
    notActive := !(m.pair.role = 0 || m.pair.role = 1), trail := trail
    lineValid := m.enc.origin.isSome && line != noLine
    timeValid := m.time.selected.everLocked, domain := m.time.sel, repeats := 1, num := 0
    time := ofInt 64 m.outputTime, line := if m.enc.origin.isSome then line else noLine, spanMs := 0
    p0 := p0 % 2 ^ 32, p1 := p1 % 2 ^ 32 }

/-- SOURCE_MASK of a subscription holds the record's range (R549). -/
def wantsRec (s : Session) (x : Rec) : Bool :=
  match s.eventMask with
  | some mask => bit mask (x.code / 256)
  | none => false

/-- Queue a new record for every session that asked for it; a session with 256 waiting drops it (R550). -/
def notifySessions (l : FMap Session) (x : Rec) : FMap Session × List Nat :=
  (l.map (fun p => if wantsRec p.2 x && decide (p.2.waiting.length < 256)
      then (p.1, { p.2 with waiting := p.2.waiting ++ [x] }) else p),
   (l.filter (fun p => wantsRec p.2 x && decide (256 ≤ p.2.waiting.length))).map (fun p => p.1))

/-- Record without notices. While the main die is in reset nothing records, and what arises after a flush is not kept
(R594). -/
def Mach.recordQuiet (m : Mach) (x : Rec) : Mach × Option Rec :=
  if m.sys.mode = .reset || m.recorder.flushed then (m, none)
  else
    let (r, n) := m.recorder.take (m.nat 0xB001 0 0) m.now x
    ({ m with recorder := r }, n)

/-- Record and notify (R550): a session that loses the record gets NOTICE_DROPPED recorded and counted. -/
def Mach.recordRec (m : Mach) (x : Rec) : Mach :=
  match m.recordQuiet x with
  | (m', none) => m'
  | (m', some y) =>
    let (ss, dropped) := notifySessions m'.hy.sessions y
    let m'' := { m' with hy := { m'.hy with sessions := ss, counters := bump m'.hy.counters 6 dropped.length } }
    dropped.foldl (fun acc sid => (acc.recordQuiet (acc.mkRec 0x0D07 sid 1 acc.webLine false)).1) m''

/-- Record an occurrence whose web-line field names a line. -/
def Mach.recordAt (m : Mach) (code p0 p1 line : Nat) : Mach := m.recordRec (m.mkRec code p0 p1 line false)

/-- Record an occurrence with the web line now. -/
def Mach.record (m : Mach) (code p0 p1 : Nat) : Mach := m.recordAt code p0 p1 m.webLine

/-- Record an occurrence of a stop that the standby reports (R582). -/
def Mach.recordPeer (m : Mach) (code p0 p1 : Nat) : Mach :=
  m.recordRec { m.mkRec code p0 p1 m.webLine false with agent := .peer }

/-- The low 32 bits of an integer as a record parameter. -/
def p32 (i : Int) : Nat := ofInt 32 i

/-- An integer held in an I32 as a record parameter (saturating). -/
def p32sat (i : Int) : Nat := ofInt 32 (clampI (-2147483648) 2147483647 i)

/-! ### Sessions and answers (R558, R562) -/

/-- The session-local objects of who asks. -/
def Mach.locals (m : Mach) (w : Who) : Locals :=
  match w with
  | .host sid => (fget m.hy.sessions sid {}).loc
  | .e13 => m.hy.e13
  | .peer _ => {}

/-- The credential level of who asks: E13 holds INTEGRATOR (R567); a forwarded write was checked at the sender. -/
def Mach.level (m : Mach) (w : Who) : Nat :=
  match w with
  | .host sid => (fget m.hy.sessions sid {}).level
  | .e13 => 2
  | .peer _ => 4

/-- Whether a level holds the right of a mask of WRITE_LEVELS (R564): VENDOR holds INTEGRATOR's and OPERATOR's rights,
INTEGRATOR holds OPERATOR's. -/
def levelHas (level mask : Nat) : Bool :=
  match level with
  | 1 => bit mask 0
  | 2 => bit mask 0 || bit mask 1
  | 3 => bit mask 2
  | 4 => bit mask 0 || bit mask 1 || bit mask 3
  | _ => false

/-- A session that exists and has passed AUTH. -/
def Mach.authed (m : Mach) (sid : Nat) : Bool :=
  match ffind m.hy.sessions sid with
  | some s => s.authed
  | none => false

/-- Answer a write or an action (R558). -/
def Mach.reply (m : Mach) (w : Who) (idx sub : Nat) (st : Status) : Mach := m.emit (.answer w idx sub st)

/-- The generation of the next copy of an item (R606). -/
def Store.nextGen (s : Store) (kind key : Nat) : Nat :=
  1 + maxOf 0 (((s.items ++ s.writes.map (fun x => x.1)).filter (fun x => x.kind = kind && x.key = key)).map (fun x => x.gen))

/-- Queue an item for writing (R609), one generation above the one before it. -/
def Mach.queueItem (m : Mach) (x : StoreItem) : Mach :=
  { m with store := { m.store with writes := m.store.writes ++ [({ x with gen := m.store.nextGen x.kind x.key }, false)] } }

/-- Which of the like objects an access means, by the selection of who asks (R561, R563). -/
def Mach.instOf (m : Mach) (w : Who) (sel : Sel) : Nat :=
  match w with
  | .peer i => i
  | _ =>
    let l := m.locals w
    match sel with
    | .port => l.portSel
    | .bar => l.barSel
    | .layer => l.layerSel
    | .cam => l.camSel
    | .seam => l.seamSel
    | _ => 0

/-! ### Network ports (R504 to R509) -/

/-- A network port. -/
def Mach.netPort (m : Mach) (p : Nat) : NetPort := if p = 0 then m.time.net0 else m.time.net1

/-- Change a network port. -/
def Mach.onNet (m : Mach) (p : Nat) (f : NetPort → NetPort) : Mach :=
  { m with time := if p = 0 then { m.time with net0 := f m.time.net0 } else { m.time with net1 := f m.time.net1 } }

/-- Add to a port's counters (R509). -/
def Mach.netCount (m : Mach) (p k : Nat) : Mach := m.onNet p (fun n => { n with counters := bump n.counters k 1 })

/-- A datagram leaves on a network port, as one frame (R504, R509). -/
def Mach.sendOn (m : Mach) (net : Nat) (o : Out) : Mach := (m.netCount net 2).emit o

end Sys2Proof.Machine
end

