-- ==== Sys2Proof/Machine/Operands.lean ====
section
/-! DEFINITION. What every write is checked for before its object acts (R556 to R566), how values travel (R539), and
how an accepted write is answered or forwarded (R438). -/

namespace Sys2Proof.Machine

/-- A number lies in its type's range, its fields in theirs, and no reserved bit is set (R14, R556). -/
def Fld.okNum (f : Fld) (v : Int) : Bool :=
  decide (f.lo ≤ v) && decide (v ≤ f.hi)
    && (f.parts.isEmpty
        || (f.parts.all (fun p => decide (p.2.2.1 ≤ bits v.toNat p.1 p.2.1) && decide (bits v.toNat p.1 p.2.1 ≤ p.2.2.2))
            && decide (v.toNat = sumOf (f.parts.map (fun p => bits v.toNat p.1 p.2.1 * 2 ^ p.1)))))

/-- The number of a value's bytes. -/
def Fld.ofBytes (f : Fld) (b : Bytes) : Int := if f.ty.signed then toInt (8 * f.ty.size) (ofLe b) else (ofLe b : Nat)

/-- The bytes of a number of a type (R539). -/
def Ty.bytes (t : Ty) (v : Int) : Bytes := leBytes t.size (ofInt (8 * t.size) v)

/-- Whether a field holds a byte string. -/
def Fld.isBlob (f : Fld) : Bool := f.ty = .blob || f.ty = .str

/-- The length of a value fits its type (R539, R556). -/
def Fld.okLength (f : Fld) (b : Bytes) : Bool :=
  if f.isBlob then decide (f.lo ≤ (b.length : Int)) && decide ((b.length : Int) ≤ f.hi) else b.length = f.ty.size

/-- Every character of a text is printable (R556). -/
def okText (b : Bytes) : Bool := b.all (fun x => decide (0x20 ≤ x.toNat) && decide (x.toNat ≤ 0x7E))

/-- A value passes row 6 of R558. -/
def Fld.okValue (f : Fld) (b : Bytes) : Bool :=
  if f.ty = .str then okText b else if f.ty = .blob then true else f.okNum (f.ofBytes b)

/-- The module answers who asks: not in RESET, not before the dictionary answers, not in SAFE after a fault of E11
(R560, R625), and only sessions that exist. -/
def Mach.answers (m : Mach) (w : Who) : Bool :=
  m.sys.mode != .reset && !(m.sys.mode = .safe && m.sys.safeUnit = 11 && m.sys.safeCause = 1)
    && (match w with | .host sid => m.authed sid | _ => true)

/-- A write that the pair forbids: a module of a pair that is not ACTIVE takes host writes of its own objects only
(R438), and no writes of E13 (R406). -/
def Mach.pairRefuses (m : Mach) (w : Who) (idx : Nat) : Bool :=
  match w with
  | .host _ => m.paired && m.pair.role != 1 && forwarded idx
  | .e13 => m.paired && m.pair.role != 1
  | .peer _ => false

/-- Rows 1 to 3 of R558 for a write, for the levels that may write the object. -/
def Mach.accessGate (m : Mach) (w : Who) (idx sub levels : Nat) : Status :=
  match findObj idx with
  | none => .unknownObject
  | some o =>
    if !o.hasSub sub then .unknownObject
    else if o.acc = .ro || o.acc = .rc || (o.whole && sub != 0) then .accessDenied
    else if m.pairRefuses w idx || !levelHas (m.level w) levels then .accessDenied
    else .ok

/-- Row 5 of R558. -/
def Mach.modeGate (m : Mach) (idx sub : Nat) : Status :=
  match findObj idx with
  | none => .unknownObject
  | some o => if bit (modeLock o (o.fld sub)) m.sys.mode.code then .modeLocked else .ok

/-- Rows 1 to 3 and 5 of R558 for a write. -/
def Mach.writeGate (m : Mach) (w : Who) (idx sub : Nat) : Status :=
  match m.accessGate w idx sub (writeLevels idx sub) with
  | .ok => m.modeGate idx sub
  | st => st

/-- Row 6 of R558 for a number. -/
def okValueAt (idx sub : Nat) (v : Int) : Bool :=
  match (findObj idx).bind (fun o => o.fld sub) with
  | some f => f.okNum v
  | none => true

/-- A write passes the checks before its object's own conditions, or is answered with the first that fails; where the
module does not answer, nothing happens. -/
def Mach.guarded (m : Mach) (w : Who) (idx sub : Nat) (f : Mach → Mach) : Mach :=
  if m.answers w then
    match m.writeGate w idx sub with
    | .ok => f m
    | st => m.reply w idx sub st
  else m

/-- The same with row 6 for the number written. -/
def Mach.guardedNum (m : Mach) (w : Who) (idx sub : Nat) (v : Int) (f : Mach → Mach) : Mach :=
  m.guarded w idx sub (fun m' => if okValueAt idx sub v then f m' else m'.reply w idx sub .outOfRange)

/-- Answer an accepted write: at once, or, while a standby is in step, after it has acknowledged the forwarded write
(R438); a joining module gets the write without an answer being awaited (log entry 42). -/
def Mach.accept (m : Mach) (w : Who) (idx sub : Nat) (inst : Nat) (data : Bytes) : Mach :=
  match w with
  | .peer _ => m
  | _ =>
    if forwarded idx && m.inStepPeer then
      let no := m.pair.forwardNo + 1
      let sent : SentForward := { no := no, sentAt := m.now, who := w, idx := idx, sub := sub }
      Mach.emit { m with pair := { m.pair with forwardNo := no, sentForwards := m.pair.sentForwards ++ [sent] } }
        (.peer (.forward no idx sub inst data))
    else if forwarded idx && m.joiningPeer then
      let no := m.pair.forwardNo + 1
      (Mach.emit { m with pair := { m.pair with forwardNo := no } } (.peer (.forward no idx sub inst data))).reply w idx sub .ok
    else m.reply w idx sub .ok

/-- Answer an accepted write of a number. -/
def Mach.acceptNum (m : Mach) (w : Who) (idx sub inst : Nat) (size : Nat) (v : Nat) : Mach :=
  m.accept w idx sub inst (leBytes size v)

/-! ### Writes that carry bytes (R539, R555) -/

/-- The fields of a record written whole: a byte string is preceded by its length. -/
def splitFields : List Fld → Bytes → Option (List Bytes)
  | [], [] => some []
  | [], _ => none
  | f :: fs, b =>
    if f.isBlob then
      if b.length < 2 + leAt b 0 2 then none
      else (splitFields fs (b.drop (2 + leAt b 0 2))).map (fun t => slice b 2 (leAt b 0 2) :: t)
    else if b.length < f.ty.size then none
    else (splitFields fs (b.drop f.ty.size)).map (fun t => b.take f.ty.size :: t)

/-- The values that a write names, by sub-index; none where the length does not fit (R539, R558 row 4). -/
def Obj.values (o : Obj) (sub : Nat) (data : Bytes) : Option (List (Nat × Fld × Bytes)) :=
  match o.form, sub with
  | .record, 0 =>
    match splitFields o.flds data with
    | some l =>
      if (o.flds.zip l).all (fun p => p.1.okLength p.2) then
        some ((List.range l.length).zip (o.flds.zip l) |>.map (fun p => (p.1 + 1, p.2.1, p.2.2)))
      else none
    | none => none
  | _, _ =>
    match o.fld sub with
    | some f => if f.okLength data then some [(sub, f, data)] else none
    | none => none

/-- Store the values that a write names. -/
def Mach.storeVals (m : Mach) (idx inst : Nat) (vals : List (Nat × Fld × Bytes)) : Mach :=
  vals.foldl (fun acc v =>
    if v.2.1.isBlob then acc.setBlob idx v.1 inst v.2.2 else acc.setNum idx v.1 inst (v.2.1.ofBytes v.2.2)) m

/-- A write that carries bytes passes rows 1 to 6 of R558, or is answered with the first that fails. -/
def Mach.guardedBytes (m : Mach) (w : Who) (idx sub levels : Nat) (data : Bytes)
    (f : List (Nat × Fld × Bytes) → Mach → Mach) : Mach :=
  if m.answers w then
    match m.accessGate w idx sub levels with
    | .ok =>
      match (findObj idx).bind (fun o => o.values sub data) with
      | none => m.reply w idx sub .typeMismatch
      | some vals =>
        match m.modeGate idx sub with
        | .ok => if vals.all (fun v => v.2.1.okValue v.2.2) then f vals m else m.reply w idx sub .outOfRange
        | st => m.reply w idx sub st
    | st => m.reply w idx sub st
  else m

/-- Send a decision to the standby as a numbered verdict record (R443, R444); a joining module gets it too. -/
def Mach.sendVerdict (m : Mach) (body : VerdictBody) : Mach :=
  if m.inStepPeer then
    let no := m.pair.verdictNo + 1
    Mach.emit { m with pair := { m.pair with
        verdictNo := no, sentVerdicts := m.pair.sentVerdicts ++ [{ no := no, sentAt := m.now, body := body }] } }
      (.peer (.verdict no body))
  else if m.joiningPeer then
    let no := m.pair.verdictNo + 1
    Mach.emit { m with pair := { m.pair with verdictNo := no } } (.peer (.verdict no body))
  else m

end Sys2Proof.Machine
end

