-- ==== Sys2Proof/Machine/Frc.lean ====
section
/-! DEFINITION. Fixed-ratio contone coding: blocks, stripes, streams, buffers, coding, verification and release (R336 to
R364, R548). -/

namespace Sys2Proof.Machine

/-! ### The block grid (R336, R337, R346) -/

/-- First block column. -/
def Content.bx0 (c : Content) : Nat := c.x / 8
/-- Block columns of a plane (nb of R346). -/
def Content.nb (c : Content) : Nat := if c.w = 0 then 0 else (c.x + c.w + 7) / 8 - c.x / 8
/-- First block row. -/
def Content.by0 (c : Content) : Nat := c.y / 8
/-- Stripe rows of a plane (nr of R346). -/
def Content.nr (c : Content) : Nat := if c.h = 0 then 0 else (c.y + c.h + 7) / 8 - c.y / 8
/-- First opacity tile column. -/
def Content.tx0 (c : Content) : Nat := c.x / 512
/-- Stripes in a row, one for each tile column (ns of R346). -/
def Content.ns (c : Content) : Nat := if c.w = 0 then 0 else (c.x + c.w - 1) / 512 - c.x / 512 + 1
/-- First opacity tile row. -/
def Content.ty0 (c : Content) : Nat := c.y / 128
/-- Opacity tile rows. -/
def Content.nty (c : Content) : Nat := if c.h = 0 then 0 else (c.y + c.h - 1) / 128 - c.y / 128 + 1
/-- The bars of the planes, in order. -/
def Content.bars (c : Content) : List Nat := setBits c.mask 8
/-- Bytes of a block by coding: RAW 16, FRC-2 8, FRC-4 4 (R346). -/
def blockBytes (coding : Nat) : Nat := if coding = 0 then 16 else if coding = 1 then 8 else 4
/-- Blocks of a row before stripe s. -/
def Content.blocksBefore (c : Content) (s : Nat) : Nat := if s = 0 then 0 else min c.nb (64 * (c.tx0 + s) - c.bx0)
/-- Blocks of stripe s. -/
def Content.blocksIn (c : Content) (s : Nat) : Nat := c.blocksBefore (s + 1) - c.blocksBefore s
/-- Bytes of a stripe row without padding. -/
def Content.rowData (c : Content) : Nat := c.nb * blockBytes c.coding + 4 * c.ns
/-- Bytes of a stripe row of the stream (R344). -/
def Content.rowLen (c : Content) : Nat := 64 * divUp c.rowData 64
/-- Bytes of a plane of the stream (R346). -/
def Content.planeLen (c : Content) : Nat := c.nr * c.rowLen
/-- Bytes of a line of a drop plane (R544). -/
def Content.dropLine (c : Content) : Nat := 64 * divUp (divUp c.w 4) 64
/-- Bytes of the stored stream. -/
def Content.streamLen (c : Content) : Nat :=
  c.bars.length * (if c.kind = 1 then c.h * c.dropLine else c.planeLen)
/-- Bytes of the planes as the host sends them (R344, R347, R544). -/
def Content.inputLen (c : Content) : Nat :=
  if c.kind = 0 && c.input = 0 then c.bars.length * (c.w / 2 * (c.h / 2)) else c.streamLen
/-- Bytes of one opacity map, padded (R121, R544). -/
def Content.mapLen (c : Content) : Nat := 64 * divUp (divUp (c.ns * c.nty) 4) 64

/-- The tile's entry in a plane's opacity map: 0 EMPTY, 1 MIXED, 2 OPAQUE, 3 reserved (R121). Tiles follow each other
without a break from row to row (log entry 20). -/
def Content.tile (c : Content) (bar tx ty : Nat) : Nat :=
  if c.tx0 ≤ tx && tx < c.tx0 + c.ns && c.ty0 ≤ ty && ty < c.ty0 + c.nty then
    let k := (ty - c.ty0) * c.ns + (tx - c.tx0)
    bits (leAt (fget c.maps bar []) (k / 4) 1) (2 * (k % 4)) 2
  else 0

/-- The line after a tile row of a frame: the frame's last row may be short (R120). -/
def tileEnd (frameLines ty : Nat) : Nat := min (128 * (ty + 1)) frameLines

/-- A tile of a frame lies wholly inside a rectangle (R120, R122). -/
def tileWithin (frameLines tx ty x y w h : Nat) : Bool :=
  decide (x ≤ 512 * tx) && decide (512 * (tx + 1) ≤ x + w) && decide (y ≤ 128 * ty) && decide (tileEnd frameLines ty ≤ y + h)

/-! ### Blocks (R338 to R343) -/

/-- The eight FRC-2 levels (R339). -/
def frc2Levels (e0 e1 : Nat) : List Nat := (List.range 8).map (fun i => e0 + (i * (e1 - e0) + 3) / 7)

/-- Distance of two numbers. -/
def gap (a b : Nat) : Nat := if a ≤ b then b - a else a - b

/-- The index of the nearest level, the lower one on a tie (R340). -/
def nearest (levels : List Nat) (p : Nat) : Nat :=
  (List.range levels.length).foldl (fun best i => if gap (nth levels i 0) p < gap (nth levels best 0) p then i else best) 0

/-- The reflected binary code of an index (R338). -/
def grayOf (i : Nat) : Nat := Nat.xor i (i / 2)

/-- The index of a code (R339). -/
def grayIndex (c : Nat) : Nat := Nat.xor c (Nat.xor (c / 2) (c / 4))

/-- The pixels that lie inside. -/
def insides (px : List (Option Nat)) : List Nat := px.filterMap id

/-- The least of the inside pixels. -/
def lowest (l : List Nat) : Nat := l.foldl min (l.headD 0)

/-- An FRC-2 block (R340). -/
def codeFrc2 (px : List (Option Nat)) : Bytes :=
  let l := insides px
  let e0 := lowest l
  let e1 := maxOf 0 l
  let idx := fun p => match p with | some v => nearest (frc2Levels e0 e1) v | none => 0
  leBytes 8 (e1 * 2 ^ 56 + e0 * 2 ^ 48 + sumOf ((List.range 16).map (fun k => grayOf (idx (nth px k none)) * 2 ^ (3 * k))))

/-- An FRC-4 block (R342). -/
def codeFrc4 (px : List (Option Nat)) : Bytes :=
  let l := insides px
  let lo := lowest l
  let mid := (lo + maxOf 0 l + 1) / 2
  let g1 := l.filter (fun v => decide (mid ≤ v))
  let g0 := l.filter (fun v => !decide (mid ≤ v))
  let mean := fun (g : List Nat) => if g.isEmpty then lo else (sumOf g + g.length / 2) / g.length
  let one := fun p => match p with | some v => b2n (decide (mid ≤ v)) | none => 0
  leBytes 4 (mean g1 * 2 ^ 24 + mean g0 * 2 ^ 16 + sumOf ((List.range 16).map (fun k => one (nth px k none) * 2 ^ k)))

/-- A block in a coding: 0 RAW, 1 FRC-2, 2 FRC-4 (R340, R342, R343). -/
def codeBlock (coding : Nat) (px : List (Option Nat)) : Bytes :=
  if coding = 0 then px.map (fun p => byteOf (p.getD 0)) else if coding = 1 then codeFrc2 px else codeFrc4 px

/-- The 16 pixels of a block; none where its endpoints are out of order (R339, R341). -/
def decodeBlock (coding : Nat) (b : Bytes) : Option (List Nat) :=
  let v := ofLe b
  if coding = 0 then some ((List.range 16).map (fun k => leAt b k 1))
  else if coding = 1 then
    let e0 := bits v 48 8
    let e1 := bits v 56 8
    if e1 < e0 then none
    else some ((List.range 16).map (fun k => nth (frc2Levels e0 e1) (grayIndex (bits v (3 * k) 3)) 0))
  else
    let e0 := bits v 16 8
    let e1 := bits v 24 8
    if e1 < e0 then none else some ((List.range 16).map (fun k => if bit v k then e1 else e0))

/-! ### Stripes and streams (R344, R345) -/

/-- The check value of a stripe (R345). -/
def stripeCheck (index bar coding : Nat) (blocks : Bytes) : Nat :=
  crc32 (leBytes 4 index ++ [byteOf bar, byteOf coding, 0, 0] ++ blocks)

/-- A raw pixel of the input, none outside the rectangle (R336, R347). -/
def Content.rawAt (c : Content) (plane i j : Nat) : Option Nat :=
  if c.x / 2 ≤ i && i < (c.x + c.w) / 2 && c.y / 2 ≤ j && j < (c.y + c.h) / 2 then
    some (leAt c.raw (plane * (c.w / 2 * (c.h / 2)) + (j - c.y / 2) * (c.w / 2) + (i - c.x / 2)) 1)
  else none

/-- The pixels of a block, numbered along the web first (R338). -/
def Content.blockIn (c : Content) (plane bx by_ : Nat) : List (Option Nat) :=
  (List.range 16).map (fun k => c.rawAt plane (4 * bx + k / 4) (4 * by_ + k % 4))

/-- The blocks of a stripe: plane, row and column of the object. -/
def Content.stripeIn (c : Content) (plane r s : Nat) : List (List (Option Nat)) :=
  (List.range (c.blocksIn s)).map (fun b => c.blockIn plane (c.bx0 + c.blocksBefore s + b) (c.by0 + r))

/-- The worst error of a coded block over its inside pixels (R349). -/
def blockError (coding : Nat) (px : List (Option Nat)) : Nat :=
  match decodeBlock coding (codeBlock coding px) with
  | none => 0
  | some d => maxOf 0 ((List.range 16).map (fun k => match nth px k none with | some v => gap v (nth d k 0) | none => 0))

/-- The worst error of a stripe. -/
def Content.stripeError (c : Content) (plane r s : Nat) : Nat :=
  maxOf 0 ((c.stripeIn plane r s).map (blockError c.coding))

/-- A coded stripe with its check value. -/
def Content.codeStripe (c : Content) (plane r s : Nat) : Bytes :=
  let blocks := (c.stripeIn plane r s).flatMap (codeBlock c.coding)
  blocks ++ leBytes 4 (stripeCheck (r * c.ns + s) (nth c.bars plane 0) c.coding blocks)

/-- The coded plane stream of the raw input (R344, R347). -/
def Content.code (c : Content) : Bytes :=
  (List.range c.bars.length).flatMap (fun p => (List.range c.nr).flatMap (fun r =>
    padTo 64 ((List.range c.ns).flatMap (fun s => c.codeStripe p r s))))

/-- Where a stripe lies in the stream. -/
def Content.stripeAt (c : Content) (plane r s : Nat) : Nat :=
  plane * c.planeLen + r * c.rowLen + c.blocksBefore s * blockBytes c.coding + 4 * s

/-- The stored blocks of a stripe. -/
def Content.stripe (c : Content) (plane r s : Nat) : Bytes :=
  slice c.stream (c.stripeAt plane r s) (c.blocksIn s * blockBytes c.coding)

/-- The check value of a stored stripe is right (R345). -/
def Content.checkOk (c : Content) (plane r s : Nat) : Bool :=
  leAt c.stream (c.stripeAt plane r s + c.blocksIn s * blockBytes c.coding) 4
    = stripeCheck (r * c.ns + s) (nth c.bars plane 0) c.coding (c.stripe plane r s)

/-- The endpoints of every stored block of a stripe are in order (R339, R341). -/
def Content.orderOk (c : Content) (plane r s : Nat) : Bool :=
  (List.range (c.blocksIn s)).all (fun b =>
    (decodeBlock c.coding (slice (c.stripe plane r s) (b * blockBytes c.coding) (blockBytes c.coding))).isSome)

/-- The padding of a stored row is zero (R351). -/
def Content.padOk (c : Content) (plane r : Nat) : Bool :=
  (slice c.stream (plane * c.planeLen + r * c.rowLen + c.rowData) (c.rowLen - c.rowData)).all (fun b => b == 0)

/-- The plane of a bar, if the object has one. -/
def Content.planeOf (c : Content) (bar : Nat) : Option Nat :=
  if bit c.mask bar then some ((c.bars.filter (fun k => decide (k < bar))).length) else none

/-- The stored contone pixel of a bar (R338): only pixels of the rectangle are asked for. -/
def Content.pixel (c : Content) (plane i j : Nat) : Nat :=
  let r := j / 4 - c.by0
  let s := i / 256 - c.tx0
  let b := i / 4 - c.bx0 - c.blocksBefore s
  match decodeBlock c.coding (slice (c.stripe plane r s) (b * blockBytes c.coding) (blockBytes c.coding)) with
  | some d => nth d (4 * (i % 4) + j % 4) 0
  | none => 0

/-- The stored drop level of a bar at a nozzle and frame line of the rectangle (R119). -/
def Content.drop (c : Content) (plane n y : Nat) : Nat :=
  bits (leAt c.stream (plane * (c.h * c.dropLine) + (y - c.y) * c.dropLine + (n - c.x) / 4) 1) (2 * ((n - c.x) % 4)) 2

/-! ### Verification (R351) -/

/-- The first failure of a row: cause and the stripe's column. -/
def Content.rowFault (c : Content) (plane r : Nat) : Option (Nat × Nat) :=
  match (List.range c.ns).findSome? (fun s =>
    if !c.checkOk plane r s then some (3, s) else if !c.orderOk plane r s then some (4, s) else none) with
  | some f => some f
  | none => if c.padOk plane r then none else some (5, c.ns - 1)

/-- FIRST_BAD (R361): the plane and the stripe index. -/
def badStripe (plane index : Nat) : Nat := plane * 2 ^ 28 + index % 2 ^ 28

/-- The first failure of the verify: FAIL_CAUSE and FIRST_BAD. -/
def Content.verify (c : Content) : Option (Nat × Nat) :=
  if c.input = 1 && c.stream.length != c.streamLen then some (6, 0xFFFFFFFF)
  else (List.range c.bars.length).findSome? (fun p => (List.range c.nr).findSome? (fun r =>
    (c.rowFault p r).map (fun f => (f.1, badStripe p (r * c.ns + f.2)))))

/-! ### Buffers (R353 to R356) -/

/-- The lengths of the units of one stripe row: blocks and check values; for drop planes 64-byte units of a line. -/
def Content.rowUnits (c : Content) : List Nat :=
  if c.kind = 1 then List.replicate (c.dropLine / 64) 64
  else (List.range c.ns).flatMap (fun s => List.replicate (c.blocksIn s) (blockBytes c.coding) ++ [4])

/-- A chain being filled: bytes used of each full buffer, the offset in the last one, bytes left unused, and parts. -/
structure Fill where
  full : List Nat := []
  off : Nat := 0
  unused : Nat := 0
  parts : List Part := []
  deriving DecidableEq, Repr

/-- A unit goes into the buffer, or starts the next one (R355). -/
def Fill.unit (size start : Nat) (f : Fill) (k len : Nat) : Fill :=
  if f.off + len ≤ size then
    { f with
      off := f.off + len
      parts := match f.parts.getLast? with
        | some p => if p.buf = f.full.length && decide (start < p.start + p.len + 1) && p.start + p.len = start
            then f.parts.dropLast ++ [{ p with len := p.len + len }]
            else f.parts ++ [{ buf := f.full.length, off := f.off, start := start, len := len, unit := k }]
        | none => [{ buf := f.full.length, off := f.off, start := start, len := len, unit := k }] }
  else
    { full := f.full ++ [f.off], off := len, unused := f.unused + (size - f.off)
      parts := f.parts ++ [{ buf := f.full.length + 1, off := 0, start := start, len := len, unit := k }] }

/-- A row starts at the next 64-byte boundary and is padded to one (R355). -/
def Fill.row (size : Nat) (units : List Nat) (f : Fill) (start : Nat) : Fill :=
  let at0 : Fill := if f.off = size then { f with full := f.full ++ [f.off], off := 0 } else f
  let placed := (units.foldl (fun acc len =>
    (acc.1 + 1, acc.2.1 + len, Fill.unit size acc.2.1 acc.2.2 acc.1 len)) (0, start, at0)).2.2
  { placed with off := min size (64 * divUp placed.off 64) }

/-- The chain of a whole stream. -/
def Content.fill (c : Content) (size : Nat) : Fill :=
  let rows := c.bars.length * (if c.kind = 1 then c.h else c.nr)
  let len := if c.kind = 1 then c.dropLine else c.rowLen
  (List.range rows).foldl (fun f r => Fill.row size c.rowUnits f (r * len)) {}

/-- Job memory left for content buffers (R353, R365): 32 GiB less every other region. -/
def Mach.contentSpace (m : Mach) : Nat :=
  let taken := 1024 + m.nat 0x5031 0 0 + m.nat 0x6033 0 0 + m.nat 0x6034 0 0 + m.nat 0x1220 1 0
  (32768 - taken) * 1048576 - m.frc.used

/-- Bytes of raw contone in the staging area (R544). -/
def Mach.stagingUsed (m : Mach) : Nat :=
  sumOf (m.frc.objects.map (fun p => if p.2.kind = 0 && p.2.input = 0 && decide (p.2.state ≤ 3) then p.2.inputLen else 0))

/-- A content object. -/
def Mach.content (m : Mach) (h : Nat) : Option Content := ffind m.frc.objects h

/-- Change a content object. -/
def Mach.onContent (m : Mach) (h : Nat) (f : Content → Content) : Mach :=
  match m.content h with
  | some c => { m with frc := { m.frc with objects := fset m.frc.objects h (f c) } }
  | none => m

/-- Add to a counter of FRC_COUNTERS (R363). -/
def Mach.frcCount (m : Mach) (k n : Nat) : Mach := { m with frc := { m.frc with counters := bump m.frc.counters k n } }

/-- Release an object's buffers. -/
def Mach.freeBuffers (m : Mach) (h : Nat) : Mach :=
  match m.content h with
  | some c =>
    let bytes := sumOf (c.buffers.map (fun b => b.2.1))
    { m with frc := { m.frc with
        used := m.frc.used - bytes
        objects := fset m.frc.objects h { c with buffers := [], parts := [], stream := [] } } }
  | none => m

/-- The object takes its buffers for the stream it holds; with too little memory left it fails with NO_SPACE (R353). -/
def Mach.takeBuffers (m : Mach) (h : Nat) : Mach × Bool :=
  match m.content h with
  | none => (m, false)
  | some c =>
    let size := c.bufferKib * 1024
    let f := c.fill size
    let used := f.full ++ [f.off]
    if used.length * size ≤ m.contentSpace then
      let bufs := (List.range used.length).map (fun i => (jobBase (128 + m.frc.nextBuffer + i), size, nth used i 0))
      ({ m with frc := { m.frc with
          used := m.frc.used + used.length * size
          nextBuffer := m.frc.nextBuffer + used.length
          objects := fset m.frc.objects h { c with buffers := bufs, parts := f.parts, remainder := f.unused } } }, true)
    else
      ((m.onContent h (fun c => { c with state := 6, failCause := 7, stream := [] })).record 0x0213 h
        (if size = 0 then 0 else m.contentSpace / size), false)

/-- A 32-byte buffer descriptor (R354): its base, size, bytes used and the next descriptor's address. -/
def descriptor (base size used next : Nat) (last : Bool) : Bytes :=
  leBytes 8 base ++ leBytes 4 size ++ leBytes 4 used ++ leBytes 8 next ++ leBytes 2 (size - used)
    ++ [byteOf (b2n last), 0, 0, 0, 0, 0]

/-- A row table entry (R356): the row's address, and where it is split, the unit and its address. -/
def Content.rowEntry (c : Content) (start len : Nat) : Bytes :=
  let own := c.parts.filter (fun p => decide (start ≤ p.start) && decide (p.start < start + len))
  let at_ := fun (p : Part) => (nth c.buffers p.buf (0, 0, 0)).1 + p.off
  match own with
  | [] => List.replicate 16 0
  | [p] => leBytes 6 (at_ p) ++ List.replicate 10 0
  | p :: q :: _ => leBytes 6 (at_ p) ++ leBytes 2 q.unit ++ leBytes 6 (at_ q) ++ [0, 0]

/-! ### Coding, verification, readiness (R348 to R352, R132, R440) -/

/-- A quarantined compressor or verify ends its object FAILED (R395): the cause is not stated (log entry 5). -/
def Mach.cutObject (m : Mach) (h : Nat) : Mach :=
  (m.drawn.onContent h (fun c => { c with state := 6, raw := [], failCause := m.freeNat % 8 })).freeBuffers h

/-- The objects that wait for the compressor: the first one starts, with the bound and buffer size of now (R348), or, while
Q14 is quarantined, ends at once, and so does the next (R393). -/
def startQueued : List Nat → Mach → Mach
  | [], m => { m with frc := { m.frc with queue := [] } }
  | h :: t, m =>
    if bit m.mem.quarantine 14 then startQueued t (m.cutObject h)
    else
      let cfg := m.nat 0x8100 0 0
      Mach.onContent { m with frc := { m.frc with queue := t } } h (fun c =>
        { c with state := 3, bufferKib := m.nat 0x8101 0 0
                 bound := if c.coding = 1 then bits cfg 0 8 else if c.coding = 2 then bits cfg 8 8 else 255 })

/-- The compressor starts the next object when it has none (R348). -/
def Mach.startCoding (m : Mach) : Mach :=
  if m.frc.objects.any (fun p => p.2.state = 3) then m else startQueued m.frc.queue m

/-- A stored stream passes to the verify (R351), which fails it while Q15 is quarantined (R393). -/
def Mach.toVerify (m : Mach) (h : Nat) : Mach :=
  if bit m.mem.quarantine 15 then m.cutObject h else m.onContent h (fun c => { c with state := 4 })

/-- An object is stored whole and right: it counts as READY at once, or, while a standby is in step, when both digests
are present and equal (R440). A standby sends its digest. -/
def Mach.contentStored (m : Mach) (h : Nat) : Mach :=
  match m.content h with
  | none => m
  | some c =>
    let d := sha256 c.stream
    let wait := m.inStepPeer && c.peerDigest != d
    let m1 := m.onContent h (fun c => { c with
      state := 5, hash := d, doneAt := m.now, ready := !wait, waitSince := if wait then some m.now else none })
    if m.pair.role = 2 then m1.emit (.peer (.digest h d)) else m1

/-- Stripe refusals in stream order: plane, stripe index, worst error, and whether the self-check refused it. -/
def Content.refusals (c : Content) (disagree : List (Nat × Nat)) : List (Nat × Nat × Nat × Bool) :=
  (List.range c.bars.length).flatMap (fun p => (List.range (c.nr * c.ns)).filterMap (fun k =>
    let e := c.stripeError p (k / c.ns) (k % c.ns)
    let self := disagree.contains (p, k)
    if self || decide (c.bound < e) then some (p, k, e, self) else none))

/-- Record one refusal: FRC_SELF_CHECK for the second decoder, and FRC_STRIPE_REFUSED, whose REPEAT counts every stripe
refused (R349, R364). -/
def Mach.recordRefusal (m : Mach) (h : Nat) (r : Nat × Nat × Nat × Bool) : Mach :=
  let m1 := if r.2.2.2 then (m.record 0x0212 h (r.1 + 256 * (r.2.1 % 2 ^ 24))).frcCount 5 1 else m
  (m1.record 0x0210 h (r.2.2.1 + 256 * (r.2.1 % 2 ^ 24))).frcCount 2 1

/-- The compressor finishes an object (R349): every stripe's worst error is known; a refused stripe fails it, with the
cause of the first in stream order; else its stream takes buffers and passes to the verify, or, in RAW, is READY. -/
def Mach.codingDone (m : Mach) (disagree : List (Nat × Nat)) : Mach :=
  match m.frc.objects.filter (fun p => p.2.state = 3) with
  | [] => m
  | (h, c) :: _ =>
    let errors := (List.range c.bars.length).map (fun p =>
      (p, (List.range (c.nr * c.ns)).map (fun k => c.stripeError p (k / c.ns) (k % c.ns))))
    let refused := c.refusals disagree
    let m1 := (m.onContent h (fun c => { c with
      errors := errors, worst := maxOf 0 (errors.flatMap (fun e => e.2)), refused := refused.length })).frcCount 1 1
    let m2 :=
      match refused with
      | (p, k, _, self) :: _ =>
        refused.foldl (fun (acc : Mach) r => acc.recordRefusal h r)
          (m1.onContent h (fun c => { c with
            state := 6, raw := [], failCause := if self then 2 else 1, firstBad := badStripe p k }))
      | [] =>
        match (m1.onContent h (fun c => { c with stream := c.code, raw := [] })).takeBuffers h with
        | (m', true) => if c.coding = 0 then m'.contentStored h else m'.toVerify h
        | (m', false) => m'
    m2.startCoding

/-- The verify of an object ends (R351). -/
def Mach.verifyDone (m : Mach) (h : Nat) : Mach :=
  match m.content h with
  | some c =>
    if c.state = 4 then
      match c.verify with
      | none => m.contentStored h
      | some (cause, bad) =>
        ((m.onContent h (fun c => { c with state := 6, failCause := cause, firstBad := bad })).record 0x0211 h cause).frcCount 3 1
    else m
  | none => m

/-- A transfer's bytes are in: maps, then planes (R544, R546, R352). Raw contone waits for the compressor; coded contone
and drop planes are stored at once. The second result is false where no buffer was left. -/
def Mach.contentReceived (m : Mach) (h : Nat) (data : Bytes) : Mach × Bool :=
  match m.content h with
  | none => (m, true)
  | some c =>
    let maps := (List.range c.bars.length).map (fun i => (nth c.bars i 0, slice data (i * c.mapLen) c.mapLen))
    let planes := data.drop (c.bars.length * c.mapLen)
    if c.kind = 0 && c.input = 0 then
      (Mach.startCoding { m.onContent h (fun c => { c with maps := maps, raw := planes, state := 2 }) with
        frc := { (m.onContent h (fun c => { c with maps := maps, raw := planes, state := 2 })).frc with queue := m.frc.queue ++ [h] } },
       true)
    else
      let m1 := m.onContent h (fun c => { c with
        maps := maps, stream := planes, bufferKib := m.nat 0x8101 0 0
        errors := (List.range c.bars.length).map (fun p => (p, List.replicate (c.nr * c.ns) 0xFF)) })
      match m1.takeBuffers h with
      | (m2, true) =>
        (if c.kind = 1 || c.coding = 0 then m2.contentStored h else m2.toVerify h, true)
      | (m2, false) => (m2, false)

/-- The byte of a content buffer at an address (R353): which object, and where in its stream. -/
def Mach.bufferByte (m : Mach) (a : Nat) : Option (Nat × Nat) :=
  m.frc.objects.findSome? (fun p => p.2.parts.findSome? (fun q =>
    let lo := (nth p.2.buffers q.buf (0, 0, 0)).1 + q.off
    if lo ≤ a && a < lo + q.len then some (p.1, q.start + (a - lo)) else none))

/-- The 128-byte announcement of a content (R543). -/
def Content.announcement (c : Content) : Bytes :=
  let one := fun (v : Nat) => leBytes 1 v
  let four := fun (v : Nat) => leBytes 4 v
  one c.kind ++ one c.input ++ one c.coding ++ one c.mask ++ four c.x ++ four c.y ++ four c.w ++ four c.h
    ++ leBytes 8 (c.bars.length * c.mapLen + c.inputLen) ++ four (2 * b2n c.signed) ++ (c.digest ++ List.replicate 32 0).take 32
    ++ (c.signature ++ List.replicate 64 0).take 64

/-- A content as it is copied over Bindweed: its announcement, its maps, and the stream (R440, R459; log entry 45). -/
def Content.copy (c : Content) : Bytes := c.announcement ++ c.bars.flatMap (fun b => fget c.maps b []) ++ c.stream

/-- A content that this module made is copied to a standby, and is READY when that one confirms its digest (R440, R502). -/
def Mach.shareContent (m : Mach) (h : Nat) : Mach :=
  match m.content h with
  | none => m
  | some c =>
    if m.inStepPeer then
      (m.onContent h (fun c => { c with ready := false, waitSince := some m.now })).emit (.peer (.resync (.content h c.hash c.copy)))
    else m

/-! ### Release (R357, R548) -/

/-- Static layers in effect, in a shadow or in a seam, posts and open frames hold a content (R357). -/
def Mach.contentHeld (m : Mach) (h : Nat) : Bool :=
  let static := fun (nums : FMap Int) => (List.range 8).any (fun l =>
    let kind := fget nums (okey 0x5010 1 l) 0
    (kind = 1 || kind = 3) && fget nums (okey 0x5010 12 l) 0 = (h : Int))
  static m.dict.nums || static m.dict.effNums || m.seams.vals.any (fun v => bit v.scope 0 && static v.nums)
    || m.comp.posts.any (fun p => p.content = h)
    || m.comp.frames.any (fun f => !f.closed && f.verdicts.any (fun v => v.content = h && decide (v.verdict ≤ 2)))

/-- A write of CONTENT_RELEASE (R548). -/
def Mach.writeContentRelease (m : Mach) (w : Who) (handle : Nat) : Mach :=
  m.guardedNum w 0x1224 0 handle (fun m =>
    if (m.content handle).isNone then m.reply w 0x1224 0 .outOfRange
    else if m.contentHeld handle then m.reply w 0x1224 0 .busy
    else
      let m1 := m.freeBuffers handle
      Mach.acceptNum { m1 with frc := { m1.frc with objects := fdel m1.frc.objects handle, queue := m1.frc.queue.filter (· != handle) } }
        w 0x1224 0 0 4 handle)

end Sys2Proof.Machine
end

