-- ==== Sys2Proof/Machine/Speed.lean ====
section
/-! DEFINITION. Compare positions, the speed estimator, reversal and forward notices, and PSO outputs (R46 to R72,
R674). -/

namespace Sys2Proof.Machine

/-! ### Compare positions (R46, R57, R58) -/

/-- COMPARE_INCREMENT in counts per web line, Q32.32. -/
def Mach.increment (m : Mach) : Nat := m.nat 0x2120 0 0

/-- Lines times the increment, rounded to the nearest count (R57). -/
def linesToCounts (inc n : Nat) : Int := ((n * inc + 0x80000000) / 2 ^ 32 : Nat)

/-- pos(W, L, t) of R57 for an origin position. -/
def posAt (origin : Int) (inc w l : Nat) (t : Int) : Int := origin + linesToCounts inc (w + l) + t

/-- The datum position of a web line. -/
def Mach.datumPos (m : Mach) (w : Nat) : Option Int := m.enc.origin.map (fun o => posAt o m.increment w 0 0)

/-- BAR_OFFSET of a bar (R60). -/
def Mach.barOffset (m : Mach) (k : Nat) : Nat := m.nat 0x4012 0 k

/-- The position of a bar's line event (R60). -/
def Mach.barPos (m : Mach) (k w : Nat) : Option Int :=
  m.enc.origin.map (fun o => posAt o m.increment w (m.barOffset k) (m.num 0x4013 0 k))

/-- The bar's next line to pass its landing line (R61). -/
def Mach.barNext (m : Mach) (k : Nat) : Nat := fget m.enc.barNext k m.enc.firstLine

/-- BAR_FIRED_MAX (R61): the compare target is always the line after it, so a capture sets it one below N_next, and it
stays when the run ends. One below line 0 is all ones (log entry 9). -/
def Mach.barFiredMax (m : Mach) (k : Nat) : Nat := (m.barNext k + noLine) % 2 ^ 48

/-! ### The speed estimator (R63 to R65, R674) -/

/-- A quotient rounded to the nearest integer, halves away from zero (R64); over nothing it is not stated. -/
def roundDiv (a : Int) (b : Nat) : Int :=
  if b = 0 then Config.rateAtOnce a
  else if 0 ≤ a then ((2 * a.toNat + b) / (2 * b) : Nat) else -(((2 * (-a).toNat + b) / (2 * b) : Nat) : Int)

/-- STATE of SPEED_EST: 0 NONE, 1 WARMING, 2 VALID (R64). -/
def Enc.speedState (e : Enc) : Nat := if e.window.length < 2 then 0 else if e.events < 16 then 1 else 2

/-- Speed between two counts, in counts per second. -/
def speedOf (a b : Nat × Int) : Int := roundDiv ((b.2 - a.2) * 1000000000) (b.1 - a.1)

/-- SPEED in counts per second (R63): 0 in NONE. -/
def Enc.speed (e : Enc) : Int :=
  match e.window.head?, e.window.getLast? with
  | some a, some b => if e.window.length < 2 then 0 else speedOf a b
  | _, _ => 0

/-- ACCEL in counts per second squared (R63). The later half of an odd number of intervals holds the one more, and a
window of two counts has no earlier half and no acceleration (log entry 10). -/
def Enc.accel (e : Enc) : Int :=
  let n := e.window.length
  match e.window[0]?, e.window[(n - 1) / 2]?, e.window[n - 1]? with
  | some a, some b, some c =>
    if n < 3 then 0
    else
      let t1 := b.1 - a.1
      let t2 := c.1 - b.1
      roundDiv (((c.2 - b.2) * (t1 : Int) - (b.2 - a.2) * (t2 : Int)) * 2 * 10 ^ 18) (t1 * t2 * (c.1 - a.1))
  | _, _, _ => 0

/-- The datum line rate in Hz (R674): over the last 17 datum line events since the restart. -/
def Enc.lineRate (e : Enc) : Nat :=
  match e.datumTimes.head?, e.datumTimes.getLast? with
  | some a, some b =>
    if e.datumTimes.length < 2 then 0
    else (roundDiv ((((e.datumTimes.length - 1) * 1000000000 : Nat)) : Int) (b - a)).toNat
  | _, _ => 0

/-- The window takes a count (R63): timestamps have 4 ns, and the window holds the last 16 counts for each whole count
of the increment. -/
def Enc.takeCount (e : Enc) (inc t : Nat) : Enc :=
  let w := e.window ++ [(t / 4 * 4, e.raw)]
  { e with window := w.drop (w.length - 16 * (inc / 2 ^ 32)) }

/-- A datum line event enters the estimator (R64, R674). -/
def Enc.takeDatum (e : Enc) (t : Nat) : Enc :=
  let l := e.datumTimes ++ [t / 4 * 4]
  { e with events := min 65535 (e.events + 1), datumTimes := l.drop (l.length - 17) }

/-- The estimator restarts and records the cause (R65). -/
def Mach.restartSpeed (m : Mach) (cause : Nat) : Mach :=
  Mach.record { m with enc := { m.enc with
    window := [], datumTimes := [], events := 0, waitForward := decide (cause = 1) || m.enc.waitForward
    lastCount := m.now, counted := m.enc.counted && cause != 2 } } 0x0109 cause m.webLine

/-! ### Direction (R54, R55) -/

/-- A reversal or forward notice when the raw position leaves the hysteresis: one notice for each change of direction
(log entry 11). -/
def Mach.notices (m : Mach) : Mach :=
  let e := m.enc
  let h : Int := m.num 0x2105 0 0
  let hi := max e.hiRaw e.raw
  let lo := min e.loRaw e.raw
  if !e.dirNoticed && decide (e.raw < hi - h) then
    let m1 := { m with enc := { e with dirNoticed := true, hiRaw := hi, loRaw := e.raw } }
    (m1.record 0x0105 (p32 hi) m.webLine).restartSpeed 1
  else if e.dirNoticed && decide (lo + h < e.raw) then
    let m1 := { m with enc := { e with dirNoticed := false, hiRaw := e.raw, loRaw := lo, waitForward := false } }
    m1.record 0x0106 (p32 lo) m.webLine
  else { m with enc := { e with hiRaw := hi, loRaw := lo } }

/-! ### PSO outputs (R66 to R72) -/

/-- PERIOD, WIDTH, POLARITY and MODE of PSO_CONFIG (R67). -/
def Mach.psoCfg (m : Mach) (n : Nat) : Nat := m.nat 0x2140 (n + 1) 0

/-- MODE: 0 OFF, 1 SCHEDULE, 2 PERIODIC. -/
def Mach.psoMode (m : Mach) (n : Nat) : Nat := bits (m.psoCfg n) 0 2

/-- PULSE: the output is active for WIDTH from now (R71). -/
def Pso.pulse (p : Pso) (now width : Nat) : Pso := { p with pulseEnd := some (now + width * 1000) }

/-- An action: 0 PULSE, 1 SET, 2 CLEAR (R68, R71). -/
def Pso.act (p : Pso) (now width action : Nat) : Pso :=
  if action = 1 then { p with held := true, pulseEnd := none }
  else if action = 2 then { p with held := false, pulseEnd := none }
  else p.pulse now width

/-- Whether an output is active (R67, R71, R72): OFF and the outputs of a module that is not ACTIVE stay inactive. -/
def Mach.psoActive (m : Mach) (n : Nat) : Bool :=
  m.psoMode n != 0 && (m.pair.role = 0 || m.pair.role = 1) && ((m.pso n).held || (m.pso n).pulseEnd.isSome)

/-- The frame of a reject pulse has been pulsed (R143). -/
def markPulse (frames : List PrintFrame) (f : Nat × Nat) (v : Nat) : List PrintFrame :=
  frames.map (fun x => if x.jobLine = f.1 && x.number = f.2 then { x with pulse := v } else x)

/-- Keep a queue in web-line order, equal lines in order of writing (R69). -/
def psoInsert : List PsoEntry → PsoEntry → List PsoEntry
  | [], e => [e]
  | h :: t, e => if e.line < h.line then e :: h :: t else h :: psoInsert t e

/-- The reject PSO's waiting pulses move into its free module entries, of which there are 16 (R69, R141). -/
def Mach.refillRejects (m : Mach) (n : Nat) : Mach :=
  match m.comp.rejectList with
  | [] => m
  | (line, job, frame) :: rest =>
    if m.nat 0x5038 1 0 = n && decide (((m.pso n).queue.filter (fun e => e.frame.isSome)).length < 16) then
      let e : PsoEntry := { line := line, action := 0, frame := some (job, frame) }
      { m with
        psos := fset m.psos n { m.pso n with queue := psoInsert (m.pso n).queue e }
        comp := { m.comp with rejectList := rest, frames := markPulse m.comp.frames (job, frame) 3 } }
    else m

/-- One queued action takes effect. -/
def Mach.psoTake (m : Mach) (n : Nat) (e : PsoEntry) : Mach :=
  let width := bits (m.psoCfg n) 16 16
  let m1 := m.onPso n (fun p => p.act m.now width e.action)
  match e.frame with
  | none => m1
  | some f => { m1 with comp := { m1.comp with frames := markPulse m1.comp.frames f 1 } }

/-- Web line W passes an output's action position (R66, R71): a periodic pulse first, then the queued actions of the
line in order (log entry 12). -/
def Mach.psoLine (m : Mach) (n w : Nat) : Mach :=
  let due := (m.pso n).queue.filter (fun e => e.line = w)
  let period := bits (m.psoCfg n) 32 20
  let width := bits (m.psoCfg n) 16 16
  let m1 := m.onPso n (fun p =>
    { p with next := w + 1, queue := p.queue.filter (fun e => e.line != w) })
  let m2 := if m.psoMode n = 2 && w % max 1 period = 0 then m1.onPso n (fun p => p.pulse m.now width) else m1
  (due.foldl (fun acc e => acc.psoTake n e) m2).refillRejects n

/-- An output's lines that the raw position has reached take effect, at most `fuel` of them. -/
def Mach.psoHits (m : Mach) (n : Nat) : Nat → Mach
  | 0 => m
  | fuel + 1 =>
    match m.enc.origin with
    | none => m
    | some o =>
      if posAt o m.increment (m.pso n).next (bits (m.nat 0x2141 (n + 1) 0) 0 22) 0 ≤ m.enc.raw then
        (m.psoLine n (m.pso n).next).psoHits n fuel
      else m

/-- Free host entries of an output's queue (R69). -/
def Mach.psoFree (m : Mach) (n : Nat) : Nat := 48 - ((m.pso n).queue.filter (fun e => e.frame.isNone)).length

/-- Empty a queue: the held level becomes inactive (R71, R619, R624). -/
def Mach.clearPso (m : Mach) (n : Nat) : Mach := m.onPso n (fun p => { p with queue := [], held := false, pulseEnd := none })

/-- A write of PSO_SCHEDULE (R68 to R70): a passed line is refused first, then a queue without a free host entry. From the
capture of an origin on, the lines below N_next count as passed; entries that were queued for them before stay in the queue
and never act (log entry 81). -/
def Mach.writePsoSchedule (m : Mach) (w : Who) (n v : Nat) : Mach :=
  m.guardedNum w 0x2142 (n + 1) v (fun m =>
    let e : PsoEntry := { line := bits v 0 48, action := bits v 48 2, frame := none }
    if m.enc.origin.isSome && decide (e.line < (m.pso n).next) then m.reply w 0x2142 (n + 1) .commitRejected
    else if m.psoFree n = 0 then m.reply w 0x2142 (n + 1) .busy
    else (m.onPso n (fun p => { p with queue := psoInsert p.queue e })).acceptNum w 0x2142 (n + 1) 0 8 v)

end Sys2Proof.Machine
end

