-- ==== Sys2Proof/Machine/Screen.lean ====
section
/-! DEFINITION. Tone, zones, nozzles, screening, head slots and the payload of a port (R153 to R178). Every stage is
written for one position, as the manual writes it. -/

namespace Sys2Proof.Machine

/-- A quotient rounded to the nearest integer, halves towards plus infinity (R156). -/
def divHalfUp (a : Int) (b : Nat) : Int := (2 * a + (b : Int)) / (2 * (b : Int))

/-! ### Tone and zones (R154 to R156) -/

/-- T(c). -/
def toneAt (curve : Bytes) (c : Nat) : Nat := leAt curve (2 * c) 2

/-- o(z, k): point 0 is always taken as 0. -/
def zonePoint (zo : Bytes) (z k : Nat) : Int := if k = 0 then 0 else toInt 16 (leAt zo (2 * (17 * z + k)) 2)

/-- The input of point k: 16k, and 255 for point 16. -/
def zoneInput (k : Nat) : Nat := if k = 16 then 255 else 16 * k

/-- The offset of zone z at input c. -/
def zoneOffset (zo : Bytes) (z c : Nat) : Int :=
  let k := min (c / 16) 15
  let o := zonePoint zo z k
  divHalfUp (o * ((zoneInput (k + 1) - zoneInput k : Nat) : Int) + ((c - zoneInput k : Nat) : Int) * (zonePoint zo z (k + 1) - o))
    (zoneInput (k + 1) - zoneInput k)

/-- The offset of pixel i at input c: between two zone centres by a weight in 1/256 (R156). -/
def pixelOffset (zo : Bytes) (i c : Nat) : Int :=
  if 2 * i < 767 then zoneOffset zo 0 c
  else
    let z := (2 * i - 767) / 1536
    if 63 ≤ z then zoneOffset zo 63 c
    else
      let w := divHalfUp (((2 * i - 767 - 1536 * z) * 256 : Nat) : Int) 1536
      let o := zoneOffset zo z c
      divHalfUp (256 * o + w * (zoneOffset zo (z + 1) c - o)) 256

/-- t(i, j) for the composite c of the pixel. -/
def toned (curve zo : Bytes) (i c : Nat) : Nat := (clampI 0 4095 ((toneAt curve c : Int) + pixelOffset zo i c)).toNat

/-! ### Nozzles (R157 to R162) -/

/-- The gain code of a nozzle in NOZZLE_MAP. -/
def gainOf (map : Bytes) (n : Nat) : Nat := leAt map n 1

/-- The state that NOZZLE_MAP holds: 0 OK, 1 WEAK, 2 OUT, 3 MASKED. -/
def stateOf (map : Bytes) (n : Nat) : Nat := bits (leAt map (98304 + n / 4) 1) (2 * (n % 4)) 2

/-- What a bar's stages use for one web line: curve, zone offsets, nozzle map, mask, shifts, width, and the nozzles that
an enabled head slot covers, as ranges of bar nozzles. -/
structure Tables where
  curve : Bytes
  zones : Bytes
  nozzles : Bytes
  mask : Bytes
  shift : Nat
  width : Nat
  covered : List (Nat × Nat)
  deriving DecidableEq, Repr

/-- An enabled head slot covers the nozzle. -/
def Tables.covers (t : Tables) (n : Nat) : Bool := t.covered.any (fun r => decide (r.1 ≤ n) && decide (n < r.1 + r.2))

/-- A nozzle's state, MASKED where no slot covers it (R159). -/
def Tables.state (t : Tables) (n : Nat) : Nat := if t.covers n then stateOf t.nozzles n else 3

/-- ok(m) of R159. -/
def Tables.ok (t : Tables) (n : Nat) : Bool := decide (n < t.width) && t.state n = 0

/-- a(n, j) of R157, for the composites of the row. -/
def across (t : Tables) (row : Nat → Nat) (n : Nat) : Nat :=
  let i := n / 2
  let own := toned t.curve t.zones i (row i)
  let near :=
    if n % 2 = 0 then (if i = 0 then own else toned t.curve t.zones (i - 1) (row (i - 1)))
    else if 2 * (i + 1) < t.width then toned t.curve t.zones (i + 1) (row (i + 1)) else own
  (3 * own + near + 2) / 4

/-- An OUT nozzle's value for the OK neighbour on a side: half of it, or all where the other side cannot take it. -/
def givenBy (t : Tables) (row : Nat → Nat) (n : Nat) (toRight : Bool) : Nat :=
  if t.state n = 2 then
    let a := across t row n
    let left := decide (0 < n) && t.ok (n - 1)
    let right := t.ok (n + 1)
    if toRight then (if left && right then a - a / 2 else if right then a else 0)
    else (if left && right then a / 2 else if left then a else 0)
  else 0

/-- b(n, j) of R159. DESIGN CHOICE (log entry 83): an OUT nozzle at or beyond WIDTH_NOZZLES gives nothing. -/
def gained (t : Tables) (row : Nat → Nat) (n : Nat) : Nat :=
  let s := t.state n
  let own := if s = 0 || s = 1 then (across t row n * (gainOf t.nozzles n + 128) + 128) / 256 else 0
  let fromLeft := if decide (0 < n) && t.ok n then givenBy t row (n - 1) true else 0
  let fromRight := if t.ok n && decide (n + 1 < t.width) then givenBy t row (n + 1) false else 0
  min 4095 (own + fromLeft + fromRight)

/-- An OUT nozzle with no OK neighbour (R159, R162). -/
def Tables.isolated (t : Tables) (n : Nat) : Bool :=
  t.state n = 2 && !(decide (0 < n) && t.ok (n - 1)) && !t.ok (n + 1)

/-! ### Interpolation along the web and screening (R163 to R166) -/

/-- v(n, y) of R163 for the composites c(i, j) of a frame of so many lines. -/
def along (t : Tables) (comp : Nat → Nat → Nat) (frameLines n y : Nat) : Nat :=
  let j := y / 2
  let last := (frameLines - 1) / 2
  let near := if y % 2 = 0 then (if j = 0 then j else j - 1) else (if j = last then j else j + 1)
  (3 * gained t (fun i => comp i j) n + gained t (fun i => comp i near) n + 2) / 4

/-- Threshold 1, 2 or 3 of a cell (R164). -/
def threshold (mask : Bytes) (x q k : Nat) : Nat := leAt mask (6 * (128 * q + x) + 2 * (k - 1)) 2

/-- The level of a value at a position (R166). -/
def screened (t : Tables) (v n y : Nat) : Nat :=
  let x := (n + bits t.shift 0 7) % 128
  let q := (y + bits t.shift 8 7) % 128
  b2n (decide (threshold t.mask x q 1 < v)) + b2n (decide (threshold t.mask x q 2 < v)) + b2n (decide (threshold t.mask x q 3 < v))

/-- Stage 8 (R167): no drop outside the width, at OUT and MASKED nozzles, or where no slot covers. -/
def forced (t : Tables) (n d : Nat) : Nat :=
  if decide (n < t.width) && (t.state n = 0 || t.state n = 1) then d else 0

/-! ### Head slots (R173 to R176) -/

/-- HEAD_SLOT of a slot of a port. -/
def Mach.slot (m : Mach) (p s : Nat) : Nat := m.nat 0x3010 (s + 1) p

/-- ENABLE. -/
def slotOn (v : Nat) : Bool := bit v 29
/-- FIRST. -/
def slotFirst (v : Nat) : Nat := bits v 0 14
/-- NOZZLES. -/
def slotNozzles (v : Nat) : Nat := bits v 14 12
/-- Nozzle rows. -/
def slotRows (v : Nat) : Nat := bits v 26 2 + 1
/-- ROWr_LINES. -/
def slotRowLines (v r : Nat) : Nat := bits v (32 + 8 * r) 7

/-- The eight slots of a port. -/
def Mach.slots (m : Mach) (p : Nat) : List Nat := (List.range 8).map (m.slot p)

/-- The enabled slots of a port. -/
def Mach.slotsOn (m : Mach) (p : Nat) : List Nat := (m.slots p).filter slotOn

/-- A port has an enabled slot. -/
def Mach.portUsed (m : Mach) (p : Nat) : Bool := !(m.slotsOn p).isEmpty

/-- The row offsets of the enabled rows of slots. -/
def rowOffsets (l : List Nat) : List Nat := l.flatMap (fun v => (List.range (slotRows v)).map (slotRowLines v))

/-- Stagger depth D_k of a bar (R175). -/
def Mach.stagger (m : Mach) (k : Nat) : Nat := maxOf 0 ((portsOf k).flatMap (fun p => rowOffsets (m.slotsOn p)))

/-- The ranges of bar nozzles that enabled slots cover: port i of the bar is the window from nozzle 12,288 i. -/
def Mach.coveredBy (m : Mach) (k : Nat) : List (Nat × Nat) :=
  (List.range 8).flatMap (fun i => (m.slotsOn (8 * k + i)).map (fun v => (12288 * i + slotFirst v, slotNozzles v)))

/-- The window position of head nozzle h of a slot (R174). -/
def slotPos (v h : Nat) : Nat := if bit v 28 then slotFirst v + slotNozzles v - 1 - h else slotFirst v + h

/-- The slots of a port keep R174: they fit the window, do not overlap, and their rows lie at most 96 lines down. -/
def slotsFit (l : List Nat) : Bool :=
  let on := l.filter slotOn
  on.all (fun v => decide (slotFirst v + slotNozzles v ≤ 12288) && decide (1 ≤ slotNozzles v))
    && (List.range on.length).all (fun i => (List.range i).all (fun j =>
      let a := nth on i 0
      let b := nth on j 0
      decide (slotFirst a + slotNozzles a ≤ slotFirst b) || decide (slotFirst b + slotNozzles b ≤ slotFirst a)))

/-- Pack levels of 2 bits into bytes, entry 0 lowest (R176, R177). -/
def packLevels : List Nat → Bytes
  | [] => []
  | a :: b :: c :: d :: t => byteOf (a + 4 * b + 16 * c + 64 * d) :: packLevels t
  | [a] => [byteOf a]
  | [a, b] => [byteOf (a + 4 * b)]
  | [a, b, c] => [byteOf (a + 4 * b + 16 * c)]

/-- LINE_PAYLOAD_BYTES (R176): padded to a multiple of 4 bytes. -/
def Mach.payloadBytes (m : Mach) (p : Nat) : Nat := 4 * divUp (sumOf ((m.slotsOn p).map slotNozzles)) 16

/-- The level of a bar nozzle on a line of the dot store; a line that is not there is blank. -/
def dotAt (store : List DotLine) (line n : Nat) : Nat :=
  match firstWhere (fun d => d.line == line) store with
  | some d => nth d.levels n 0
  | none => 0

/-- The entries of a port's payload at a fire event: each row takes the line that lies its offset below the event, and
under the level cap 3 is sent as 2 (R168, R176, R178). -/
def Mach.payloadLevels (m : Mach) (p event : Nat) (cap : Bool) : List Nat :=
  let store := fget m.comp.dots (barOf p) []
  (m.slotsOn p).flatMap (fun v => (List.range (slotNozzles v)).map (fun h =>
    let d := slotRowLines v (h % slotRows v)
    let lvl := if d ≤ event then dotAt store (event - d) (12288 * (p % 8) + slotPos v h) else 0
    if cap && lvl = 3 then 2 else lvl))

/-- A port's payload (R176). -/
def Mach.payload (m : Mach) (p event : Nat) (cap : Bool) : Bytes := padTo 4 (packLevels (m.payloadLevels p event cap))

end Sys2Proof.Machine
end

