-- ==== Sys2Proof/Machine/Frames.lean ====
section
/-! DEFINITION. Jobs, frames, readiness verdicts, REJECT marks and pulses, posts, layer and job settings and the staging
check (R105, R113 to R151). -/

namespace Sys2Proof.Machine

/-! ### Frontiers and the horizon (R87 to R90) -/

/-- The line after the bar's fired frontier. -/
def Mach.fireNext (m : Mach) (k : Nat) : Nat := fget m.seams.fireNext k m.enc.firstLine

/-- The bar's next event whose FIRE is to be queued (R203): it runs ahead of the fired frontier while a FIRE waits for the
lane. -/
def Mach.queueNext (m : Mach) (k : Nat) : Nat := max (m.fireNext k) (fget m.seams.queued k 0)

/-- The line after the bar's composed frontier. -/
def Mach.compNext (m : Mach) (k : Nat) : Nat := fget m.seams.compNext k m.enc.firstLine

/-- The next line that the bar's composer takes: a recompute comes first (R99, R101). -/
def Mach.nextToCompose (m : Mach) (k : Nat) : Nat := fget m.seams.redo k (m.compNext k)

/-- H (R89). -/
def Mach.horizon (m : Mach) : Nat := if m.enc.speedState = 2 then m.nat 0x2010 0 0 else 8

/-- The first line beyond a bar's run-ahead horizon. -/
def Mach.horizonEnd (m : Mach) (k : Nat) : Nat := m.fireNext k + m.horizon

/-! ### Jobs and frames (R103, R114, R115) -/

/-- J of the job at a web line: the applied line of the seam that started it, or the first line of the run. -/
def Mach.jobLine (m : Mach) (w : Nat) : Nat :=
  match valsAt m.seams.vals 0 w with
  | some v => v.applied
  | none => m.enc.firstLine

/-- A field of JOB_CONFIG at a web line. -/
def Mach.jobNat (m : Mach) (sub w : Nat) : Nat := m.rsNat 0x5001 sub 0 w

/-- A field of LAYER_CONFIG at a web line. -/
def Mach.layerNat (m : Mach) (sub l w : Nat) : Nat := m.rsNat 0x5010 sub l w

/-- The frame number of a line, none for lines of no frame (R115). -/
def Mach.frameNo (m : Mach) (w : Nat) : Option Nat :=
  let n := (w - m.jobLine w) / max 1 (m.jobNat 2 w)
  let count := m.jobNat 3 w
  if w < m.jobLine w || (count != 0 && decide (count ≤ n)) then none else some n

/-- The first line of the frame that a line lies in. -/
def Mach.frameFirst (m : Mach) (w : Nat) : Nat :=
  m.jobLine w + (w - m.jobLine w) / max 1 (m.jobNat 2 w) * max 1 (m.jobNat 2 w)

/-- The line that B0 composed most recently (R116). -/
def Mach.lastComposed (m : Mach) (k : Nat) : Option Nat := (ffind m.comp.lastSet k).map (fun x => x.1)

/-- A JOB number of the job in effect (R116): at the line that B0 composed last in a run, else outside. -/
def Mach.jobInEffect (m : Mach) (idx sub inst : Nat) : Nat :=
  match m.lastComposed 0 with
  | some w => if m.printing then m.rsNat idx sub inst w else (m.effNum idx sub inst).toNat
  | none => (m.effNum idx sub inst).toNat

/-- A bit of a mask is set by an or. -/
def orMask (a b : Nat) : Nat := Nat.lor a b

/-! ### Pulses and the log (R139 to R144) -/

/-- Change a frame. -/
def onFrame (l : List PrintFrame) (job num : Nat) (f : PrintFrame → PrintFrame) : List PrintFrame :=
  l.map (fun x => if x.jobLine = job && x.number = num then f x else x)

/-- A frame by its job's first line and its number. -/
def Mach.frame (m : Mach) (job num : Nat) : Option PrintFrame :=
  firstWhere (fun x => x.jobLine == job && x.number == num) m.comp.frames

/-- Change a frame of the machine. -/
def Mach.setFrame (m : Mach) (job num : Nat) (f : PrintFrame → PrintFrame) : Mach :=
  { m with comp := { m.comp with frames := onFrame m.comp.frames job num f } }

/-- A frame enters REJECT_LOG; a full log drops its oldest entry, whose first line the event names (R143, R152). -/
def Mach.logFrame (m : Mach) (f : PrintFrame) : Mach :=
  let e : RejectEntry := { jobId := f.jobId, number := f.number, first := f.first, causes := f.causes, pulse := f.pulse,
                           bars := f.bars, seq := m.hy.resultSeq }
  let m1 := { m.setFrame f.jobLine f.number (fun x => { x with logged := true }) with
    hy := { m.hy with resultSeq := (m.hy.resultSeq + 1) % 2 ^ 32 } }
  match m.comp.rejectLog with
  | old :: rest =>
    if 256 ≤ m.comp.rejectLog.length then
      Mach.recordAt { m1 with comp := { m1.comp with rejectLog := rest ++ [e] } } 0x0204 old.number old.jobId old.first
    else { m1 with comp := { m1.comp with rejectLog := m.comp.rejectLog ++ [e] } }
  | [] => { m1 with comp := { m1.comp with rejectLog := [e] } }

/-- REJECT frames that have closed and whose pulse is settled enter the log (R143). -/
def Mach.settle (m : Mach) : Mach :=
  (m.comp.frames.filter (fun f => f.causes != 0 && f.closed && !f.logged && decide (f.pulse ≤ 2))).foldl
    (fun acc f => acc.logFrame f) m

/-- Insert a waiting pulse in web-line order (R141). -/
def insertWaiting : List (Nat × Nat × Nat) → Nat × Nat × Nat → List (Nat × Nat × Nat)
  | [], e => [e]
  | h :: t, e => if e.1 < h.1 then e :: h :: t else h :: insertWaiting t e

/-- The module entries of an output that hold reject pulses (R69). -/
def Mach.pulseEntries (m : Mach) (n : Nat) : List PsoEntry := (m.pso n).queue.filter (fun e => e.frame.isSome)

/-- A pulse enters a module entry of an output. -/
def Mach.enterPulse (m : Mach) (n line job num : Nat) : Mach :=
  (m.setFrame job num (fun x => { x with pulse := 3 })).onPso n (fun p =>
    { p with queue := psoInsert p.queue { line := line, action := 0, frame := some (job, num) } })

/-- A pulse waits in the reject list. -/
def Mach.listPulse (m : Mach) (line job num : Nat) : Mach :=
  let m1 := m.setFrame job num (fun x => { x with pulse := 4 })
  { m1 with comp := { m1.comp with rejectList := insertWaiting m.comp.rejectList (line, job, num) } }

/-- The module entry with the highest line, where that lies above a line. -/
def Mach.lastPulseAbove (m : Mach) (n line : Nat) : Option PsoEntry :=
  match (m.pulseEntries n).getLast? with
  | some e => if line < e.line then some e else none
  | none => none

/-- A pulse that finds no free module entry waits, and pulses take effect in web-line order (R141): one before the last
module entry takes that entry's place, whose pulse waits instead. -/
def Mach.waitPulse (m : Mach) (n line job num : Nat) : Mach :=
  match m.lastPulseAbove n line with
  | some e =>
    match e.frame with
    | some (j, f) => ((m.onPso n (fun p => { p with queue := p.queue.filter (fun x => x != e) })).listPulse e.line j f).enterPulse
        n line job num
    | none => m.listPulse line job num
  | none => m.listPulse line job num

/-- A frame's pulse is queued, waits in the reject list, or is found missed (R140 to R142). -/
def Mach.queuePulse (m : Mach) (job num : Nat) : Mach :=
  match m.frame job num with
  | none => m
  | some f =>
    let n := m.nat 0x5038 1 0
    let line := f.first + m.nat 0x5038 2 0
    let missed := (m.setFrame job num (fun x => { x with pulse := 2 })).recordAt 0x0203 num n f.first
    if 16 ≤ n || m.psoMode n = 0 then m.setFrame job num (fun x => { x with pulse := 0 })
    else if line < (m.pso n).next then missed
    else if m.comp.rejectList.isEmpty && decide ((m.pulseEntries n).length < 16) then m.enterPulse n line job num
    else if m.comp.rejectList.length < 2560 then m.waitPulse n line job num
    else missed

/-- The lowest cause bit of a mask. -/
def lowestBit (v : Nat) : Nat := (setBits v 12).headD 0

/-- The first mark of a frame (R138, R140, R144): while a verdict record of it is on its way the pulse waits (R444). -/
def Mach.firstMark (m : Mach) (f : PrintFrame) (causes bars : Nat) : Mach :=
  let m1 := (m.setFrame f.jobLine f.number (fun x => { x with causes := causes, bars := bars })).recordAt
    0x0202 f.number (lowestBit causes) f.first
  let m2 := { m1 with comp := { m1.comp with framesReject := m1.comp.framesReject + 1 } }
  if m.inStepPeer then m2.setFrame f.jobLine f.number (fun x => { x with pulse := 5 })
  else (m2.queuePulse f.jobLine f.number).settle

/-- Causes are added to a frame (R138); an entry of the log that no one has consumed takes them too. -/
def Mach.addMark (m : Mach) (f : PrintFrame) (causes bars : Nat) : Mach :=
  let m1 := m.setFrame f.jobLine f.number (fun x => { x with causes := orMask x.causes causes, bars := orMask x.bars bars })
  { m1 with comp := { m1.comp with rejectLog := m1.comp.rejectLog.map (fun e =>
      if f.logged && e.jobId = f.jobId && e.number = f.number && e.first = f.first then
        { e with causes := orMask e.causes causes, bars := orMask e.bars bars } else e) } }

/-- A mark without its verdict record. -/
def Mach.applyMark (m : Mach) (job num causes bars : Nat) : Mach :=
  match m.frame job num with
  | none => m
  | some f => if causes = 0 then m else if f.causes = 0 then m.firstMark f causes bars else m.addMark f causes bars

/-- A frame is marked REJECT (R138): a module that takes no decisions of its own waits for the record (R443). -/
def Mach.markFrame (m : Mach) (job num causes bars : Nat) : Mach :=
  if m.decides && (m.frame job num).isSome then
    (m.sendVerdict (.frameMark job num causes bars)).applyMark job num causes bars
  else m

/-- The frame that a line lies in is marked; lines outside frames mark none (R138). -/
def Mach.markLine (m : Mach) (line cause bars : Nat) : Mach :=
  match firstWhere (fun f => decide (f.first ≤ line) && decide (line ≤ f.last)) m.comp.frames with
  | none => m
  | some f => m.markFrame f.jobLine f.number (2 ^ cause) bars

/-- Frames whose last line B7 has fired close (R138, R144). -/
def Mach.closeFrames (m : Mach) : Mach :=
  let due := fun (f : PrintFrame) => !f.closed && decide (f.last < m.fireNext 7)
  Mach.settle { m with comp := { m.comp with
    framesClosed := m.comp.framesClosed + (m.comp.frames.filter due).length
    frames := m.comp.frames.map (fun f => if due f then { f with closed := true } else f) } }

/-- Every pulse of a frame leaves the queues. -/
def Mach.dropPulse (m : Mach) (job num : Nat) : Mach :=
  { m with
    psos := m.psos.map (fun p => (p.1, { p.2 with queue := p.2.queue.filter (fun e => e.frame != some (job, num)) }))
    comp := { m.comp with rejectList := m.comp.rejectList.filter (fun e => e.2 != (job, num)) } }

/-- A seam with scope JOB removes the frames from W* on, with their verdicts, marks and pulses (R135). -/
def Mach.removeFrames (m : Mach) (w : Nat) : Mach :=
  let gone := m.comp.frames.filter (fun f => decide (w ≤ f.first))
  let m1 := gone.foldl (fun acc f => acc.dropPulse f.jobLine f.number) m
  { m1 with comp := { m1.comp with frames := m1.comp.frames.filter (fun f => decide (f.first < w)) } }

/-! ### Readiness (R132 to R137) -/

/-- Content that has counted as READY since before now (R132, R133). -/
def Mach.contentReady (m : Mach) (h : Nat) : Bool :=
  match m.content h with
  | some c => c.state = 5 && c.ready && decide (c.doneAt < m.now)
  | none => false

/-- The post of a layer and frame. -/
def Mach.postOf (m : Mach) (layer jobId frame : Nat) : Option Post :=
  firstWhere (fun p => p.layer == layer && p.jobId == jobId && p.frame == frame) m.comp.posts

/-- The content that the frame before used for a layer. -/
def Mach.usedBefore (m : Mach) (job num layer : Nat) : Option Nat :=
  if num = 0 then none
  else (m.frame job (num - 1)).bind (fun f =>
    (firstWhere (fun v => v.layer == layer && decide (v.verdict ≤ 2)) f.verdicts).map (fun v => v.content))

/-- The verdict of a layer for the frame that begins at a line (R134); a layer that is OFF has none. -/
def Mach.verdictOf (m : Mach) (l first num : Nat) : Option Verdict :=
  let kind := m.layerNat 1 l first
  let vary := kind = 2 || kind = 4
  let post := m.postOf l (m.jobNat 1 first) num
  let content := if vary then (match post with | some p => p.content | none => 0) else m.layerNat 12 l first
  let posted := match post with | some p => decide (p.postedAt < m.now) | none => false
  if kind = 0 then none
  else if (!vary || posted) && m.contentReady content then some { layer := l, verdict := 1, content := content }
  else if l = 7 || !vary then some { layer := l, verdict := 4, content := 0 }
  else if m.layerNat 9 l first = 0 then
    match m.usedBefore (m.jobLine first) num l with
    | some c => some { layer := l, verdict := 2, content := c }
    | none => some { layer := l, verdict := 4, content := 0 }
  else if m.layerNat 9 l first = 1 then some { layer := l, verdict := 3, content := 0 }
  else some { layer := l, verdict := 4, content := 0 }

/-- The cause bits of a frame's verdicts (R134, R138): READINESS for any layer verdict REJECT, and L7_MISSING where it is
L7's. -/
def verdictCauses (l : List Verdict) : Nat :=
  maskOf ((if l.any (fun v => v.verdict = 4) then [0] else []) ++ (if l.any (fun v => v.verdict = 4 && v.layer = 7) then [1] else []))

/-- The frame's entry with its verdicts, and their events (R134, R152, R501). -/
def Mach.addFrame (m : Mach) (f : PrintFrame) : Mach :=
  let m1 := { m with comp := { m.comp with
    frames := m.comp.frames ++ [f]
    posts := m.comp.posts.filter (fun p => !(p.jobId = f.jobId && decide (p.frame ≤ f.number))) } }
  f.verdicts.foldl (fun acc v =>
    let acc1 := if v.verdict = 1 then acc else acc.recordAt 0x0201 (v.layer + 256 * v.verdict) f.number f.first
    if v.layer = 7 && v.verdict = 4 && acc.layerNat 13 7 f.first = 0 then acc1.recordAt 0x0B23 f.jobId f.number f.first
    else acc1) m1

/-- Yarrow has a frame's mark to render (R500). -/
def Mach.markDue (m : Mach) (jobId frame : Nat) : Mach :=
  { m with yarrow := { m.yarrow with markFrame := some (jobId, frame, m.now) } }

/-- The verdicts are taken at the readiness deadline of the frame that begins at a line, and sent to the standby. -/
def Mach.takeVerdicts (m : Mach) (first num : Nat) : Mach :=
  let verdicts := (List.range 8).filterMap (fun l => m.verdictOf l first num)
  let f : PrintFrame :=
    { jobLine := m.jobLine first, number := num, jobId := m.jobNat 1 first, first := first
      last := first + max 1 (m.jobNat 2 first) - 1, verdicts := verdicts }
  let m0 := if m.layerNat 1 7 first != 0 && m.layerNat 13 7 first = 0 then m.markDue f.jobId (num + 1) else m
  let m1 := (m0.addFrame f).sendVerdict (.readiness f.jobLine f.jobId num f.first f.last verdicts)
  m1.applyMark f.jobLine num (verdictCauses verdicts) 0xFF

/-- The old job's frame that a job seam shortens is cut (R105). -/
def Mach.cutFrame (m : Mach) (w : Nat) : Mach :=
  match firstWhere (fun f => decide (f.first < w) && decide (w ≤ f.last)) m.comp.frames,
        firstWhere (fun v => v.applied == w && bit v.scope 0) m.seams.vals.reverse with
  | some f, some v =>
    let m1 := m.setFrame f.jobLine f.number (fun x => { x with last := w - 1 })
    if m.decides then
      (m1.recordAt 0x0225 (v.id + 65536 * v.scope) f.number w).markFrame f.jobLine f.number 8 0xFF
    else m1
  | _, _ => m

/-- Posts of jobs that are neither in effect nor ahead are dropped when a job seam's line enters B0's horizon. -/
def Mach.dropStalePosts (m : Mach) (w : Nat) : Mach :=
  let ahead := (m.seams.vals.filter (fun v => bit v.scope 0 && decide (w ≤ v.applied))).map
    (fun v => (fget v.nums (okey 0x5001 1 0) 0).toNat)
  { m with comp := { m.comp with posts := m.comp.posts.filter (fun p =>
      p.jobId = m.jobNat 1 w || p.jobId = m.nat 0x5001 1 0 || ahead.contains p.jobId) } }

/-- A web line enters B0's run-ahead horizon (R104, R105, R133). -/
def Mach.enterLine (m : Mach) (w : Nat) : Mach :=
  let m1 := if m.seams.vals.any (fun v => v.applied = w && bit v.scope 0) then (m.cutFrame w).dropStalePosts w else m
  let m2 :=
    match m.frameNo w with
    | some n =>
      if m.frameFirst w = w && m.decides && (m1.frame (m.jobLine w) n).isNone then m1.takeVerdicts w n else m1
    | none => m1
  { m2 with seams := { m2.seams with entered := w + 1 } }

/-- The next lines enter B0's horizon, at most `fuel` of them and none from `upTo` on. -/
def Mach.enterUpTo (m : Mach) (upTo : Nat) : Nat → Mach
  | 0 => m
  | fuel + 1 => if m.seams.entered < upTo then (m.enterLine m.seams.entered).enterUpTo upTo fuel else m

/-- Every line of B0's horizon that has not entered it enters it now; without an origin none does. -/
def Mach.enterLines (m : Mach) : Mach :=
  if m.enc.origin.isSome then m.enterUpTo (m.horizonEnd 0) (m.horizonEnd 0 - m.seams.entered) else m

/-- Lines that have entered B0's horizon enter it once more from w on (R104, R105): those that entered before the horizon
shrank stay in it. -/
def Mach.enterAgain (m : Mach) (w : Nat) : Mach :=
  let upTo := max m.seams.entered (m.horizonEnd 0)
  Mach.enterUpTo { m with seams := { m.seams with entered := w } } upTo (upTo - w)

/-! ### The staging check (R149 to R151) -/

/-- The demand of a bar in units of 1/16,000 byte per second, for the numbers that a getter gives. -/
def demandOf (get : Nat → Nat → Nat → Nat) (k : Nat) : Nat :=
  sumOf ((List.range 8).map (fun l =>
    let kind := get 0x5010 1 l
    if kind = 0 || !bit (get 0x5010 4 l) k then 0
    else if kind = 1 || kind = 2 then
      get 0x5010 11 l * (if get 0x5010 2 l = 0 then 8 else if get 0x5010 2 l = 1 then 4 else 2)
        * divUp (get 0x5001 4 0) 2 * get 0x5001 6 0
    else get 0x5010 11 l * 4 * get 0x5001 4 0 * get 0x5001 6 0))

/-- A demand in MB/s, rounded up. -/
def inMBs (d : Nat) : Nat := divUp d 16000000000

/-- The budget: 45% of peak in MB/s. -/
def stagingBudget : Nat := 61437

/-- The figures of JOB_DEMAND: total, worst bar, its demand, verdict and CAP_RATE (R150, R151). DESIGN CHOICE (log entry 82):
of bars with one highest demand the lowest is the worst. -/
def demandFigures (get : Nat → Nat → Nat → Nat) : List Nat :=
  let each := allBars.map (demandOf get)
  let total := inMBs (sumOf each)
  let worst := maxOf 0 each
  let rate := get 0x5001 6 0
  let within := decide (total ≤ stagingBudget)
  [total, (firstWhere (fun k => nth each k 0 == worst) allBars).getD 0, inMBs worst,
   if within then 0 else if get 0x5001 7 0 = 1 then 1 else 2,
   if within then rate else rate * stagingBudget / total]

/-- The JOB shadow as a getter. -/
def Mach.shadowGet (m : Mach) (idx sub inst : Nat) : Nat := m.nat idx sub inst

/-- A write passes the staging check, or is refused with its figures (R149, R150). -/
def Mach.staged (m old : Mach) (w : Who) (idx sub inst : Nat) (data : Bytes) : Mach :=
  let fig := demandFigures m.shadowGet
  if nth fig 3 0 = 2 then Mach.reply { old with comp := { old.comp with demand := fig } } w idx sub .outOfRange
  else Mach.accept { m with comp := { m.comp with demand := fig } } w idx sub inst data

/-! ### Settings (R113, R117, R118, R127) -/

/-- Whether a contone BLEND or a drop BLEND fits the kind. -/
def blendFits (kind blend : Nat) : Bool :=
  if kind = 1 || kind = 2 then decide (blend ≤ 3) else decide (4 ≤ blend) && decide (blend ≤ 6)

/-- The conditions of R118 on a layer of the JOB shadow. -/
def Mach.layerFits (m : Mach) (l : Nat) : Bool :=
  let g := fun sub => m.nat 0x5010 sub l
  let contone := g 1 = 1 || g 1 = 2
  if g 1 = 0 then true
  else
    decide (g 5 + g 7 ≤ m.nat 0x5001 4 0) && decide (g 6 + g 8 ≤ m.nat 0x5001 2 0)
      && (!contone || (g 5 % 2 = 0 && g 6 % 2 = 0 && g 7 % 2 = 0 && g 8 % 2 = 0))
      && (contone || g 2 = 0) && blendFits (g 1) (g 3)
      && !(g 10 = 1 && g 9 = 0)
      && (l != 7 || (!contone && g 9 = 2 && g 10 = 1))
      && (l != 7 || g 1 != 3 || (match m.content (g 12) with
        | some c => (setBits (g 4) 8).all (fun k => bit c.mask k)
        | none => false))

/-- A write of these values disables L7 (R127): KIND OFF, or a bit of its BAR_MASK cleared. -/
def Mach.disablesL7 (m m' : Mach) : Bool :=
  m.nat 0x5010 1 7 != 0
    && (m'.nat 0x5010 1 7 = 0 || (setBits (m.nat 0x5010 4 7) 8).any (fun k => !bit (m'.nat 0x5010 4 7) k))

/-- The values of a write stored, where its length fits. -/
def Mach.withBytes (m : Mach) (idx sub inst : Nat) (data : Bytes) : Mach :=
  match (findObj idx).bind (fun o => o.values sub data) with
  | some vals => m.storeVals idx inst vals
  | none => m

/-- A write of LAYER_CONFIG. -/
def Mach.writeLayerConfig (m : Mach) (w : Who) (sub : Nat) (data : Bytes) : Mach :=
  let l := m.instOf w .layer
  let off := decide (l = 7) && m.disablesL7 (m.withBytes 0x5010 sub l data)
  let levels := match w with | .peer _ => 15 | _ => if off then 4 else 10
  m.guardedBytes w 0x5010 sub levels data (fun vals m =>
    let m' := m.storeVals 0x5010 l vals
    if m'.layerFits l then m'.staged m w 0x5010 sub l data else m.reply w 0x5010 sub .outOfRange)

/-- A write of JOB_CONFIG: every accepted one of JOB_ID is reported to Yarrow (R500). -/
def Mach.writeJobConfig (m : Mach) (w : Who) (sub : Nat) (data : Bytes) : Mach :=
  m.guardedBytes w 0x5001 sub 10 data (fun vals m =>
    let m' := m.storeVals 0x5001 0 vals
    let m1 := m'.staged m w 0x5001 sub 0 data
    if sub ≤ 1 && nth (demandFigures m'.shadowGet) 3 0 != 2 then m1.markDue (m1.nat 0x5001 1 0) 0 else m1)

/-! ### Posts (R130, R131) -/

/-- The layer settings that a post's JOB_ID names: those of the job in effect, or of the JOB shadow. -/
def Mach.postJob (m : Mach) (job : Nat) : Option (Nat → Nat → Nat → Nat) :=
  if job = 0 then none
  else if m.jobInEffect 0x5001 1 0 = job then some m.jobInEffect
  else if m.nat 0x5001 1 0 = job then some m.shadowGet
  else none

/-- The first line of the run's job with an ID: its latest start of which a line has entered B0's horizon. -/
def Mach.jobStartOf (m : Mach) (job : Nat) : Option Nat :=
  let starts := m.enc.firstLine :: (m.seams.vals.filter (fun v => bit v.scope 0)).map (fun v => v.applied)
  ((starts.filter (fun j => decide (j < m.seams.entered) && m.jobNat 1 j = job && m.jobLine j = j)).getLast?)

/-- The readiness deadline of a job's frame has passed. -/
def Mach.deadlinePassed (m : Mach) (job frame : Nat) : Bool :=
  m.enc.origin.isSome && (match m.jobStartOf job with
    | some j => decide (j + frame * max 1 (m.jobNat 2 j) < m.seams.entered)
    | none => false)

/-- The content's L7 signature holds under a credential key of INTEGRATOR (R128, R543). -/
def Mach.l7SignatureOk (m : Mach) (h : Nat) : Bool :=
  match m.content h with
  | some c => c.signed && [5, 6, 7, 8].any (fun i => ecdsaOk (m.blob 0x1210 i 0) c.digest c.signature)
  | none => false

/-- The content lacks a plane for a bar of L7's BAR_MASK. -/
def Mach.lacksL7Plane (m : Mach) (mask h : Nat) : Bool :=
  match m.content h with
  | some c => (setBits mask 8).any (fun k => !bit c.mask k)
  | none => false

/-- A post enters its queue; a second one for the same layer and frame takes the place of the first (R131). -/
def Mach.enterPost (m : Mach) (layer job frame content : Nat) : Mach :=
  let others := m.comp.posts.filter (fun p => !(p.layer = layer && p.jobId = job && p.frame = frame))
  { m with comp := { m.comp with posts := others ++
      [{ layer := layer, jobId := job, frame := frame, content := content, postedAt := m.now }] } }

/-- LAYER_POST_FREE of a layer (R131). -/
def Mach.postsFree (m : Mach) (layer : Nat) : Nat := 64 - (m.comp.posts.filter (fun p => p.layer = layer)).length

/-- The bytes of a LAYER_POST record. -/
def postBytes (layer job frame content : Nat) : Bytes :=
  leBytes 1 layer ++ leBytes 4 job ++ leBytes 4 frame ++ leBytes 4 content

/-- The order of refusals of a post (R131). DESIGN CHOICE (log entry 82): a post in place of an earlier one for its layer and
frame takes no entry of its own, so a full queue takes it. -/
def Mach.postStatus (m : Mach) (layer job frame content : Nat) : Status :=
  match m.postJob job with
  | none => .outOfRange
  | some get =>
    if layer = 7 && get 0x5010 13 7 = 0 then .accessDenied
    else if !(get 0x5010 1 layer = 2 || get 0x5010 1 layer = 4) || (m.content content).isNone
        || (layer = 7 && m.lacksL7Plane (get 0x5010 4 7) content) then .outOfRange
    else if m.deadlinePassed job frame then .commitRejected
    else if m.postsFree layer = 0 && (m.postOf layer job frame).isNone then .busy
    else if layer = 7 && !m.l7SignatureOk content then .authFailed
    else .ok

/-- A write of LAYER_POST. -/
def Mach.writeLayerPost (m : Mach) (w : Who) (layer job frame content : Nat) : Mach :=
  m.guarded w 0x5020 0 (fun m =>
    if !okValueAt 0x5020 1 layer then m.reply w 0x5020 0 .outOfRange
    else match m.postStatus layer job frame content with
      | .ok => (m.enterPost layer job frame content).accept w 0x5020 0 0 (postBytes layer job frame content)
      | .authFailed => (m.record 0x0207 content frame).reply w 0x5020 0 .authFailed
      | st => m.reply w 0x5020 0 st)

/-- JOB_NOW (R116): job, frame and the frame's first line. -/
def Mach.jobNow (m : Mach) : Nat × Nat × Nat :=
  match m.lastComposed 0 with
  | some w =>
    if m.printing then
      match m.frameNo w with
      | some n => (m.jobNat 1 w, n, m.frameFirst w)
      | none => (m.jobNat 1 w, 0xFFFFFFFF, noLine)
    else ((m.effNum 0x5001 1 0).toNat, 0xFFFFFFFF, noLine)
  | none => ((m.effNum 0x5001 1 0).toNat, 0xFFFFFFFF, noLine)

end Sys2Proof.Machine
end

