-- ==== Sys2Proof/Machine/Compose.lean ====
section
/-! DEFINITION. Per-bar composition: stacking, the gutter, the inspection ring, table banks, and what composing a web
line does (R89, R95, R120 to R129, R145, R146, R169 to R173, R303 to R305). -/

namespace Sys2Proof.Machine

/-! ### A frame's layers at a bar (R119 to R123) -/

/-- A usable layer of a frame at a bar: number, kind, BLEND, rectangle, content handle, content, the bar, and the frame's
length. -/
structure LayerView where
  n : Nat
  kind : Nat
  blend : Nat
  x : Nat
  y : Nat
  w : Nat
  h : Nat
  handle : Nat
  c : Content
  bar : Nat
  lines : Nat
  deriving DecidableEq, Repr

/-- The layer's rectangle and its content hold the position (log entry 22). -/
def LayerView.holds (v : LayerView) (n y : Nat) : Bool :=
  decide (v.x ≤ n) && decide (n < v.x + v.w) && decide (v.y ≤ y) && decide (y < v.y + v.h)
    && decide (v.c.x ≤ n) && decide (n < v.c.x + v.c.w) && decide (v.c.y ≤ y) && decide (y < v.c.y + v.c.h)

/-- The tile lies wholly inside the layer rectangle, and its content's (R122, log entry 22). -/
def LayerView.inside (v : LayerView) (tx ty : Nat) : Bool :=
  tileWithin v.lines tx ty v.c.x v.c.y v.c.w v.c.h && tileWithin v.lines tx ty v.x v.y v.w v.h

/-- A tile of the layer: 0 EMPTY, 1 MIXED, 2 OPAQUE (R121, R122). -/
def LayerView.entry (v : LayerView) (tx ty : Nat) : Nat :=
  match v.c.tile v.bar tx ty with
  | 0 => 0
  | 2 => if v.inside tx ty then 2 else 1
  | _ => 1

/-- The layer is contone. -/
def LayerView.contone (v : LayerView) : Bool := v.kind = 1 || v.kind = 2

/-- The layers that a frame's verdicts let a bar use (R119, R134): a content of the other kind, and a bar without a
plane, leave the layer transparent. -/
def Mach.views (m : Mach) (f : PrintFrame) (k : Nat) : List LayerView :=
  f.verdicts.filterMap (fun v =>
    let g := fun sub => m.layerNat sub v.layer f.first
    match m.content v.content with
    | none => none
    | some c =>
      match c.planeOf k with
      | none => none
      | some _ =>
        if decide (v.verdict ≤ 2) && bit (g 4) k && decide (c.kind = if g 1 ≤ 2 then 0 else 1) && c.state = 5 then
          some { n := v.layer, kind := g 1, blend := g 3, x := g 5, y := g 6, w := g 7, h := g 8
                 handle := v.content, c := c, bar := k, lines := max 1 (m.jobNat 2 f.first) }
        else none)

/-- What a bar stacks for a frame: its number, the layers, the gutter's patch lines and this bar's ink, the band's
lines, whether this bar marks the band and with how many lines a phase, and L7's rectangle, and whether L7 is blank. -/
structure Stack where
  bar : Nat
  views : List LayerView
  patchFirst : Nat
  patchLines : Nat
  ink : Nat
  bandFirst : Nat
  bandLines : Nat
  marks : Bool
  l7 : Option (Nat × Nat × Nat × Nat)
  l7Blank : Bool
  deriving DecidableEq, Repr

/-- The list of PATCH_LEVELS: it ends at the first 0 (R302). -/
def patchLevels (v : Nat) : List Nat := ((List.range 8).map (fun i => bits v (8 * i) 8)).takeWhile (fun b => b != 0)

/-- The stack of a frame at a bar, with the gutter settings of the frame's first line (R302 to R304). -/
def Mach.stack (m : Mach) (f : PrintFrame) (k : Nat) : Stack :=
  let g := fun sub => m.rsNat 0x7021 sub 0 f.first
  let levels := patchLevels (g 3)
  let every := g 6
  let l := fun sub => m.layerNat sub 7 f.first
  { bar := k, views := m.views f k, patchFirst := g 1, patchLines := g 2
    ink := nth levels (f.number % max 1 levels.length) 0
    bandFirst := g 4, bandLines := g 5
    marks := every != 0 && f.number % max 1 every = 0 && f.number / max 1 every % 8 = k
    l7 := if l 1 = 0 then none else some (l 5, l 6, l 7, l 8)
    l7Blank := f.verdicts.any (fun v => v.layer = 7 && v.verdict = 4) }

/-- A frame line is a patch line. -/
def Stack.isPatch (s : Stack) (y : Nat) : Bool := decide (s.patchFirst ≤ y) && decide (y < s.patchFirst + s.patchLines)

/-- A frame line is a band line; they are kept free in every frame, of band or not (R304). -/
def Stack.isBand (s : Stack) (y : Nat) : Bool := decide (s.bandFirst ≤ y) && decide (y < s.bandFirst + 16 * s.bandLines)

/-- The position lies inside L7's rectangle. -/
def Stack.inL7 (s : Stack) (n y : Nat) : Bool :=
  match s.l7 with
  | some (x, y0, w, h) => decide (x ≤ n) && decide (n < x + w) && decide (y0 ≤ y) && decide (y < y0 + h)
  | none => false

/-- The layers that take part in a frame line: patch lines fetch L7 only (R303). -/
def Stack.at_ (s : Stack) (y : Nat) : List LayerView := if s.isPatch y then s.views.filter (fun v => v.n = 7) else s.views

/-- The highest layer with an OPAQUE tile (R123). -/
def topOpaque (l : List LayerView) (tx ty : Nat) : Nat :=
  maxOf 0 ((l.filter (fun v => v.entry tx ty = 2)).map (fun v => v.n))

/-- The layers fetched in a tile (R123): none below an OPAQUE one, no EMPTY tile, L7 always. -/
def fetched (l : List LayerView) (tx ty : Nat) : List LayerView :=
  l.filter (fun v => v.n = 7 || (decide (topOpaque l tx ty ≤ v.n) && v.entry tx ty != 0))

/-- The plane's number in the content. -/
def LayerView.index (v : LayerView) : Nat := (v.c.planeOf v.bar).getD 0

/-- The stripe that holds a contone pixel passes its check (R137, R358). -/
def LayerView.stripeOk (v : LayerView) (i j : Nat) : Bool :=
  let r := j / 4 - v.c.by0
  let s := i / 256 - v.c.tx0
  v.c.checkOk v.index r s && v.c.orderOk v.index r s

/-- A contone layer's pixel, where it contributes. -/
def LayerView.pixel (v : LayerView) (i j : Nat) : Option Nat :=
  if v.contone && v.holds (2 * i) (2 * j) && v.entry (i / 256) (j / 64) != 0 && v.stripeOk i j then
    some (v.c.pixel v.index i j)
  else none

/-- One contone layer over the composite below (R121, R124). -/
def LayerView.over (v : LayerView) (i j c : Nat) : Nat :=
  match v.pixel i j with
  | none => c
  | some p =>
    if v.entry (i / 256) (j / 64) = 2 || v.blend = 0 then p
    else if v.blend = 1 then (if p = 0 then c else p)
    else if v.blend = 2 then max c p
    else min 255 (c + p)

/-- c(i, j): the contone composite; a row of patch lines holds the patch's ink (R124, R303). A row of one patch line and
one other line counts as what its line next to line y is, for which it is wanted (log entry 22). -/
def Stack.composite (s : Stack) (y i j : Nat) : Nat :=
  if s.isPatch (max (2 * j) (min (2 * j + 1) y)) then (if 2 * i % 1536 / 192 = s.bar then s.ink else 0)
  else (fetched s.views (i / 256) (j / 64)).foldl (fun c v => v.over i j c) 0

/-- The highest contone layer that covers a position, as its number plus 1; 0 for none (R125, R303). -/
def Stack.cover (s : Stack) (n y : Nat) : Nat :=
  if s.isPatch y then 7
  else maxOf 0 ((fetched s.views (n / 512) (y / 128)).map (fun v =>
    match v.pixel (n / 2) (y / 2) with
    | some p => if v.entry (n / 512) (y / 128) = 2 || v.blend = 0 || (v.blend = 1 && p != 0) then v.n + 1 else 0
    | none => 0))

/-- One drop layer over the level below; the second value is the level that a drop layer set (R126). -/
def LayerView.merge (v : LayerView) (n y : Nat) (d : Nat × Option Nat) : Nat × Option Nat :=
  let e := v.entry (n / 512) (y / 128)
  if v.contone || !v.holds n y || e = 0 then d
  else
    let q := v.c.drop v.index n y
    if e = 2 then (q, some q)
    else if v.blend = 4 then (if 0 < q then (q, some q) else d)
    else if v.blend = 5 then (if d.1 < q then (q, some q) else d)
    else if v.blend = 6 then (if 0 < q then (0, some 0) else d)
    else d

/-- Stage 7 (R125, R126): the drop layers that take part, and L7's region blank where L7 is not ready (R129). -/
def Stack.merged (s : Stack) (n y d : Nat) : Nat × Option Nat :=
  let r := ((fetched (s.at_ y) (n / 512) (y / 128)).filter (fun v => decide (s.cover n y ≤ v.n))).foldl
    (fun acc v => v.merge n y acc) (d, none)
  if s.l7Blank && s.inL7 n y then (0, some 0) else r

/-- The stored level of a position: stages 1 to 8, then the band's marks (R153, R304). -/
def Stack.level (s : Stack) (t : Tables) (frameLines n y : Nat) : Nat :=
  let v := along t (s.composite y) frameLines n y
  let d := forced t n (s.merged n y (screened t v n y)).1
  if s.isBand y && !s.inL7 n y then
    (if s.marks && n % 16 = (y - s.bandFirst) / max 1 s.bandLines && decide (n < t.width) && t.covers n && t.state n != 3
     then 3 else 0)
  else d

/-- The ink value of a position before the tone curve (R145, R305): a drop layer sets the result where its merge into the
screened level does. -/
def Stack.inkAt (s : Stack) (t : Tables) (frameLines n y : Nat) : Nat :=
  let v := along t (s.composite y) frameLines n y
  if s.isBand y && !s.inL7 n y then 85 * s.level t frameLines n y
  else match (s.merged n y (screened t v n y)).2 with
    | some q => 85 * q
    | none => s.composite y (n / 2) (y / 2)

/-- The static-mask bit of a tile column for a frame line (R146, R305). A layer contributes where it is fetched and not
EMPTY; one whose verdict is BLANK or REJECT is asked for wherever its rectangle is, below no OPAQUE tile. -/
def Mach.staticTile (m : Mach) (f : PrintFrame) (s : Stack) (y tx : Nat) : Bool :=
  let ty := y / 128
  let gutter := (List.range 128).any (fun d => s.isPatch (128 * ty + d) || s.isBand (128 * ty + d))
  !gutter && f.verdicts.all (fun v =>
    let g := fun sub => m.layerNat sub v.layer f.first
    let touches := bit (g 4) s.bar && decide (g 5 < 512 * (tx + 1)) && decide (512 * tx < g 5 + g 7)
      && decide (g 6 < 128 * (ty + 1)) && decide (128 * ty < g 6 + g 8)
    let shown := match firstWhere (fun x => x.n == v.layer) s.views with
      | some x => x.entry tx ty != 0 && decide (topOpaque s.views tx ty ≤ v.layer)
      | none => decide (3 ≤ v.verdict) && decide (topOpaque s.views tx ty ≤ v.layer)
    !(touches && shown) || (v.layer != 7 && (g 1 = 1 || g 1 = 3) && v.verdict = 1))

/-! ### Tables and banks (R169 to R172) -/

/-- The tables of a bar for a web line. -/
def Mach.tables (m : Mach) (k w : Nat) : Tables :=
  { curve := m.rsBlob 0x4020 0 k w, zones := m.rsBlob 0x7010 0 k w, nozzles := m.rsBlob 0x7101 0 k w
    mask := m.rsBlob 0x4021 0 k w, shift := m.rsNat 0x4022 0 k w, width := m.jobNat 4 w, covered := m.coveredBy k }

/-- Counts of NOZZLE_COUNTS (R162): OK, WEAK, OUT, MASKED, isolated OUT. -/
def nozzleCounts (t : Tables) : List Nat :=
  let l := List.range t.width
  ((List.range 4).map (fun s => (l.filter (fun n => t.state n = s)).length)) ++ [(l.filter t.isolated).length]

/-- The banks of a bar and group. -/
def Mach.banks (m : Mach) (k g : Nat) : Banks := fget m.seams.banks (8 * k + g) {}

/-- Change the banks of a bar and group. -/
def Mach.onBanks (m : Mach) (k g : Nat) (f : Banks → Banks) : Mach :=
  { m with seams := { m.seams with banks := fupd m.seams.banks (8 * k + g) {} f } }

/-- The groups that bars keep in banks: BAR, LOOP and NOZZLE. -/
def bankGroups : List Nat := [1, 3, 4]

/-- What tells one committed set from another: its applied line and its seam's ID. -/
def setKey (v : SeamVals) : Nat := 65536 * v.applied + v.id

/-- The set of the bar's next seam of a group: the least applied line that carries the group and that the bar has not
composed; of two seams with that line the later commit's set counts (R80). -/
def Mach.nextSeamOf (m : Mach) (k g : Nat) : Option Nat :=
  let l := (m.seams.vals.filter (fun v => bit v.scope g && decide (m.compNext k ≤ v.applied))).map (fun v => v.applied)
  match l with
  | [] => none
  | a :: t => (valsAt m.seams.vals g (t.foldl min a)).map setKey

/-- NEXT takes the bar's next seam of the group when that seam changes: its set is loaded from job memory (R170). -/
def Mach.loadNext (m : Mach) (k g : Nat) : Mach :=
  let want := m.nextSeamOf k g
  if (m.banks k g).nextSeam = want then m
  else m.onBanks k g (fun b => { b with
    nextSeam := want, loads := b.loads.filter (· != 1) ++ (if want.isSome then [1] else []) })

/-- A group whose NEXT bank is still loading when the composer reaches its seam's line (R172). -/
def Mach.bankBusy (m : Mach) (k w : Nat) : Option Nat :=
  firstWhere (fun g => (m.banks k g).nextSeam.map (· / 65536) == some w && (m.banks k g).loads.contains 1) bankGroups

/-! ### Composing a web line (R89, R95) -/

/-- tc(k) in ns (R95). -/
def Mach.composeTime (m : Mach) (k : Nat) : Nat :=
  let l := fget m.seams.times k []
  if l.length < 16 then 20000 else max 2000 (maxOf 0 l)

/-- A bar may compose a line: the run has an origin, the line lies within the horizon or has been
composed before (R89, R99), the slot is free (R178),
and a standby's B0 holds a frame's lines until its record is there (R136). A joining module starts at W* - D_k (R459). -/
def Mach.mayCompose (m : Mach) (k w : Nat) : Bool :=
  m.enc.origin.isSome && m.printing && (decide (w < m.horizonEnd k) || decide (w < m.compNext k))
    && decide (w + m.stagger k < m.fireNext k + 169)
    && (m.decides || (m.frameNo w).isNone
        || m.comp.frames.any (fun f => decide (f.first ≤ w) && decide (w ≤ f.last)))
    && (m.pair.role != 4 || (match m.pair.joinLine with | some j => decide (j ≤ w + m.stagger k) | none => false))

/-- A frame line reads stripes of a contone layer. -/
def Stack.reads (s : Stack) (v : LayerView) (y : Nat) : Bool :=
  v.contone && (s.at_ y).any (fun x => x.n = v.n) && decide (v.y ≤ y) && decide (y < v.y + v.h) && decide (v.c.y ≤ y)
    && decide (y < v.c.y + v.c.h)

/-- Stripes that a frame line is the first of its 8 lines to read, and that fail their check at a bar: content handle and
stripe index (R137, R358). A composer that did not compose the line before reads its stripes again. -/
def badStripes (s : Stack) (again : Bool) (y : Nat) : List (Nat × Nat) :=
  (s.at_ y).flatMap (fun v =>
    if !s.reads v y || (!again && (List.range (y % 8)).any (fun i => s.reads v (y - 1 - i))) then []
    else (List.range v.c.ns).filterMap (fun c =>
      let i := 256 * (v.c.tx0 + c)
      if (fetched (s.at_ y) (v.c.tx0 + c) (y / 128)).any (fun x => x.n = v.n) && !v.stripeOk i (y / 2) then
        some (v.handle, (y / 8 - v.c.by0) * v.c.ns + c)
      else none))

/-- Contents whose map holds a reserved entry in the line's tiles (R121). -/
def reservedMaps (s : Stack) (y : Nat) : List Nat :=
  (s.at_ y).filterMap (fun v =>
    if (List.range v.c.ns).any (fun c => v.c.tile v.bar (v.c.tx0 + c) (y / 128) = 3) then some v.handle else none)

/-- The dot store takes a line in its slot (R177). -/
def Mach.storeDots (m : Mach) (k w : Nat) (levels : List Nat) : Mach :=
  { m with comp := { m.comp with dots := fupd m.comp.dots k [] (fun l =>
      l.filter (fun d => d.line != w && decide (w < d.line + 170)) ++ [{ line := w, levels := levels }]) } }

/-- REF_SCALE as positions. -/
def refScale (v : Nat) : Nat := nth [4, 6, 8, 12] v 12

/-- REF_RING_DEPTH for a width (R147). -/
def Mach.ringDepth (m : Mach) (width : Nat) : Nat :=
  let s := refScale (m.nat 0x5030 0 0)
  m.nat 0x5031 0 0 * 1048576 / (8 * (64 * divUp (divUp (max 1 width) s) 64)) * s

/-- The ring takes a line's ink and mask, over the oldest reference line (R145 to R147), unless Q18 is quarantined
(R395). A reference line is REF_SCALE web lines from a multiple of it on (log entry 30). -/
def Mach.storeRef (m : Mach) (r : RefLine) : Mach :=
  if bit m.mem.quarantine 18 then m else
  let depth := m.ringDepth (m.jobNat 4 r.line)
  let scale := refScale (m.nat 0x5030 0 0)
  let kept := m.comp.ring.filter (fun x =>
    !(x.bar = r.bar && x.line = r.line) && decide (r.line / scale < x.line / scale + depth / scale))
  { m with comp := { m.comp with ring := kept ++ [r] } }

/-- FRC_STRIPE_BAD (R137, R358): each failed read counts, is recorded, and marks the frame. -/
def Mach.stripeBad (m : Mach) (f : PrintFrame) (k : Nat) (b : Nat × Nat) : Mach :=
  ((m.frcCount 4 1).record 0x0205 b.1 (k + 256 * (b.2 % 2 ^ 24))).markFrame f.jobLine f.number 4 (2 ^ k)

/-- MAP_RESERVED, once for each content (R121). -/
def Mach.mapReserved (m : Mach) (k w h : Nat) : Mach :=
  if m.comp.mapReserved.contains h then m
  else Mach.recordAt { m with comp := { m.comp with mapReserved := m.comp.mapReserved ++ [h] } } 0x0206 h k w

/-- A frame's line is composed and stored, and the ring takes it (R126, R145); the rows of a cut frame end with it (R163). -/
def Mach.composeFrame (m : Mach) (f : PrintFrame) (k w : Nat) : Mach :=
  let s := m.stack f k
  let t := m.tables k w
  let lines := f.last + 1 - f.first
  let y := w - f.first
  let m1 := m.storeDots k w ((List.range t.width).map (fun n => s.level t lines n y))
  let scale := refScale (m.nat 0x5030 0 0)
  let m2 := m1.storeRef
    { line := w, bar := k
      pixels := (List.range (divUp t.width scale)).map (fun p =>
        sumOf ((List.range scale).map (fun d => s.inkAt t lines (scale * p + d) y)))
      staticTiles := (List.range 192).map (fun tx => m.staticTile f s y tx) }
  let m3 := (reservedMaps s y).foldl (fun acc h => acc.mapReserved k w h) m2
  (badStripes s (m.lastComposed k != some (w - 1)) y).foldl (fun acc b => acc.stripeBad f k b) m3

/-- A line of no frame is composed blank (R115), and the ring takes it without ink; no layer contributes to its tiles. -/
def Mach.composeBlank (m : Mach) (k w : Nat) : Mach :=
  (m.storeDots k w []).storeRef
    { line := w, bar := k
      pixels := List.replicate (divUp (m.jobNat 4 w) (refScale (m.nat 0x5030 0 0))) 0
      staticTiles := List.replicate 192 true }

/-- The set of a group that a line is composed with: 0 for the run's first set. -/
def Mach.setOf (m : Mach) (group w : Nat) : Nat :=
  match valsAt m.seams.vals group w with
  | some v => setKey v + 1
  | none => 0

/-- ISOLATED_OUT for each isolated nozzle when the nozzle set or the width differs from the line before (R159). -/
def Mach.isolatedEvents (m : Mach) (k w : Nat) : Mach :=
  let t := m.tables k w
  let key := (m.setOf 4 w, t.width)
  if (ffind m.comp.lastSet k).map (fun x => x.2) = some key then m
  else ((List.range t.width).filter t.isolated).foldl (fun acc n => acc.recordAt 0x0302 k n w) m

/-- A seam's entry notes that a bar has composed its applied line, or the run's first line beyond it (R84, R111); a new
nozzle set is recorded (R180). -/
def Mach.seamComposed (m : Mach) (k w : Nat) : Mach :=
  let hit := fun (x : Seam) => (x.state = 1 || x.state = 2 || x.state = 3)
    && (match x.applied with | some a => decide (a ≤ w) | none => false)
  let fresh := m.seams.table.filter (fun x => hit x && bit x.scope 4 && !bit x.composed k)
  let m1 := { m with seams := { m.seams with table := m.seams.table.map (fun x =>
    if hit x then { x with state := max 2 x.state, composed := setBit x.composed k true } else x) } }
  fresh.foldl (fun acc x => acc.recordAt 0x0303 (x.id + 65536 * k) (nth (nozzleCounts (acc.tables k w)) 2 0) w) m1

/-- TNR_NO_ROOM (R286): a job's triggers need more history than the camera's region; the reduction stays off for that job. -/
def Mach.tnrRoom (m : Mach) (c w : Nat) : Mach :=
  let cfg := m.nat 0x6001 0 c
  let lines := max 1 (m.jobNat 2 w)
  let start := m.nat 0x6010 2 c
  let count := if lines ≤ start then 0 else min 64 ((lines - start - 1) * 256 / max 256 (m.nat 0x6010 3 c) + 1)
  let need := divUp (count * bits cfg 0 14 * bits cfg 14 13 * 2) 1048576
  let off := bit cfg 46 && m.nat 0x6010 1 c = 2 && decide (m.nat 0x6034 0 c < need)
  if off then (m.onCam c (fun x => { x with tnrOff := x.tnrOff.drop (x.tnrOff.length - 63) ++ [w] })).record 0x060B (c + 256 * count) need else m

/-- B0 composes a job's first line, and its cap, part of the line rate cap from now (R233), is recorded (R150). -/
def Mach.startJob (m : Mach) (w : Nat) : Mach :=
  if m.jobLine w = w && m.comp.jobStarted != some w then
    let fig := demandFigures (fun idx sub inst => m.rsNat idx sub inst w)
    let capped := decide (nth fig 3 0 = 1)
    let m1 := { m with comp := { m.comp with jobStarted := some w } }
    let m2 := if capped then m1.recordAt 0x020A (m.jobNat 1 w) (nth fig 4 0) w else m1
    forEach [0, 1, 2, 3] m2 (fun c acc => acc.tnrRoom c w)
  else m

/-- B0 composes the first line after a finite job's last frame (R115). -/
def Mach.endJob (m : Mach) (w : Nat) : Mach :=
  let j := m.jobLine w
  if m.jobNat 3 w != 0 && w = j + m.jobNat 3 w * max 1 (m.jobNat 2 w) && !m.comp.jobEnd.contains j then
    Mach.recordAt { m with comp := { m.comp with jobEnd := m.comp.jobEnd ++ [j] } } 0x0208 (m.jobNat 1 w) (m.jobNat 3 w) w
  else m

/-- The composer's place after a line (R90, R99): a recompute goes on until it has caught up. -/
def Mach.advanceComposer (m : Mach) (k w took : Nat) : Mach :=
  let redo := match ffind m.seams.redo k with
    | some _ => if w + 1 < m.compNext k then fset m.seams.redo k (w + 1) else fdel m.seams.redo k
    | none => m.seams.redo
  { m with
    seams := { m.seams with
      redo := redo
      compStart := fset m.seams.compStart k (m.now - took)
      compNext := fset m.seams.compNext k (max (m.compNext k) (w + 1))
      times := fupd m.seams.times k [] (fun l => (l ++ [took]).drop (l.length + 1 - 1024)) }
    comp := { m.comp with lastSet := fset m.comp.lastSet k (w, m.setOf 4 w, m.jobNat 4 w) } }

/-- A joining module whose B7 has composed the join line becomes STANDBY (R459). -/
def Mach.joinedAt (m : Mach) (k w : Nat) : Mach :=
  if m.pair.role = 4 && k = 7 && m.pair.joinLine = some w then
    Mach.recordAt { m with pair := { m.pair with role := 2, resync := 0 } } 0x0A0E m.pair.joinSeam ((m.now - m.pair.resyncAt) / 1000000) w
  else m

/-- A bar composes a web line (R89): the lines of no frame are blank (R115, R167). -/
def Mach.composeAt (m : Mach) (k w took : Nat) : Mach :=
  let m1 := if k = 0 then (m.startJob w).endJob w else m
  let m2 := m1.isolatedEvents k w
  let m3 := match firstWhere (fun f => decide (f.first ≤ w) && decide (w ≤ f.last)) m2.comp.frames with
    | some f => m2.composeFrame f k w
    | none => m2.composeBlank k w
  let m4 := (m3.seamComposed k w).advanceComposer k w took
  (bankGroups.foldl (fun acc g => acc.loadNext k g) m4).joinedAt k w

/-! ### Nozzle edits and head slots (R161, R173, R174) -/

/-- The state bits of a nozzle replaced in a packed byte. -/
def putState (b n st : Nat) : Nat := b - bits b (2 * (n % 4)) 2 * 2 ^ (2 * (n % 4)) + st * 2 ^ (2 * (n % 4))

/-- A NOZZLE_MAP with one nozzle changed. -/
def editMap (map : Bytes) (n st gain : Nat) (keep : Bool) : Bytes :=
  let m1 := if keep then map else setNth map n (byteOf gain)
  setNth m1 (98304 + n / 4) (byteOf (putState (leAt m1 (98304 + n / 4) 1) n st))

/-- A write of NOZZLE_EDIT changes the NOZZLE shadow of one nozzle. -/
def Mach.writeNozzleEdit (m : Mach) (w : Who) (v : Nat) : Mach :=
  m.guardedNum w 0x7102 0 v (fun m =>
    let k := bits v 17 3
    let map := m.blob 0x7101 0 k
    (m.setBlob 0x7101 0 k (editMap map (bits v 0 17) (bits v 32 2) (bits v 24 8) (bit v 34))).acceptNum w 0x7102 0 0 8 v)

/-- Stagger depth and horizon fit the dot store at every bar (R174, R88). -/
def Mach.staggerFits (m : Mach) (ahead : Nat) : Bool := allBars.all (fun k => decide (m.stagger k + ahead ≤ 160))

end Sys2Proof.Machine
end

