-- ==== Sys2Proof/Machine/Pairing.lean ====
section
/-! DEFINITION. What losing a partner or a path does at once (R437, R440, R444, R456): the parts that every family
needs; chapter 13's commands are in Pair. -/

namespace Sys2Proof.Machine

/-- Add to PAIR_COUNTERS (R461). -/
def Mach.pairCount (m : Mach) (k n : Nat) : Mach := { m with pair := { m.pair with counters := bump m.pair.counters k n } }

/-- Set or clear a bit of PAIR_STATUS FLAGS (R460). -/
def Mach.pairFlag (m : Mach) (i : Nat) (b : Bool) : Mach := { m with pair := { m.pair with flags := setBit m.pair.flags i b } }

/-- Pulses of frames whose record is acknowledged, or no longer awaited, are queued (R444). -/
def Mach.releasePulses (m : Mach) (which : PrintFrame → Bool) : Mach :=
  Mach.settle ((m.comp.frames.filter (fun f => f.pulse = 5 && which f)).foldl
    (fun acc f => acc.queuePulse f.jobLine f.number) m)

/-- Answers that waited for an acknowledgement leave (R438). -/
def Mach.releaseAnswers (m : Mach) (done : Nat → Bool) : Mach :=
  let m1 := (m.pair.sentForwards.filter (fun f => done f.no)).foldl (fun acc f => acc.reply f.who f.idx f.sub .ok) m
  { m1 with pair := { m1.pair with sentForwards := m1.pair.sentForwards.filter (fun f => !done f.no) } }

/-- Contents that waited for the standby's digest count as READY on this module alone (R440). -/
def Mach.releaseContents (m : Mach) : Mach :=
  { m with frc := { m.frc with objects := m.frc.objects.map (fun p =>
      if p.2.waitSince.isSome then (p.1, { p.2 with ready := true, waitSince := none, doneAt := m.now }) else p) } }

/-- The active module learns that its standby has gone cold (R456): nothing waits for it any more. -/
def Mach.peerCold (m : Mach) (cause : Nat) : Mach :=
  if m.pair.role = 1 && m.pair.peerRole = 2 then
    let m1 := (m.record 0x0A04 cause 0).pairFlag 0 true
    let m2 := { m1 with pair := { m1.pair with peerRole := 3, sentVerdicts := [] } }
    ((m2.releasePulses (fun _ => true)).releaseAnswers (fun _ => true)).releaseContents
  else m

/-- The standby goes cold (R433, R456): it takes its own decisions from now on. -/
def Mach.goCold (m : Mach) : Mach :=
  if m.pair.role = 2 || m.pair.role = 4 then
    { m with pair := { m.pair with role := 3, verdictQueue := [], joinLine := none, resync := 0 } }
  else m

/-- The Bindweed link counts as failed (R437); `cause` is that of PAIR_COLD, `lanes` the mask of locked lanes. -/
def Mach.bindweedFails (m : Mach) (cause lanes : Nat) : Mach :=
  if m.pair.bindFailed then m
  else
    let m1 := (m.record 0x0A08 lanes 0).pairCount 2 1
    let m2 := (m1.peerCold cause).goCold
    { m2 with pair := { m2.pair with bindFailed := true } }

/-- The Harebell line counts as failed (R437). -/
def Mach.harebellFails (m : Mach) : Mach :=
  if m.pair.hareFailed then m
  else
    let m1 := (m.record 0x0A0A 0 0).pairCount 3 1
    { m1 with pair := { m1.pair with hareFailed := true } }

end Sys2Proof.Machine
end

