-- ==== Sys2Proof/Machine/Lane.lean ====
section
/-! DEFINITION. A port's transmit lane: ordered sets and frames symbol by symbol, the queue and its priorities, and what
leaves when (R183 to R188, R196 to R199, R202). -/

namespace Sys2Proof.Machine

/-- MODULE in frames (R199): a single module sends 1 (R188). -/
def Mach.moduleId (m : Mach) : Nat := if m.paired then bits m.pair.cfg 1 2 else 1

/-! ### Ordered sets (R184 to R188) -/

/-- COM, K28.5. -/
def symCom : Bool × Nat := (true, 0xBC)

/-- The symbols of TS1 and TS2 (R188): COM, the set's own symbol, version, LINK, module ID, the receiver's bits and its
equaliser step. -/
def trainingSet (own link module : Nat) (l : Link) : List (Bool × Nat) :=
  [symCom, (false, own), (false, 1), (false, link), (false, module),
   (false, b2n l.rxLocked + 2 * b2n l.eqDone + 4 * b2n l.inverted), (false, l.eqStep)] ++ List.replicate 9 (false, own)

/-- The symbols of an ordered set: 1 TS1, 2 TS2, 3 IDLE, 4 EIOS, 5 a wake burst, 6 EAB (R184 to R188). -/
def setSymbols (kind link module : Nat) (l : Link) : List (Bool × Nat) :=
  match kind with
  | 1 => trainingSet 0x4A link module l
  | 2 => trainingSet 0x45 link module l
  | 3 => symCom :: List.replicate 3 (false, 0xB5)
  | 4 => symCom :: List.replicate 3 (true, 0x7C)
  | 5 => (List.range 16).flatMap (fun _ => symCom :: List.replicate 3 (true, 0x3C))
  | _ => [(true, 0xFE)]

/-- Send an ordered set. -/
def Mach.sendSet (m : Mach) (p kind : Nat) : Mach :=
  m.emit (.ordered p kind (setSymbols kind p m.moduleId (m.port p).link))

/-- The REFOUT outputs that are driven (R183, R226): with EXTERNAL none. -/
def Mach.refOutputs (m : Mach) : Nat := if bits (m.nat 0x3101 0 0) 8 2 = 0 then bits (m.nat 0x3101 0 0) 0 8 else 0

/-! ### Frames (R196 to R199) -/

/-- Bytes of a frame's body (R198). -/
def bodySize : FrameBody → Nat
  | .line p => p.length
  | .fire _ _ | .retime _ _ | .timeSync _ _ _ => 16
  | .inhibit _ _ | .tokenClaim _ _ | .tokenRelease | .liveness _ _ _ | .cfgRead _ _ | .nak _ _ _ => 8
  | .cfgWrite _ d => 8 + d.length
  | .ack _ _ => 24
  | .idleSet => 0

/-- TYPE (R198). -/
def bodyType : FrameBody → Nat
  | .line _ => 0x01 | .fire _ _ => 0x02 | .retime _ _ => 0x03 | .inhibit _ _ => 0x04 | .tokenClaim _ _ => 0x10
  | .tokenRelease => 0x12 | .liveness _ _ _ => 0x20 | .timeSync _ _ _ => 0x21 | .cfgWrite _ _ => 0x30
  | .cfgRead _ _ => 0x31 | .ack _ _ => 0x50 | .nak _ _ _ => 0x51 | .idleSet => 0

/-- The frame is sequenced (R198). -/
def bodySequenced : FrameBody → Bool
  | .liveness _ _ _ | .timeSync _ _ _ | .ack _ _ | .nak _ _ _ | .idleSet => false
  | _ => true

/-- The bytes of a body (R199). -/
def bodyBytes : FrameBody → Bytes
  | .line p => p
  | .fire t blank => leBytes 8 t ++ leBytes 1 (b2n blank) ++ leBytes 7 0
  | .retime new old => leBytes 8 new ++ leBytes 8 old
  | .inhibit action cause => leBytes 1 action ++ leBytes 1 cause ++ leBytes 6 0
  | .tokenClaim kind module => leBytes 1 kind ++ leBytes 1 module ++ leBytes 6 0
  | .tokenRelease => leBytes 8 0
  | .liveness role module count => leBytes 1 role ++ leBytes 1 module ++ leBytes 2 0 ++ leBytes 4 count
  | .timeSync t delay echo => leBytes 8 t ++ leBytes 4 delay ++ leBytes 1 (b2n echo) ++ leBytes 3 0
  | .cfgWrite addr d => leBytes 4 addr ++ leBytes 2 d.length ++ leBytes 2 0 ++ d
  | .cfgRead addr count => leBytes 4 addr ++ leBytes 2 count ++ leBytes 2 0
  | .ack last mask => leBytes 2 0 ++ leBytes 2 last ++ leBytes 4 mask ++ leBytes 16 0
  | .nak first missing reason => leBytes 2 first ++ leBytes 2 missing ++ leBytes 1 reason ++ leBytes 3 0
  | .idleSet => []

/-- The header of a frame of the module on a port (R196): `side` is 0 for A and 1 for B, and DIR is 0. -/
def frameHeader (f : Frame) (port side : Nat) : Bytes :=
  leBytes 1 (bodyType f.body) ++ leBytes 1 (b2n (!bodySequenced f.body) + 2 * b2n f.resend + 4 * b2n f.applyAt)
    ++ leBytes 1 port ++ leBytes 1 (1 + 32 * side) ++ leBytes 2 f.seq ++ leBytes 2 (bodySize f.body)
    ++ leBytes 6 (f.event.getD noLine) ++ leBytes 1 f.gen ++ leBytes 1 0

/-- The bytes of a frame between SOF and EOF: header, body and CRC (R196, R197). -/
def frameBytes (f : Frame) (port side : Nat) : Bytes :=
  let b := frameHeader f port side ++ bodyBytes f.body
  b ++ leBytes 4 (crc32 b)

/-- Whether a received frame is to be discarded (R197, R198): reason 0 CRC for a failed CRC, a wrong count or version, or an
invalid symbol (R185), 3 UNKNOWN_TYPE. -/
def frameFault (bytes : Bytes) (symbolError : Bool) : Option Nat :=
  let n := bytes.length - 4
  if symbolError || bytes.length < 20 || crc32 (bytes.take n) != leAt bytes n 4 || bytes.length != 20 + leAt bytes 6 2
      || leAt bytes 3 1 % 16 != 1 then some 0
  else if [0x01, 0x02, 0x03, 0x04, 0x10, 0x11, 0x12, 0x20, 0x21, 0x30, 0x31, 0x40, 0x50, 0x51].contains (leAt bytes 0 1) then none
  else some 3

/-! ### The queue (R185, R202) -/

/-- A frame's place in the order of R202, highest first; a replacement LINE has a generation of its own (R209). -/
def framePriority (f : Frame) : Nat :=
  match f.body with
  | .inhibit _ _ => 0
  | .fire _ _ => 1
  | .retime _ _ => 2
  | .tokenClaim _ _ | .tokenRelease => 3
  | .liveness _ _ _ => 4
  | .timeSync _ _ _ => 5
  | .ack _ _ | .nak _ _ _ => 6
  | .line _ => if f.resend || f.gen != 0 then 7 else 8
  | .cfgWrite _ _ | .cfgRead _ _ => 9
  | .idleSet => 10

/-- A frame joins those that wait: behind those of its own priority. -/
def enqueue : List Frame → Frame → List Frame
  | [], f => [f]
  | h :: t, f => if framePriority f < framePriority h then f :: h :: t else h :: enqueue t f

/-- The time in ns that a body takes with SOF, header, CRC and EOF at 1.6 ns a symbol, rounded up. -/
def frameTime (bytes : Nat) : Nat := divUp ((bytes + 22) * 8) 5

/-- The gap of 16 symbols between frames in ns, rounded up (R185; log entry 73). -/
def gapTime : Nat := 26

/-- How long from now the lane is taken: by the frame in progress, its gap, and the frames that wait with priority up to
`prio`. -/
def Mach.laneTaken (m : Mach) (p prio : Nat) : Nat :=
  let t := (m.port p).tx
  (t.freeAt - m.now) + sumOf ((t.queue.filter (fun f => decide (framePriority f ≤ prio))).map (fun f => frameTime (bodySize f.body) + gapTime))

/-- When, in link time, a frame of a priority that is queued now can start. -/
def Mach.leavesAt (m : Mach) (p prio : Nat) : Nat := m.linkTime + m.laneTaken p prio

/-- What the start of a frame notes: when a LINE will be complete, that a FIRE has left and names its event for N_next
(R617), t1 of a delay exchange (R195), and from when an answer is awaited (R207). -/
def Mach.frameStarts (m : Mach) (p : Nat) (f : Frame) : Mach :=
  match f.body with
  | .line b => m.onPort p (fun x => { x with fire := { x.fire with lines := x.fire.lines.map (fun l =>
      if f.event = some l.event && l.gen = f.gen then { l with left := true, doneAt := m.linkTime + frameTime b.length } else l) } })
  | .fire _ _ =>
    let m1 := m.onPort p (fun x => { x with fire := { x.fire with fires := x.fire.fires.map (fun r =>
      if f.event = some r.event then { r with left := true } else r) } })
    { m1 with sys := { m1.sys with nNext := max m1.sys.nNext (f.event.getD 0 + 1) } }
  | .timeSync t _ true => m.onLink p (fun l => { l with exchange := some t })
  | .tokenClaim _ _ => m.onTx p (fun t => { t with claim := t.claim.map (fun c => (c.1, m.now, c.2.2)) })
  | .cfgWrite addr d => m.onTx p (fun t => { t with cfgQueue := t.cfgQueue.map (fun r =>
      if r.addr = addr && r.data = some d && r.event = f.event then { r with seq := f.seq, sentAt := m.now } else r) })
  | .cfgRead addr _ => m.onTx p (fun t => { t with cfgQueue := t.cfgQueue.map (fun r =>
      if r.addr = addr && r.data = none then { r with seq := f.seq, sentAt := m.now } else r) })
  | _ => m

/-- A frame starts: it takes its SEQ, a TIME_SYNC the link time of its SOF (R192), and the lane until its EOF. -/
def Mach.depart (m : Mach) (p : Nat) (f : Frame) : Mach :=
  let tx := (m.port p).tx
  let body := match f.body with
    | .timeSync _ delay echo => FrameBody.timeSync m.linkTime delay echo
    | b => b
  let g : Frame := { f with body := body, seq := tx.txSeq }
  let done := m.now + frameTime (bodySize body)
  let m1 := m.onTx p (fun t => { t with
    freeAt := done + gapTime, sending := some (g, done)
    txSeq := if bodySequenced body then (t.txSeq + 1) % 65536 else t.txSeq
    unacked := if bodySequenced body then t.unacked ++ [{ f := g, sentAt := m.now, tries := 0 }] else t.unacked })
  (m1.frameStarts p g).emit (.frame p g (frameBytes g p (m.moduleId - 1)))

/-- The first frame that waits leaves when the lane is free; EIOS follows the last one where the port is to sleep (R187). -/
def Mach.leave (m : Mach) (p : Nat) : Mach :=
  let t := (m.port p).tx
  if m.now < t.freeAt then m
  else match t.queue with
    | f :: rest => (m.onTx p (fun t => { t with queue := rest })).depart p f
    | [] =>
      if t.sleepAfter then
        ((m.sendSet p 4).onTx p (fun t => { t with sleepAfter := false })).onLink p (fun l => { l with phase := .sleep, txIdle := true })
      else m

/-- Send a frame on a port: it joins the queue, and leaves at once on a free lane. -/
def Mach.sendFrame (m : Mach) (p : Nat) (body : FrameBody) (event : Option Nat) (gen : Nat) (resend applyAt : Bool) : Mach :=
  let f : Frame := { body := body, seq := 0, event := event, gen := gen, resend := resend, applyAt := applyAt }
  (m.onTx p (fun t => { t with queue := enqueue t.queue f })).leave p

/-- Send a frame of which the WEB_LINE is not used. -/
def Mach.sendPlain (m : Mach) (p : Nat) (body : FrameBody) : Mach := m.sendFrame p body none 0 false false

/-- The LINE on the lane, where one is in progress. -/
def Mach.lineOnLane (m : Mach) (p : Nat) : Option Frame :=
  match (m.port p).tx.sending with
  | some (f, done) => if bodyType f.body = 0x01 && decide (m.now < done) then some f else none
  | none => none

/-- A LINE in progress ends with EAB, and the gap of 16 symbols follows (R185, R202). -/
def Mach.cutLine (m : Mach) (p : Nat) : Mach :=
  (m.sendSet p 6).onTx p (fun t => { t with
    sending := none, freeAt := m.now + 2 + gapTime
    unacked := match t.sending with | some s => t.unacked.filter (fun u => u.f != s.1) | none => t.unacked })

end Sys2Proof.Machine
end

