-- ==== Sys2Proof/Machine/Send.lean ====
section
/-! DEFINITION. What every family does at a head port: stops and resumes, events not fired, predicted fire times, and lost
frames (R203 to R207, R219, R231 to R242, R675, R676). -/

namespace Sys2Proof.Machine

/-! ### Ports -/

/-- The port is ACTIVE. -/
def Mach.linkUp (m : Mach) (p : Nat) : Bool := (m.port p).link.phase = .active

/-- The ports that are ACTIVE. -/
def Mach.activePorts (m : Mach) : List Nat := allPorts.filter m.linkUp

/-- Add to LINK_COUNTERS (R224). -/
def Mach.linkCount (m : Mach) (p k n : Nat) : Mach := m.onLink p (fun l => { l with counters := bump l.counters k n })

/-- Add to FIRE_COUNTERS (R257). -/
def Mach.fireCount (m : Mach) (p k n : Nat) : Mach := m.onFire p (fun f => { f with counters := bump f.counters k n })

/-! ### Events not fired (R242) -/

/-- Mark the frame that a line lies in with several causes. -/
def Mach.markWeb (m : Mach) (line causes bars : Nat) : Mach :=
  match firstWhere (fun f => decide (f.first ≤ line) && decide (line ≤ f.last)) m.comp.frames with
  | none => m
  | some f => m.markFrame f.jobLine f.number causes bars

/-- Event e is not fired at a port: the lines that its rows leave incomplete mark their frames (R242). -/
def Mach.notFired (m : Mach) (p e causes : Nat) : Mach :=
  (rowOffsets (m.slotsOn p)).eraseDups.foldl
    (fun acc d => if d ≤ e then acc.markWeb (e - d) causes (2 ^ barOf p) else acc) m

/-! ### Rates and limits (R59, R232 to R234) -/

/-- T_min of a port in ns with the FIRE_TIMING of an event (R232). -/
def Mach.tMin (m : Mach) (p e : Nat) : Nat :=
  3 * 10 * bits (m.rsNat 0x3020 0 p e) 16 12 + fget (m.port p).tx.epInfo 6 0

/-- FIRE_RATE_MAX (R232): 0 for a port with no enabled slot. -/
def Mach.fireRateMax (m : Mach) (p : Nat) : Nat :=
  if m.portUsed p then 1000000000 / max 1 (m.tMin p (m.fireNext (barOf p))) else 0

/-- LINE_RATE_CAP (R233). -/
def Mach.lineRateCap (m : Mach) : Nat :=
  let job := if m.jobInEffect 0x5001 1 0 = 0 then 120000 else nth (demandFigures m.jobInEffect) 4 120000
  ((allPorts.filter m.portUsed).map m.fireRateMax).foldl min (min 120000 job)

/-- T_gap of a port in ns, rounded up (R234). -/
def Mach.tGap (m : Mach) (p e : Nat) : Nat := max (m.tMin p e) (divUp 1000000000 (max 1 m.lineRateCap))

/-! ### Predicted fire times (R235, R236) -/

/-- F(E) at a bar (R236). -/
def Mach.firePos (m : Mach) (k e : Nat) : Option Int := (m.barPos k e).map (fun p => p - (m.nat 0x4016 0 k : Int))

/-- The link time at which a raw position is reached, from the last count by SPEED and ACCEL (R63, R236), rounded up to
1 ns; none in NONE, and where the motion never reaches it. -/
def Mach.reachTime (m : Mach) (pos : Int) : Option Nat :=
  match m.enc.window.getLast? with
  | none => none
  | some (t0, x0) =>
    let d := pos - x0
    let v := m.enc.speed
    let disc := v * v + 2 * m.enc.accel * d
    if m.enc.speedState = 0 then none
    else if d ≤ 0 then some t0
    else if v ≤ 0 || disc < 0 then none
    else
      let root := Nat.sqrt (disc.toNat * 10 ^ 12)
      some (t0 + divUp (2 * d.toNat * 10 ^ 15) (v.toNat * 10 ^ 6 + root))

/-- The predicted fire time of event E at a bar. -/
def Mach.predicted (m : Mach) (k e : Nat) : Option Nat := (m.firePos k e).bind m.reachTime

/-- The raw position has reached F(E) (R237). -/
def Mach.reached (m : Mach) (k e : Nat) : Bool :=
  match m.firePos k e with
  | some f => decide (f ≤ m.enc.raw)
  | none => false

/-- At least n line periods remain until an event's predicted fire time (R207); without a prediction they do. -/
def Mach.periodsRemain (m : Mach) (k e n : Nat) : Bool :=
  match m.predicted k e with
  | none => true
  | some t => decide (n * m.increment * 1000000000 ≤ (t - m.linkTime) * m.enc.speed.toNat * 2 ^ 32)

/-! ### Stops in force (R251, R675) -/

/-- A latched gating input covers a port (R251). -/
def Mach.gateCovers (m : Mach) (p : Nat) : Bool :=
  bit m.gate.latched (barOf p) || bit m.gate.latched 8 || bit m.gate.latched 9

/-- The stops in force on a port (R675): 0 gating, 1 encoder, 2 temperature, 3 hold, 4 metrology, 5 debug, 6 a mode that
does not fire, 7 the inhibit of R457, 8 an accepted power failure (R647). -/
def Mach.stops (m : Mach) (p : Nat) : List Nat :=
  (if m.gateCovers p then [0] else []) ++ (if m.enc.fault then [1] else [])
    ++ (if (m.port p).fire.tempStop then [2] else []) ++ (if m.sys.holdRequested then [3] else [])
    ++ (if m.yarrow.metroStop then [4] else []) ++ (if m.cpu.dbg.halt then [5] else [])
    ++ (if m.gate.modeStop then [6] else []) ++ (if m.gate.coldInhibit then [7] else [])
    ++ (if m.power.failAt.isSome then [8] else [])

/-- The cause bit of R138 that a stop gives. -/
def stopBit (kind : Nat) : Nat := nth [9, 5, 8] kind 11

/-- CAUSE of INHIBIT (R199) that a stop carries. -/
def stopCode (kind : Nat) : Nat := nth [0, 1, 2, 3, 0, 5, 3, 3, 0] kind 3

/-- No FIRE leaves on the port: a stop is in force, or a STOP or RESUME is not acknowledged (R207, R675). -/
def Mach.heldBack (m : Mach) (p : Nat) : Bool :=
  !(m.stops p).isEmpty || (m.port p).fire.stopUnacked || (m.port p).fire.resumeKind.isSome

/-! ### Lost frames (R207) -/

/-- FIRING falls when the last event turns out not fired (R256). -/
def lastNotFired (f : FirePort) (e : Nat) : Bool := f.firing && (f.fires.getLast?).map (fun x => x.event) != some e

/-- LINK_BLANK (R207): a lost LINE or FIRE leaves the event unfired at the port. An endpoint that lacks the LINE counts the
event as late, which the module then knows of (R241). -/
def Mach.linkBlank (m : Mach) (p e type : Nat) : Mach :=
  let m1 := ((m.recordAt 0x0405 (p + 256 * type) e e).linkCount p 4 1).notFired p e (2 ^ 7)
  m1.onFire p (fun f => { f with
    lines := f.lines.map (fun l => if l.event = e then { l with lost := true } else l)
    firing := lastNotFired f e
    excused := if type = 0x01 then f.excused ++ [e] else f.excused })

/-- The event that a frame names, or the web line now (R228). -/
def Mach.frameLine (m : Mach) (f : Frame) : Nat :=
  match f.body with
  | .line _ | .fire _ _ | .retime _ _ => f.event.getD noLine
  | _ => m.webLine

/-- Resend a frame with RESEND set (R207). -/
def Mach.resend (m : Mach) (p : Nat) (f : Frame) : Mach :=
  ((m.recordAt 0x0404 (p + 256 * bodyType f.body) f.seq (m.frameLine f)).linkCount p 3 1).sendFrame p f.body f.event f.gen true f.applyAt

/-- A lost LINE: resent once while four line periods remain (R207). -/
def Mach.lineLost (m : Mach) (p : Nat) (f : Frame) : Mach :=
  let e := f.event.getD 0
  match firstWhere (fun l => l.event == e && l.gen == f.gen) (m.port p).fire.lines with
  | none => m
  | some l =>
    if !l.resent && !l.lost && m.periodsRemain (barOf p) e 4 then
      (m.onFire p (fun x => { x with lines := x.lines.map (fun y =>
        if y.event = e && y.gen = f.gen then { y with resent := true, left := false } else y) })).resend p f
    else if l.lost then m
    else m.linkBlank p e 0x01

/-- A lost FIRE: resent where it can leave 2 us before its fire time and no stop holds it back (R207, R251). -/
def Mach.fireLost (m : Mach) (p : Nat) (f : Frame) (time : Nat) : Mach :=
  if !m.heldBack p && decide (m.leavesAt p 1 + 2000 ≤ time) then m.resend p f else m.linkBlank p (f.event.getD 0) 0x02

/-- The fire time of an event of a port becomes another one; T_gap counts from the fire time that stands (R234). -/
def Mach.moveFire (m : Mach) (p e new : Nat) : Mach :=
  m.onFire p (fun f => { f with
    lastFired := if f.fires.any (fun y => y.event = e && f.lastFired = some y.time) then some new else f.lastFired
    fires := f.fires.map (fun y => if y.event = e then { y with time := new } else y) })

/-- A lost RETIME: resent where it can leave 2 us before both times and no stop is in force; else the old time stands
(R207, R238). -/
def Mach.retimeLost (m : Mach) (p : Nat) (f : Frame) (new old : Nat) : Mach :=
  if !m.heldBack p && decide (m.leavesAt p 2 + 2000 ≤ min new old) then m.resend p f
  else
    let e := f.event.getD 0
    (m.recordAt 0x040B p e e).moveFire p e old

/-- Send what ends a LINE in progress with EAB, of which the module then has its own notice (R202, R207, R453). -/
def Mach.cutFor (m : Mach) (p : Nat) (send : Mach → Mach) : Mach :=
  match m.lineOnLane p with
  | some f => (send (m.cutLine p)).lineLost p f
  | none => send m

/-- Send an INHIBIT. -/
def Mach.inhibit (m : Mach) (p action cause : Nat) (event : Option Nat) (resend : Bool) : Mach :=
  m.cutFor p (fun m => m.sendFrame p (.inhibit action cause) event 0 resend false)

/-- A lost frame (R207). The module acts on the first notice, which LOST_TX and LINK_CRC count where the endpoint reported
it (R224, R228); tokens and CFG then wait for their own timers. -/
def Mach.frameLost (m : Mach) (p : Nat) (u : Unacked) (reported : Bool) : Mach :=
  if u.noticed then m
  else
    let m0 := m.onTx p (fun t => { t with
      unacked := t.unacked.filter (fun x => x != u), taken := t.taken.filter (fun f => f != u.f) })
    let m1 := if reported then (m0.linkCount p 2 1).record 0x0403 (p + 256) 1 else m0
    match u.f.body with
    | .line _ => m1.lineLost p u.f
    | .fire t _ => m1.fireLost p u.f t
    | .retime new old => m1.retimeLost p u.f new old
    | .inhibit action cause =>
      ((m1.recordAt 0x0404 (p + 1024) u.f.seq m1.webLine).linkCount p 3 1).inhibit p action cause u.f.event true
    | _ => m1.onTx p (fun t => { t with unacked := t.unacked ++ [{ u with noticed := true }] })

/-! ### Configuration frames (R218, R219) -/

/-- The body of a configuration request; one without data reads the identity from 0x0000 to 0x009F. -/
def cfgBody (addr : Nat) (data : Option Bytes) : FrameBody :=
  match data with
  | some d => .cfgWrite addr d
  | none => .cfgRead addr 160

/-- Send a configuration request: address, data, and the event from which a write with APPLY_AT takes effect. -/
def Mach.cfgSend (m : Mach) (p : Nat) (r : Nat × Option Bytes × Option Nat) : Mach :=
  let req : CfgReq := { addr := r.1, data := r.2.1, event := r.2.2, seq := (m.port p).tx.txSeq, sentAt := m.now, tries := 0 }
  (m.sendFrame p (cfgBody r.1 r.2.1) r.2.2 0 false r.2.2.isSome).onTx p (fun t => { t with
    cfgQueue := t.cfgQueue ++ [req]
    applyAt := match r.2.2 with | some e => t.applyAt ++ [(r.1, e)] | none => t.applyAt })

/-- Send configuration requests to an ACTIVE port. -/
def Mach.cfgAdd (m : Mach) (p : Nat) (l : List (Nat × Option Bytes × Option Nat)) : Mach :=
  if m.linkUp p then l.foldl (fun acc r => acc.cfgSend p r) m else m

/-- SLOT_CFG of every slot and PAYLOAD_BYTES (R218, R219). -/
def Mach.slotEntries (m : Mach) (p : Nat) : List (Nat × Option Bytes × Option Nat) :=
  (List.range 8).map (fun s =>
    let v := m.slot p s
    (0xA0 + 4 * s, some (leBytes 4 ((if slotOn v then 2 ^ 31 else 0) + slotNozzles v)), none))
    ++ [(0xC0, some (leBytes 2 (m.payloadBytes p)), none)]

/-- STROBE_NS and PULSE_PITCH_NS of a FIRE_TIMING value (R218, R229). -/
def timingEntries (v : Nat) (event : Option Nat) : List (Nat × Option Bytes × Option Nat) :=
  [(0xC4, some (leBytes 4 (10 * bits v 0 11)), event), (0xC8, some (leBytes 4 (10 * bits v 16 12)), event)]

/-- The writes that change between two FIRE_TIMING values. -/
def timingChanges (old new : Nat) (event : Option Nat) : List (Nat × Option Bytes × Option Nat) :=
  (if bits old 0 11 = bits new 0 11 then [] else (timingEntries new event).take 1)
    ++ (if bits old 16 12 = bits new 16 12 then [] else (timingEntries new event).drop 1)

/-- The next line to enter a bar's horizon as far as FIRE_TIMING goes. -/
def Mach.portNext (m : Mach) (k : Nat) : Nat := fget m.seams.portNext k m.enc.firstLine

/-- A PORT seam's writes at the ports of a bar, at its applied line (R219, R231). -/
def Mach.timingAt (m : Mach) (k w : Nat) : Mach :=
  (portsOf k).foldl (fun acc p =>
    acc.cfgAdd p (timingChanges (if w = 0 then (m.effNum 0x3020 0 p).toNat else m.rsNat 0x3020 0 p (w - 1)) (m.rsNat 0x3020 0 p w)
      (some w))) m

/-- The writes of every PORT seam whose applied line has newly entered a bar's horizon (R219). -/
def Mach.portWrites (m : Mach) (k : Nat) : Mach :=
  let lines := ((m.seams.vals.filter (fun v => bit v.scope 2 && decide (m.portNext k ≤ v.applied)
    && decide (v.applied < m.horizonEnd k))).map (fun v => v.applied)).eraseDups
  let m1 := lines.foldl (fun acc w => acc.timingAt k w) m
  { m1 with seams := { m1.seams with portNext := fset m1.seams.portNext k (max (m.portNext k) (m.horizonEnd k)) } }

/-! ### Stops and resumes (R247, R251, R253, R675) -/

/-- INHIBIT frames of an action that wait or are unacknowledged no longer count: the other action follows. -/
def Mach.dropInhibits (m : Mach) (p action : Nat) : Mach :=
  let other := fun (f : Frame) => match f.body with | .inhibit a _ => a != action | _ => true
  m.onTx p (fun t => { t with queue := t.queue.filter other, unacked := t.unacked.filter (fun u => other u.f) })

/-- FIRE and RETIME frames that wait on a stopped port do not leave. -/
def Mach.dropFires (m : Mach) (p : Nat) : Mach :=
  m.onTx p (fun t => { t with queue := t.queue.filter (fun f => framePriority f != 1 && framePriority f != 2) })

/-- Stops begin on a port: INHIBIT STOP leaves, at once or when a port that is down comes up; events whose fire time is still
to come count as not fired, but for a hold or a change of mode only those whose FIRE has not left (R247, R253, R618, R619). -/
def Mach.stopPort (m : Mach) (p : Nat) (kinds : List Nat) : Mach :=
  let coming := (m.port p).fire.fires.filter (fun x => decide (m.linkTime < x.time))
  let soft := kinds.all (fun k => k = 3 || k = 6)
  let hit := if soft then coming.filter (fun x => !x.left) else coming
  let m0 := ((m.dropFires p).dropInhibits p 1).onFire p (fun f => { f with
    stopUnacked := true, resumeKind := none
    firing := f.firing && hit.isEmpty
    fires := f.fires.filter (fun x => decide (x.time ≤ m.linkTime)) })
  let m1 := if m.linkUp p then m0.inhibit p 0 (stopCode (kinds.headD 6)) none false else m0
  let counted := if soft then kinds else kinds.filter (fun k => k != 3 && k != 6)
  let m2 := hit.foldl (fun acc x => acc.notFired p x.event (maskOf (counted.map stopBit))) m1
  if kinds.contains 0 then m2.fireCount p 6 hit.length else m2

/-- The last stop of a port ends (R675): RESUME leaves, at once or when a port that is down comes up. -/
def Mach.resumePort (m : Mach) (p kind : Nat) : Mach :=
  let m1 := (m.dropInhibits p 0).onFire p (fun f => { f with stopUnacked := false, resumeKind := some kind })
  if m.linkUp p then m1.inhibit p 1 (stopCode kind) none false else m1

/-- A STOP or RESUME that was not acknowledged before a port trained is sent again (R207). -/
def Mach.inhibitAgain (m : Mach) (p : Nat) : Mach :=
  let f := (m.port p).fire
  if f.stopUnacked then m.inhibit p 0 (stopCode ((m.stops p).headD 6)) none false
  else match f.resumeKind with
    | some kind => m.inhibit p 1 (stopCode kind) none false
    | none => m

/-- What a change of stops does at every port. -/
def Mach.settleStops (m old : Mach) : Mach :=
  forEach allPorts m (fun p acc =>
    let before := old.stops p
    let after := m.stops p
    let fresh := after.filter (fun k => !before.contains k)
    if !fresh.isEmpty then acc.stopPort p fresh
    else if after.isEmpty && !before.isEmpty then acc.resumePort p (before.headD 6)
    else acc)

/-- Change a stop and act on every port. -/
def Mach.withStops (m : Mach) (f : Mach → Mach) : Mach := (f m).settleStops m

/-- STOP_REQ (R676). -/
def Mach.stopReq (m : Mach) : Bool :=
  m.sys.mode != .reset
    && (m.gate.latched != 0 || m.enc.fault || m.gate.overStop || m.sys.holdRequested || m.yarrow.metroStop
        || m.cpu.dbg.halt || m.gate.coldInhibit || (m.sys.mode = .safe && !m.sys.yielded) || m.power.failAt.isSome)

/-- Report an own stop of a standby to the active module (R442). -/
def Mach.reportStop (m : Mach) (cause : Nat) (ports : List Nat) : Mach :=
  if m.pair.role = 2 then m.emit (.peer (.stopReport cause (maskOf ports) (m.fireNext 0))) else m

end Sys2Proof.Machine
end

