-- ==== Sys2Proof/Machine/Fire.lean ====
section
/-! DEFINITION. Composing in time, LINE and FIRE frames, catch-ups, RETIME, and the gating inputs (R87, R89, R203, R204,
R234, R237 to R241, R248, R250 to R254). -/

namespace Sys2Proof.Machine

/-! ### Composing (R89, R172, R234) -/

/-- While the datum line rate exceeds the cap, a composer starts a line no sooner than 1 / LINE_RATE_CAP after the one
before (R234), in whole ns rounded down. -/
def Mach.paced (m : Mach) (k took : Nat) : Bool :=
  decide (m.enc.lineRate ≤ m.lineRateCap) || m.enc.fastFrom.any (fun t => decide (m.now < t + took))
    || (match ffind m.seams.compStart k with
        | some t => decide (t + 1000000000 / max 1 m.lineRateCap ≤ m.now - took)
        | none => true)

/-- COMPOSE_LINE: nothing happens before the line may be composed; a composer that finds its NEXT bank loading waits. -/
def Mach.composeLine (m : Mach) (k took : Nat) : Mach :=
  let w := m.nextToCompose k
  if m.mayCompose k w && m.paced k took then
    match m.bankBusy k w with
    | some g =>
      if (ffind m.seams.bankWait (8 * k + g)).isSome then m
      else { m with seams := { m.seams with bankWait := fset m.seams.bankWait (8 * k + g) m.now } }
    | none => m.composeAt k w took
  else m

/-! ### LINE (R179, R204, R209) -/

/-- Whether the module sends LINE and FIRE for an event (R433): a joining module does so from its join line on. -/
def Mach.sends (m : Mach) (e : Nat) : Bool :=
  m.pair.role != 5 && (m.pair.role != 4 || (match m.pair.joinLine with | some j => decide (j ≤ e) | none => false))

/-- Every line that an event fires at a port is composed and valid, or lies before the run's first line (R179). -/
def Mach.linesValid (m : Mach) (p e : Nat) : Bool :=
  let k := barOf p
  (rowOffsets (m.slotsOn p)).all (fun d =>
    decide (e < m.enc.firstLine + d) || (decide (d ≤ e) && decide (e - d < m.nextToCompose k)))

/-- The generation of an event at a port (R209). -/
def Mach.genOf (m : Mach) (p e : Nat) : Nat := fget (m.port p).fire.gens e 0

/-- The next event whose LINE the port assembles, in event order (R204); a joining module's first one is that of its join
line (R433). -/
def Mach.nextLineOf (m : Mach) (p : Nat) : Nat :=
  let e := max m.enc.firstLine (m.port p).fire.nextLine
  if m.pair.role = 4 then max e (m.pair.joinLine.getD 0) else e

/-- An event passes without a FIRE on a port, which then needs no LINE of it. -/
def Mach.passEvent (m : Mach) (p e : Nat) : Mach := m.onFire p (fun f => { f with nextLine := max f.nextLine (e + 1) })

/-- The port can send the LINE of an event (R204): the FIRE of the event LINE_AHEAD before it has left, which counts as
met for the first events of a run and after a resume (log entry 23). No FIRE leaves on a stopped port. -/
def Mach.lineDue (m : Mach) (p e : Nat) : Bool :=
  m.enc.origin.isSome && m.printing && m.linkUp p && m.portUsed p && m.sends e && !(m.port p).tx.rewrite
    && (m.stops p).isEmpty
    && decide (e < m.fireNext (barOf p) + m.nat 0x3100 0 0) && m.linesValid p e

/-- An active module's decision about a port's heads comes into force (R249): 0 cap set, 1 cap cleared, 2 stop, 3 re-enabled. -/
def Mach.applyPolicy (m : Mach) (p action : Nat) : Mach :=
  match action with
  | 0 => m.onFire p (fun f => { f with tempCap := true })
  | 1 => m.onFire p (fun f => { f with tempCap := false })
  | 2 => m.withStops (fun x => x.onFire p (fun f => { f with tempStop := true }))
  | _ => m.withStops (fun x => x.onFire p (fun f => { f with tempStop := false }))

/-- Decisions of a kind that name an event up to e come into force (R249): caps when the payload of e is assembled, stops when
its FIRE is to be queued. -/
def Mach.policiesDue (m : Mach) (p e : Nat) (caps : Bool) : Mach :=
  let due := fun (x : Nat × Nat) => decide (x.2 ≤ e) && (decide (x.1 ≤ 1) = caps)
  let l := (m.port p).fire.policies
  if l.any due then
    (l.filter due).foldl (fun acc x => acc.applyPolicy p x.1) (m.onFire p (fun f => { f with policies := l.filter (fun x => !due x) }))
  else m

/-- LINE_SEND: the payload is assembled under the level cap and queued (R168, R204, R209). -/
def Mach.lineSend (m0 : Mach) (p : Nat) : Mach :=
  let e := m0.nextLineOf p
  if m0.lineDue p e then
    let m := m0.policiesDue p e true
    let payload := m.payload p e (m.port p).fire.tempCap
    let gen := m.genOf p e
    let l : LineRec := { event := e, gen := gen, doneAt := 0, resent := false, lost := false }
    (m.onFire p (fun f => { f with
      nextLine := e + 1
      lines := f.lines.filter (fun x => x.event != e && decide (m.fireNext (barOf p) ≤ x.event + 16)) ++ [l] })).sendFrame
        p (.line payload) (some e) gen false false
  else m0

/-! ### FIRE (R203, R234, R240, R241) -/

/-- T_LATCH of a port's endpoint in ns. -/
def Mach.tLatch (m : Mach) (p : Nat) : Nat := fget (m.port p).tx.epInfo 6 0

/-- When the LINE of an event that has not left can be complete (R240), its FIRE being queued now: after the frame in
progress, the frames that wait ahead of it, and the FIRE. -/
def Mach.lineDoneAt (m : Mach) (p e : Nat) : Nat :=
  let f : Frame := { body := .line [], seq := 0, event := some e, gen := m.genOf p e, resend := false, applyAt := false }
  let waits := fun (x : Frame) => x.event = some e && bodyType x.body = 0x01
  let t := (m.port p).tx
  let ahead := match firstWhere waits t.queue with
    | some _ => t.queue.takeWhile (fun x => !waits x)
    | none => t.queue.filter (fun x => decide (framePriority x ≤ framePriority f))
  m.linkTime + (t.freeAt - m.now) + sumOf (ahead.map (fun x => frameTime (bodySize x.body) + gapTime)) + (frameTime 16 + gapTime)
    + frameTime (m.payloadBytes p)

/-- The LINE of an event can be complete at the endpoint by a time (R240). -/
def Mach.lineInTime (m : Mach) (p e deadline : Nat) : Bool :=
  let delay := divUp (m.port p).link.delay 16
  match firstWhere (fun l => l.event == e && l.gen == m.genOf p e) (m.port p).fire.lines with
  | some l => !l.lost && decide ((if l.left then l.doneAt else m.lineDoneAt p e) + delay ≤ deadline)
  | none => m.linesValid p e && decide (m.lineDoneAt p e + delay ≤ deadline)

/-- The LINE of an event has already been counted as lost. -/
def Mach.lineGone (m : Mach) (p e : Nat) : Bool :=
  (m.port p).fire.lines.any (fun l => l.event = e && l.gen = m.genOf p e && l.lost)

/-- The seam whose squash a bar recomputes or has recomputed for an event (R100). -/
def Mach.squashOf (m : Mach) (e : Nat) : Option Seam :=
  (m.seams.table.filter (fun s => (s.outcome = 2 || s.outcome = 3) && (match s.applied with
    | some w => decide (w ≤ e)
    | none => false))).getLast?

/-- A late line (R240): recorded and counted, and SQUASH_LATE with it where a recompute made it late (R100). -/
def Mach.lateLine (m : Mach) (p e : Nat) : Mach :=
  let k := barOf p
  let m1 := ((m.recordAt 0x0501 p e e).fireCount p 2 1).onFire p (fun f => { f with excused := f.excused ++ [e] })
  let awaited := match ffind m.seams.redo k with
    | some r => (rowOffsets (m.slotsOn p)).any (fun d => decide (r + d ≤ e) && decide (e < m.compNext k + d))
    | none => false
  let late := m.genOf p e != 0 || awaited
  match m.squashOf e with
  | some s => if late then
      (m1.recordAt 0x0223 (s.id + 65536 * s.scope) (2 ^ k) (s.applied.getD noLine)).notFired p e (2 ^ 6 + 2 ^ 4)
    else m1.notFired p e (2 ^ 6)
  | none => m1.notFired p e (2 ^ 6)

/-- The FIRE is queued (R203); an event that is not blank is the last one that the port fired. -/
def Mach.sendFire (m : Mach) (p e t : Nat) (blank : Bool) : Mach :=
  (m.onFire p (fun f => { f with
    fires := f.fires.filter (fun x => decide (f.statusAt ≤ x.time)) ++ [{ event := e, time := t, gen := m.genOf p e, blank := blank }]
    firing := !blank
    lastFired := if blank then f.lastFired else some t
    overspeed := false })).sendFrame p (.fire t blank) (some e) (m.genOf p e) false false

/-- The causes of an event for which nothing is sent at a port (R190, R207, R242, R253, R675): a port that is not ACTIVE, every
stop in force, a STOP or a RESUME that is not acknowledged. -/
def Mach.unsentCauses (m : Mach) (p : Nat) : List Nat :=
  let f := (m.port p).fire
  let stops := m.stops p
  (if m.linkUp p then [] else [7]) ++ stops.map stopBit
    ++ (if stops.isEmpty && f.stopUnacked then [11] else [])
    ++ (match f.resumeKind with | some kind => [stopBit kind] | none => [])

/-- Nothing is sent for an event at a port (R241, R242, R256). -/
def Mach.notSent (m : Mach) (p e : Nat) (causes : List Nat) : Mach :=
  let m1 := (m.passEvent p e).onFire p (fun f => { f with firing := false, overspeed := false })
  let m2 := if m.linkUp p then m1 else m1.linkCount p 4 1
  (if (m.stops p).contains 0 then m2.fireCount p 6 1 else m2).notFired p e (maskOf causes)

/-- The FIRE of an event at a port that no stop holds back (R234, R240, R241). -/
def Mach.fireOpen (m : Mach) (p e t : Nat) (catchUp : Bool) : Mach :=
  let m0 := if catchUp then (m.recordAt 0x0504 p e e).fireCount p 4 1 else m
  let tooSoon := match (m.port p).fire.lastFired with | some t0 => decide (t < t0 + m.tGap p e) | none => false
  let unwritten := (m.port p).tx.applyAt.any (fun a => decide (a.2 ≤ e))
  let m1 := if unwritten then m0.notFired p e (2 ^ 11) else m0
  if tooSoon then
    let m2 := (m1.recordAt 0x0503 p m.enc.lineRate e).fireCount p 3 1
    let m3 := ({ m2 with gate := { m2.gate with overStop := true } }.notFired p e (2 ^ 11)).sendFire p e t true
    m3.onFire p (fun f => { f with overspeed := true })
  else if m.lineGone p e then m1.sendFire p e t true
  else if !m.lineInTime p e (t - m.tLatch p) then (m1.lateLine p e).sendFire p e t true
  else m1.sendFire p e t unwritten

/-- The decision for one port and one event (R241). -/
def Mach.firePort (m0 : Mach) (p e t : Nat) (catchUp : Bool) : Mach :=
  if !m0.portUsed p then m0
  else
    let m := m0.policiesDue p e false
    match m.unsentCauses p with
    | [] => m.fireOpen p e t catchUp
    | causes => m.notSent p e causes

/-- An event of a port whose level cap or a stop is set (R320). -/
def Mach.noteCapped (m : Mach) (p e : Nat) : Mach :=
  if !(m.port p).fire.tempCap && (m.stops p).isEmpty then m
  else m.onFire p (fun f =>
    let l := f.capped.drop (f.capped.length - 64)
    match l.getLast? with
    | some r => if r.2 + 1 = e then { f with capped := l.dropLast ++ [(r.1, e)] } else { f with capped := l ++ [(e, e)] }
    | none => { f with capped := [(e, e)] })

/-- Verdict records that a FIRE depends on and that the standby has not acknowledged: Bindweed then counts as failed,
and the FIRE leaves (R444). -/
def Mach.awaitRecords (m : Mach) (e : Nat) : Mach :=
  let needed := m.pair.sentVerdicts.any (fun v => match v.body with
    | .seam _ _ _ applied _ _ => decide (applied ≤ e)
    | .readiness _ _ _ first _ _ => decide (first ≤ e)
    | .headPolicy _ _ event => decide (event ≤ e)
    | _ => false)
  if m.inStepPeer && needed then m.bindweedFails 4 0xF else m

/-- A bar has fired a seam's applied line, or the run's first line beyond it (R84, R87, R111). -/
def Mach.seamFired (m : Mach) (k e : Nat) : Mach :=
  { m with seams := { m.seams with table := m.seams.table.map (fun s =>
      if (s.state = 1 || s.state = 2) && (match s.applied with | some w => decide (w ≤ e) | none => false) then
        let fired := setBit s.fired k true
        { s with fired := fired, state := if fired = 0xFF then 3 else 2 }
      else s) } }

/-- The bar's fired frontier moves past an event (R87): B0's lets lines into its horizon, B7's closes frames. -/
def Mach.advanceFired (m : Mach) (k e : Nat) : Mach :=
  let m1 := m.seamFired k e
  let m2 := { m1 with
    seams := { m1.seams with fireNext := fset m1.seams.fireNext k (e + 1) } }
  let m3 := (if k = 0 then m2.enterLines else m2).portWrites k
  if k = 7 then m3.closeFrames else m3

/-- The bar's next event counts as fired: its first FIRE has left (R87), or none of its FIREs waits for the lane. -/
def Mach.firedNow (m : Mach) (k : Nat) : Bool :=
  let e := m.fireNext k
  decide (e < m.queueNext k)
    && ((portsOf k).any (fun p => (m.port p).fire.fires.any (fun x => x.event = e && x.left))
        || !(portsOf k).any (fun p => (m.port p).tx.queue.any (fun f => f.event = some e && framePriority f = 1)))

/-- The fired frontier of a bar follows the FIREs that have left, over at most `fuel` events. -/
def Mach.settleFired (m : Mach) (k : Nat) : Nat → Mach
  | 0 => m
  | fuel + 1 => if m.firedNow k then (m.advanceFired k (m.fireNext k)).settleFired k fuel else m

/-- The FIREs of event e of a bar are queued with a fire time (R203, R237). -/
def Mach.fireEvent (m : Mach) (k e t : Nat) (catchUp : Bool) : Mach :=
  let m1 := m.awaitRecords e
  let m2 := if m.sends e then (portsOf k).foldl (fun acc p => (acc.noteCapped p e).firePort p e t catchUp) m1
    else (portsOf k).foldl (fun acc p => acc.passEvent p e) m1
  Mach.settleFired { m2 with seams := { m2.seams with queued := fset m2.seams.queued k (e + 1) } } k 2

/-- The run fires events: an origin exists and the mode prints. -/
def Mach.firesEvents (m : Mach) : Bool := m.enc.origin.isSome && m.printing

/-- The bar's next event, when it is due now: its fire time, and whether it is a catch-up (R203, R237). -/
def Mach.fireDue (m : Mach) (k : Nat) : Option (Nat × Bool) :=
  if !m.firesEvents then none
  else if m.reached k (m.queueNext k) then some (m.linkTime + 7500, true)
  else match m.predicted k (m.queueNext k) with
    | none => none
    | some t => if t = m.linkTime + 7500 then some (t, false) else if t < m.linkTime + 7500 then some (m.linkTime + 7500, true) else none

/-- FIRE_SEND: the FIREs of the bar's next event are queued when they are due. -/
def Mach.fireSend (m : Mach) (k : Nat) : Mach :=
  match m.fireDue k with
  | some (t, catchUp) => m.fireEvent k (m.queueNext k) t catchUp
  | none => m

/-- The most lines that one compare target may pass at once: a trim moves a position by at most 1,024 counts, and a line has
at least 4 of them (R56, R60, R265). -/
def hitFuel : Nat := 260

/-- At a count, a bar's events that have been reached, or fall less than 7.5 us ahead, are fired at once (R237). -/
def Mach.catchUp (m : Mach) (k : Nat) : Nat → Mach
  | 0 => m
  | fuel + 1 =>
    match m.fireDue k with
    | some (t, true) => (m.fireEvent k (m.queueNext k) t true).catchUp k fuel
    | _ => m

/-- Every event of a bar that is due now is fired, at most `fuel` of them (R92). -/
def Mach.fireAll (m : Mach) (k : Nat) : Nat → Mach
  | 0 => m
  | fuel + 1 =>
    match m.fireDue k with
    | some (t, c) => (m.fireEvent k (m.queueNext k) t c).fireAll k fuel
    | none => m

/-! ### RETIME (R238) -/

/-- A new fire time of an event keeps T_gap from the events that the port fires before and after it (R234). -/
def Mach.keepsGap (m : Mach) (p : Nat) (x : FireRec) (t : Nat) : Bool :=
  (m.port p).fire.fires.all (fun y => y.blank || y.event = x.event
    || (if y.event < x.event then decide (y.time + m.tGap p x.event ≤ t) else decide (t + m.tGap p y.event ≤ y.time)))

/-- The new time of a FIRE that has left, where a RETIME is to be sent (R234, R238). -/
def Mach.retimeTo (m : Mach) (p : Nat) (x : FireRec) : Option Nat :=
  match m.predicted (barOf p) x.event with
  | none => none
  | some t =>
    if x.left && decide (m.nat 0x3105 0 0 < gap t x.time) && decide (m.leavesAt p 2 + 2000 ≤ min t x.time)
        && (x.blank || m.keepsGap p x t)
        && !(m.port p).tx.unacked.any (fun u => bodyType u.f.body = 0x03 && u.f.event = some x.event)
        && !(m.port p).tx.queue.any (fun f => bodyType f.body = 0x03 && f.event = some x.event) then some t
    else none

/-- RETIME frames of a port, after a count or an acknowledgement. -/
def Mach.retimePort (m : Mach) (p : Nat) : Mach :=
  if m.linkUp p && (m.stops p).isEmpty && m.firesEvents then
    (m.port p).fire.fires.foldl (fun acc x =>
      match acc.retimeTo p x with
      | none => acc
      | some t =>
        ((acc.sendFrame p (.retime t x.time) (some x.event) 0 false false).fireCount p 1 1).moveFire p x.event t) m
  else m

/-! ### Gating inputs and head re-enable (R248, R250 to R254) -/

/-- An input is accepted as active (R251). -/
def Mach.gateInhibit (m : Mach) (k : Nat) : Mach :=
  let m1 := { m with gate := { m.gate with present := setBit m.gate.present k true } }
  if bit (m.nat 0x2150 0 0) k then
    let m2 := m1.withStops (fun x => { x with gate := { x.gate with latched := setBit x.gate.latched k true } })
    (m2.record 0x050A (2 ^ k) (m.webLine % 2 ^ 32)).reportStop 0 (if k < 8 then portsOf k else allPorts)
  else m1

/-- The inputs that are active at a write of GATE_CONFIG and begin to gate with it (R250, R251; log entry 85): POL turns the
level of an input over, and an active input gates as soon as its EN is set. -/
def Mach.gateConfigured (m : Mach) (old : Nat) : Mach :=
  let new := m.nat 0x2150 0 0
  let turned := (setBits (Nat.xor old new / 65536) 10).foldl (fun v k => setBit v k (!bit v k)) m.gate.present
  let fresh := (List.range 10).filter (fun k => bit turned k && bit new k && !(bit m.gate.present k && bit old k))
  fresh.foldl (fun acc k => acc.gateInhibit k) { m with gate := { m.gate with present := turned } }

/-- A write of GATE_CLEAR (R254). -/
def Mach.writeGateClear (m : Mach) (w : Who) (v : Nat) : Mach :=
  m.guardedNum w 0x2152 0 v (fun m =>
    if (setBits v 10).any (fun k => bit m.gate.present k) then m.reply w 0x2152 0 .notReady
    else
      let m1 := m.withStops (fun x => { x with gate := { x.gate with
        latched := maskOf ((setBits x.gate.latched 10).filter (fun k => !bit v k)) } })
      let freed := allPorts.any (fun p => m.gateCovers p && !m1.gateCovers p)
      (if freed then m1.record 0x050B (maskOf ((setBits v 10).filter (fun k => bit m.gate.latched k))) (m.webLine % 2 ^ 32) else m1).acceptNum
        w 0x2152 0 0 2 v)

/-- Readings of the enabled, fitted slots of a port's last STATUS (R245). -/
def Mach.slotReadings (m : Mach) (p : Nat) : List (Option Int) :=
  let fitted := fget (m.port p).tx.epInfo 8 0
  ((List.range 8).filter (fun s => slotOn (m.slot p s) && bit fitted s)).map (fun s => nth (m.port p).fire.temps s none)

/-- WARN, LIMIT and HYST that a port's last STATUS was judged by (R244): a write takes effect at the next STATUS. -/
def Mach.limits (m : Mach) (p : Nat) : Int × Int × Int :=
  (m.port p).fire.limits.getD (m.num 0x3024 1 p, m.num 0x3024 2 p, m.num 0x3024 3 p)

/-- Every reading of the last STATUS lies below a limit; a slot without a reading does not. -/
def Mach.allBelow (m : Mach) (p : Nat) (limit : Int) : Bool :=
  !(m.port p).fire.noReading && !(m.port p).fire.noStatus && (m.slotReadings p).all (fun r => match r with | some t => decide (t < limit) | none => false)

/-- A write of HEAD_REENABLE (R248). A forwarded one changes nothing: the standby takes the decision from its verdict record
(R249). -/
def Mach.writeHeadReenable (m : Mach) (w : Who) (v : Nat) : Mach :=
  m.guardedNum w 0x3025 0 v (fun m =>
    let p := m.instOf w .port
    let (_, limit, hyst) := m.limits p
    let forwarded := match w with | .peer _ => true | _ => false
    if v = 0 || forwarded then m.acceptNum w 0x3025 0 p 1 v
    else if (m.port p).fire.tempStop && m.allBelow p (limit - hyst) then
      let m1 := m.withStops (fun x => x.onFire p (fun f => { f with tempStop := false }))
      ((m1.sendVerdict (.headPolicy p 3 (m.queueNext (barOf p)))).record 0x0509 p (p32sat ((m.port p).fire.tempMax.getD (-32768)))).acceptNum
        w 0x3025 0 p 1 v
    else m.reply w 0x3025 0 .notReady)

end Sys2Proof.Machine
end

