-- ==== Sys2Proof/Machine/Bus.lean ====
section
/-! DEFINITION. The sensor control bus of a camera port: scripts, groups, pauses, and what follows when all is written (R260,
R262 to R264, R277 to R279). -/

namespace Sys2Proof.Machine

/-- All four cameras. -/
def allCams : List Nat := [0, 1, 2, 3]

/-- CAM_PORT_CONFIG of a camera. -/
def Mach.camCfg (m : Mach) (c : Nat) : Nat := m.nat 0x6001 0 c

/-- The port is in use (ENABLE). -/
def Mach.camEnabled (m : Mach) (c : Nat) : Bool := bit (m.camCfg c) 46

/-- The entries of a script: register and value; register 0xFFFF is a pause of that value in us (R263). -/
def scriptOf (b : Bytes) : List BusXfer :=
  (List.range (b.length / 4)).map (fun i =>
    { reg := bits (leAt b (4 * i) 4) 16 16, value := bits (leAt b (4 * i) 4) 0 16, read := false })

/-- An exposure set as one group: HOLD_ON, the writes, HOLD_OFF (R277). -/
def Mach.group (m : Mach) (c : Nat) (s : ExpSet) : List BusXfer :=
  let hold := fun sub => if m.nat 0x6002 5 c = 0xFFFF then [] else
    [({ reg := m.nat 0x6002 5 c, value := m.nat 0x6002 sub c, read := false } : BusXfer)]
  hold 6 ++ s.writes.map (fun w => { reg := w.1, value := w.2, read := false }) ++ hold 7

/-- A camera falls due for a calibration (R598); the cause is that of CAL_CAM_STARTED. -/
def Cam.fallDue (x : Cam) (cause : Nat) : Cam :=
  if x.calState = 2 || x.calState = 3 then x else { x with calState := 2, due := some cause }

/-- A camera start completes (R264): the port runs, and falls due where it holds no valid calibration (R598). -/
def Mach.camStarted (m : Mach) (c : Nat) : Mach :=
  m.onCam c (fun x => if bit (m.nat 0xE011 (c + 1) 0) 0 && (ffind m.store.camCal c).isNone then { x.fallDue 2 with phase := 2 } else { x with phase := 2 })

/-- All transfers of the bus are done: a start ends, a commit completes, or a rewrite completes (R264, R277, R279). -/
def Mach.busDone (m : Mach) (c : Nat) : Mach :=
  match (m.cam c).busKind with
  | 0 => m.camStarted c
  | 1 => m.onCam c (fun x => { x with expState := 2, readyAt := m.now, effectFrame := none })
  | _ => m.onCam c (fun x => { x with uncertainLeft := 2 })

/-- A transfer as it goes to the sensor at BUS_ADDR and BUS_SPEED (R262): the register address and, for a write, the value, of
ADDR_BYTES and DATA_BYTES bytes, the most significant first. -/
def Mach.busOut (m : Mach) (c : Nat) (b : BusXfer) : Out :=
  .camBus c (m.nat 0x6002 1 c) (m.nat 0x6002 2 c)
    (beBytes (m.nat 0x6002 3 c) b.reg ++ (if b.read then [] else beBytes (m.nat 0x6002 4 c) b.value)) b.read

/-- The next transfer leaves, or the next pause begins (R263). -/
def Mach.busNext (m : Mach) (c : Nat) : Mach :=
  match (m.cam c).bus with
  | [] => (m.onCam c (fun x => { x with pauseTill := none })).busDone c
  | b :: rest =>
    if b.reg = 0xFFFF then m.onCam c (fun x => { x with bus := rest, pauseTill := some (m.now + b.value * 1000) })
    else (m.onCam c (fun x => { x with pauseTill := none })).emit (m.busOut c b)

/-- Transfers of a kind begin. -/
def Mach.busStart (m : Mach) (c kind : Nat) (l : List BusXfer) : Mach :=
  (m.onCam c (fun x => { x with bus := l, busKind := kind })).busNext c

end Sys2Proof.Machine
end

