-- ==== Sys2Proof/Machine/Act.lean ====
section
/-! DEFINITION. The time that passes before a command, with what leaves on the lanes meanwhile, the frame in which every
command acts, and the commands of the families above. -/

namespace Sys2Proof.Machine

/-! ### Time passes (R185, R187, R202) -/

/-- Nothing waits for a lane, no FIRE that has left awaits its frontier, and no start-up script pauses. -/
def Mach.lanesIdle (m : Mach) : Bool :=
  m.ports.all (fun p => p.2.tx.queue.isEmpty && !p.2.tx.sleepAfter) && m.cams.all (fun c => c.2.pauseTill.isNone)
    && allBars.all (fun k => decide (m.queueNext k ≤ m.fireNext k))

/-- The earlier of two moments. -/
def sooner (best : Option Nat) (t : Nat) : Option Nat :=
  match best with
  | none => some t
  | some b => some (min b t)

/-- The first moment from now on at which a port whose queue is not empty finds its lane free, or a pause ends. -/
def Mach.nextDeparture (m : Mach) : Option Nat :=
  let lanes := m.ports.foldl (fun best p =>
    if p.2.tx.queue.isEmpty && !p.2.tx.sleepAfter then best else sooner best (max m.now p.2.tx.freeAt)) none
  m.cams.foldl (fun best c => match c.2.pauseTill with | some t => sooner best (max m.now t) | none => best) lanes

/-- Every bar's fired frontier follows the FIREs that have left (R87). -/
def Mach.settleAllFired (m : Mach) : Mach :=
  forEach allBars m (fun k acc => acc.settleFired k (acc.queueNext k - acc.fireNext k))

/-- A camera port's pause ends (R263). -/
def Mach.pauseOver (m : Mach) (c : Nat) : Mach :=
  match (m.cam c).pauseTill with
  | some t => if t ≤ m.now then m.busNext c else m
  | none => m

/-- What leaves at a moment: the frames that can, with the fired frontiers after them, and the transfers after a pause. -/
def Mach.departAt (m : Mach) (t : Nat) : Mach :=
  let m1 := Mach.settleAllFired (m.ports.foldl (fun acc p => acc.leave p.1) { m with now := t })
  forEach allCams m1 (fun c acc => acc.pauseOver c)

/-- The departures up to a moment, in order of time, at most `fuel` of them. -/
def Mach.drain (until_ : Nat) : Nat → Mach → Mach
  | 0, m => m
  | fuel + 1, m =>
    match m.nextDeparture with
    | none => m
    | some t => if t ≤ until_ then (m.departAt t).drain until_ fuel else m

/-- The machine that a command finds: every command comes dt nanoseconds after the one before it (log entry 1). What waits
on the lanes leaves meanwhile, and the camera buses go on after their pauses (R263): both stand in `out` before what the command
puts there. -/
def tick (dt : Nat) (m : Mach) : Mach :=
  if m.lanesIdle then { m with now := m.now + dt, out := [] }
  else
    let fuel := 8192 + sumOf (m.ports.map (fun p => p.2.tx.queue.length))
    { (Mach.settleAllFired (({ m with out := [] } : Mach).drain (m.now + dt) fuel)) with now := m.now + dt }

/-- A command that acts on the machine alone: job memory and the queue stay. -/
def State.act (s : State) (dt : Nat) (f : Mach → Mach) : Res := .next { s with m := f (tick dt s.m) }

/-- A command that names a unit: one that the module does not have stops the run (R19, R20). -/
def State.actUnit (s : State) (dt : Nat) (name : String) (n limit : Nat) (f : Mach → Mach) : Res :=
  if n < limit then s.act dt f else .fault (.noSuchUnit name n)

/-- A command that names two units. -/
def State.actUnits (s : State) (dt : Nat) (name₁ : String) (n₁ limit₁ : Nat) (name₂ : String) (n₂ limit₂ : Nat)
    (f : Mach → Mach) : Res :=
  if n₁ < limit₁ then s.actUnit dt name₂ n₂ limit₂ f else .fault (.noSuchUnit name₁ n₁)

/-! ### Commands of the chapters on lines, composing and firing -/

/-- PSO_PULSE_END (R71): the output returns to its held level when the width has passed. -/
def execPsoPulseEnd (dt n : Nat) (s : State) : Res :=
  s.actUnit dt "PSO output" n 16 (fun m =>
    match (m.pso n).pulseEnd with
    | some t => if t ≤ m.now then m.onPso n (fun p => { p with pulseEnd := none }) else m
    | none => m)

/-- PSO_SCHEDULE. -/
def execPsoSchedule (dt sid n v : Nat) (s : State) : Res :=
  s.act dt (fun m => m.writePsoSchedule (.host sid) n v)

/-- FRC_CODING_DONE. -/
def execFrcCodingDone (dt : Nat) (disagree : List (Nat × Nat)) (s : State) : Res :=
  s.act dt (fun m => m.codingDone disagree)

/-- FRC_VERIFY_DONE. -/
def execFrcVerifyDone (dt handle : Nat) (s : State) : Res := s.act dt (fun m => m.verifyDone handle)

/-- CONTENT_RELEASE. -/
def execContentRelease (dt sid handle : Nat) (s : State) : Res :=
  s.act dt (fun m => m.writeContentRelease (.host sid) handle)

/-- LAYER_CONFIG_WRITE. -/
def execLayerConfigWrite (dt sid sub : Nat) (data : Bytes) (s : State) : Res :=
  s.act dt (fun m => m.writeLayerConfig (.host sid) sub data)

/-- JOB_CONFIG_WRITE. -/
def execJobConfigWrite (dt sid sub : Nat) (data : Bytes) (s : State) : Res :=
  s.act dt (fun m => m.writeJobConfig (.host sid) sub data)

/-- LAYER_POST. -/
def execLayerPost (dt sid layer job frame content : Nat) (s : State) : Res :=
  s.act dt (fun m => m.writeLayerPost (.host sid) layer job frame content)

/-- NOZZLE_EDIT. -/
def execNozzleEdit (dt sid v : Nat) (s : State) : Res := s.act dt (fun m => m.writeNozzleEdit (.host sid) v)

/-- COMPOSE_LINE. -/
def execComposeLine (dt bar took : Nat) (s : State) : Res := s.actUnit dt "bar" bar 8 (fun m => m.composeLine bar took)

/-- LINE_SEND. -/
def execLineSend (dt port : Nat) (s : State) : Res := s.actUnit dt "port" port 64 (fun m => m.lineSend port)

/-- FIRE_SEND. -/
def execFireSend (dt bar : Nat) (s : State) : Res := s.actUnit dt "bar" bar 8 (fun m => m.fireSend bar)

/-- GATE_INHIBIT. -/
def execGateInhibit (dt k : Nat) (s : State) : Res := s.actUnit dt "gating input" k 10 (fun m => m.gateInhibit k)

/-- GATE_INPUT_INACTIVE (R251, R254): the latch stays. -/
def execGateInputInactive (dt k : Nat) (s : State) : Res :=
  s.actUnit dt "gating input" k 10 (fun m => { m with gate := { m.gate with present := setBit m.gate.present k false } })

/-- GATE_CLEAR. -/
def execGateClear (dt sid v : Nat) (s : State) : Res := s.act dt (fun m => m.writeGateClear (.host sid) v)

/-- HEAD_REENABLE. -/
def execHeadReenable (dt sid v : Nat) (s : State) : Res := s.act dt (fun m => m.writeHeadReenable (.host sid) v)

end Sys2Proof.Machine
end

