-- ==== Sys2Proof/Machine/Link.lean ====
section
/-! DEFINITION. The bar link: training, delay, link time, acknowledgements, configuration, STATUS and head temperatures
(R183 to R228, R244 to R249). Commands that other chapters take part in are completed in Pair and Modes. -/

namespace Sys2Proof.Machine

/-- ROLE of LIVENESS (R199); a role without a code of its own sends COLD_STANDBY (log entry 24). -/
def Mach.liveRole (m : Mach) : Nat := if m.pair.role ≤ 3 then m.pair.role else 3

/-! ### Training (R188 to R190) -/

/-- Training starts at step 1 (R189) with the LINK_EQ of that moment (R222): numbering starts from 0, and nothing sent or
received before counts any more. FIREs that wait for the lane do not leave (R190). HOLDER and TIME_VALID stay as the endpoint
last reported them (R221), and a STOP or RESUME that is not acknowledged stays due (R207). -/
def Mach.startTraining (m0 : Mach) (p : Nat) : Mach :=
  let unsent := (m0.port p).fire.fires.filter (fun x => !x.left)
  let m := unsent.foldl (fun acc x => (acc.linkCount p 4 1).notFired p x.event (2 ^ 7)) m0
  (m.onPort p (fun x => { x with
    link := { x.link with
      phase := .ts1, startedAt := m.now, heard := false, ts1Run := 0, rxLocked := false, eqTried := 0, eqBest := 0
      eqBestStep := 0, eqDone := false, peerEqDone := false, ts2Run := 0, badSymbols := [], measuring := false
      exchange := none, samples := [], rxIdle := false, txIdle := false, eqConfig := m.nat 0x3041 0 p }
    tx := { x.tx with
      txSeq := 0, rxSeq := 0, rxLast := none, rxMissing := [], ackAt := m.now, unacked := [], taken := [], queue := [], freeAt := m.now
      sending := none, sleepAfter := false, token := false, claim := none, enumerated := false, cfgQueue := [], applyAt := [] }
    fire := { x.fire with
      lines := [], nextLine := m.queueNext (barOf p), fires := x.fire.fires.filter (fun f => f.left), firing := x.fire.firing && unsent.isEmpty } })).sendSet p 1

/-- The port retrains (R190), with LINK_DOWN's cause and the attempt. -/
def Mach.retrain (m : Mach) (p cause : Nat) : Mach :=
  ((m.recordAt 0x0402 (p + 256 * cause) (m.port p).link.failures m.webLine).linkCount p 5 1).startTraining p

/-- What a TS1 does to the receiver of a port that trains (R189 steps 2 and 3): the first one starts the clock of the steps,
eight in a row without error lock the receiver. One of another version counts as one with an error (log entry 84). -/
def heardTs1 (now : Nat) (o : OrderedSet) (good : Bool) (l : Link) : Link :=
  let ok := good && o.version = 1
  if l.phase = .ts1 || l.phase = .lock then
    let run := if ok then l.ts1Run + 1 else 0
    let l1 := { l with phase := .lock, ts1Run := run, inverted := o.inverted, peerEqDone := l.peerEqDone || (ok && o.eqDone)
                       heard := true, startedAt := if l.heard then l.startedAt else now }
    if run < 8 then l1
    else if bit l.eqConfig 4 then { l1 with rxLocked := true, phase := .eq, eqStep := bits l.eqConfig 0 4, eqDone := true, eqSince := now }
    else { l1 with rxLocked := true, phase := .eq, eqStep := 0, eqSince := now }
  else if l.phase = .eq then { l with peerEqDone := l.peerEqDone || (ok && o.eqDone) }
  else l

/-- The training set that a port sends follows its receiver's bits and step (R188): it goes out again where they change. -/
def Mach.showTraining (m : Mach) (p : Nat) (old : Link) : Mach :=
  let l := (m.port p).link
  if l.rxLocked = old.rxLocked && l.inverted = old.inverted && l.eqDone = old.eqDone && l.eqStep = old.eqStep then m
  else m.sendSet p 1

/-- Change what a training port has found out, and show it. -/
def Mach.trained (m : Mach) (p : Nat) (f : Link → Link) : Mach := (m.onLink p f).showTraining p (m.port p).link

/-- TS1_RECEIVED. -/
def Mach.ts1 (m : Mach) (p : Nat) (o : OrderedSet) (good : Bool) : Mach := m.trained p (heardTs1 m.now o good)

/-- With both ends' adaptation done, the port sends TS2 (R189 step 4). -/
def Mach.toConfig (m : Mach) (p : Nat) : Mach :=
  let l := (m.port p).link
  if l.phase = .eq && l.eqDone && l.peerEqDone then (m.onLink p (fun l => { l with phase := .config })).sendSet p 2 else m

/-- TS1_RECEIVED. -/
def execTs1Received (dt port : Nat) (o : OrderedSet) (good : Bool) (s : State) : Res :=
  s.actUnit dt "port" port 64 (fun m => (m.ts1 port o good).toConfig port)

/-- EQ_STEP_TIMER (R189): each step is held for 0.5 ms; the widest eye wins, the lowest step on a tie. -/
def Mach.eqStep (m : Mach) (p eye : Nat) : Mach :=
  (m.trained p (fun l =>
    if l.phase = .eq && !l.eqDone && decide (l.eqSince + 500000 ≤ m.now) then
      let better := l.eqTried = 0 || decide (l.eqBest < eye)
      let l1 := { l with eqBest := if better then eye else l.eqBest, eqBestStep := if better then l.eqStep else l.eqBestStep
                         eqTried := l.eqTried + 1, eqSince := m.now }
      if l.eqTried = 15 then { l1 with eqStep := l1.eqBestStep, eqDone := true } else { l1 with eqStep := l.eqStep + 1 }
    else l)).toConfig p

/-- EQ_STEP_TIMER. -/
def execEqStepTimer (dt port eye : Nat) (s : State) : Res := s.actUnit dt "port" port 64 (fun m => m.eqStep port eye)

/-- A measurement of the delay starts, with the LINK_ASYM of that moment (R195, R223). -/
def Mach.startMeasure (m : Mach) (p : Nat) : Mach :=
  m.onLink p (fun l => { l with measuring := true, samples := [], exchange := none, exchangeDue := m.now, asym := m.num 0x3043 0 p })

/-- TS2_RECEIVED (R189 step 4): a side that does not match is refused, and LINK_WIRING holds the value received, which is side
and module ID in one (R188); eight in a row end the step and the delay is measured. Log entry 84: a TS2 that comes while the
module still adapts says that the endpoint has adapted; one with another version or LINK only starts the eight again. -/
def Mach.ts2 (m : Mach) (p : Nat) (o : OrderedSet) : Mach :=
  let l := (m.port p).link
  if l.phase = .eq then (m.onLink p (fun l => { l with peerEqDone := true })).toConfig p
  else if l.phase != .config then m
  else if o.side != m.moduleId then
    (m.record 0x040C (p + 256 * o.side) o.side).onLink p (fun l => { l with ts2Run := 0 })
  else if o.link != p || o.version != 1 then m.onLink p (fun l => { l with ts2Run := 0 })
  else if l.ts2Run < 7 then m.onLink p (fun l => { l with ts2Run := l.ts2Run + 1 })
  else ((m.onLink p (fun l => { l with phase := .delay, ts2Run := 8 })).startMeasure p).sendSet p 3

/-- TS2_RECEIVED. -/
def execTs2Received (dt port : Nat) (o : OrderedSet) (s : State) : Res :=
  s.actUnit dt "port" port 64 (fun m => m.ts2 port o)

/-- The bound of the training step a port is in, in ns (R189). The clock starts at the first TS1 received, and before it at the
module's own first one (log entry 84). -/
def stepBound : LinkPhase → Option Nat
  | .ts1 | .lock => some 2000000
  | .eq => some 14000000
  | .config => some 15000000
  | .delay => some 16000000
  | _ => none

/-- TRAIN_TIMEOUT (R189): training restarts, and after three failures in a row the port stays DOWN. -/
def Mach.trainTimeout (m : Mach) (p : Nat) : Mach :=
  let l := (m.port p).link
  match stepBound l.phase with
  | none => m
  | some b =>
    if l.startedAt + b ≤ m.now then
      let m1 := (m.onLink p (fun l => { l with failures := l.failures + 1 })).recordAt 0x0402 (p + 512) (l.failures + 1) m.webLine
      if 3 ≤ l.failures + 1 then m1.onLink p (fun l => { l with phase := .down, measuring := false }) else m1.startTraining p
    else m

/-- LOCK_LOST (R190). -/
def execLockLost (dt port : Nat) (s : State) : Res :=
  s.actUnit dt "port" port 64 (fun m => if m.linkUp port then m.retrain port 0 else m)

/-- RX_INVALID_SYMBOL (R190): four within any 64 received symbols make the port retrain. -/
def Mach.invalidSymbol (m : Mach) (p gap : Nat) : Mach :=
  let gaps := (m.port p).link.badSymbols ++ [gap]
  let last3 := gaps.drop (gaps.length - 3)
  if m.linkUp p then
    if last3.length = 3 && decide (sumOf last3 < 64) then m.retrain p 1
    else m.onLink p (fun l => { l with badSymbols := last3 })
  else m

/-- RX_INVALID_SYMBOL. -/
def execRxInvalidSymbol (dt port gap : Nat) (s : State) : Res :=
  s.actUnit dt "port" port 64 (fun m => m.invalidSymbol port gap)

/-- A write of LINK_RETRAIN (R225): the selected port trains anew, after failures too (R189). -/
def Mach.writeLinkRetrain (m : Mach) (w : Who) (v : Nat) : Mach :=
  m.guardedNum w 0x3045 0 v (fun m =>
    let p := m.instOf w .port
    let m1 := if v = 1 then ((m.onLink p (fun l => { l with failures := 0 })).linkCount p 5 1).startTraining p else m
    m1.acceptNum w 0x3045 0 p 1 v)

/-- LINK_RETRAIN. -/
def execLinkRetrain (dt sid v : Nat) (s : State) : Res := s.act dt (fun m => m.writeLinkRetrain (.host sid) v)

/-- A write of REF_CONFIG (R183, R226): the REFOUT outputs follow, and every port retrains. -/
def Mach.writeRefConfig (m : Mach) (w : Who) (v : Nat) : Mach :=
  m.guardedNum w 0x3101 0 v (fun m =>
    if m.paired && bits v 8 2 = 0 then m.reply w 0x3101 0 .outOfRange
    else
      let m0 := m.setNum 0x3101 0 0 v
      let m1 := m0.emit (.refOut m0.refOutputs)
      (forEach allPorts m1 (fun p acc => ((acc.onLink p (fun l => { l with failures := 0 })).linkCount p 5 1).startTraining p)).acceptNum
        w 0x3101 0 0 2 v)

/-- REF_CONFIG_WRITE. -/
def execRefConfigWrite (dt sid v : Nat) (s : State) : Res := s.act dt (fun m => m.writeRefConfig (.host sid) v)

/-! ### Tokens and sleep (R187, R217, R450) -/

/-- Claim a port's token: KIND 0 INITIAL, 1 TAKEOVER, 2 RECLAIM. -/
def Mach.claim (m : Mach) (p kind : Nat) : Mach :=
  (m.sendPlain p (.tokenClaim kind m.moduleId)).onTx p (fun t => { t with claim := some (kind, m.now, 0) })

/-- Release a port's token. -/
def Mach.releaseToken (m : Mach) (p : Nat) : Mach :=
  if (m.port p).tx.token then (m.sendPlain p .tokenRelease).onTx p (fun t => { t with token := false, claim := none })
  else m.onTx p (fun t => { t with claim := none })

/-- The claim that a port's becoming ACTIVE calls for (R217, R450). -/
def Mach.claimOnActive (m : Mach) (p : Nat) : Mach :=
  if m.pair.role = 0 then m.claim p 0
  else if m.pair.role = 1 then
    let first := fget m.pair.claims p 0 = 0
    (({ m with pair := { m.pair with claims := fset m.pair.claims p 1 } } : Mach)).claim p (if first then 0 else 2)
  else m

/-- A port goes to sleep while LINK_SLEEP is 1 in IDLE (R187): it releases its token, and EIOS follows the frames that wait. -/
def Mach.sleepPort (m : Mach) (p : Nat) : Mach :=
  ((m.releaseToken p).onTx p (fun t => { t with sleepAfter := true })).leave p

/-- LINK_SLEEP acts: it is 1 and the mode is IDLE (R187). -/
def Mach.sleeps (m : Mach) : Bool := m.nat 0x3102 0 0 = 1 && m.sys.mode = .idle

/-- The ports that have been enumerated go to sleep; the others follow at the end of their enumeration. -/
def Mach.sleepPorts (m : Mach) : Mach :=
  (m.activePorts.filter (fun p => (m.port p).tx.enumerated)).foldl (fun acc p => acc.sleepPort p) m

/-- A port wakes (R186, R187): a wake burst, then IDLE for 1 us after which the first frame may start; the token is claimed
again. STATUS is awaited anew (log entry 84). A port that was about to sleep stays awake. -/
def Mach.wakePort (m : Mach) (p : Nat) : Mach :=
  if (m.port p).link.phase = .sleep then
    ((((m.sendSet p 5).sendSet p 3).onPort p (fun x => { x with
      link := { x.link with phase := .active, txIdle := false }
      tx := { x.tx with freeAt := m.now + 103 + 1000 }
      fire := { x.fire with statusAt := m.linkTime } }))).claimOnActive p
  else if (m.port p).tx.sleepAfter then (m.onTx p (fun t => { t with sleepAfter := false })).claimOnActive p
  else m

/-- Every port that sleeps wakes. -/
def Mach.wakePorts (m : Mach) : Mach := forEach allPorts m (fun p acc => acc.wakePort p)

/-- A write of LINK_SLEEP (R187). -/
def Mach.writeLinkSleep (m : Mach) (w : Who) (v : Nat) : Mach :=
  m.guardedNum w 0x3102 0 v (fun m =>
    if v = 1 && m.paired then m.reply w 0x3102 0 .outOfRange
    else
      let m1 := m.setNum 0x3102 0 0 v
      let m2 := if m1.sleeps then m1.sleepPorts else if v = 0 then m1.wakePorts else m1
      m2.acceptNum w 0x3102 0 0 1 v)

/-- LINK_SLEEP. -/
def execLinkSleep (dt sid v : Nat) (s : State) : Res := s.act dt (fun m => m.writeLinkSleep (.host sid) v)

/-- EIOS_RECEIVED (R186): the endpoint's transmitter idles. -/
def execEiosReceived (dt port : Nat) (s : State) : Res :=
  s.actUnit dt "port" port 64 (fun m => m.onLink port (fun l => { l with rxIdle := true }))

/-- WAKE_BURST_RECEIVED (R186). -/
def execWakeBurstReceived (dt port : Nat) (s : State) : Res :=
  s.actUnit dt "port" port 64 (fun m => m.onLink port (fun l => { l with rxIdle := false }))

/-! ### Delay and the regular frames (R191 to R195, R205) -/

/-- TIME_SYNC_TIMER (R192): every 1 ms on every ACTIVE port; a new DELAY is carried in steps of at most 1 ns (R195). LINK_TIME
is set as the frame leaves. -/
def Mach.timeSync (m : Mach) : Mach :=
  if m.gate.syncAt + 1000000 ≤ m.now then
    m.activePorts.foldl (fun acc p =>
      let l := (acc.port p).link
      let d := if l.delay ≤ l.delayTarget then min l.delayTarget (l.delay + 16) else max l.delayTarget (l.delay - 16)
      (acc.onLink p (fun l => { l with delay := d })).sendPlain p (.timeSync acc.linkTime d false))
      { m with gate := { m.gate with syncAt := m.now } }
  else m

/-- A cumulative ACK (R199, R206): the highest SEQ received, and of the 32 before it those not received. Before any SEQ has
been received none is sent (log entry 84). -/
def Mach.sendAck (m : Mach) (p : Nat) : Mach :=
  let t := (m.port p).tx
  match t.rxLast with
  | none => m
  | some last =>
    let mask := (List.range 32).foldl (fun v i => if t.rxMissing.contains ((last + 65535 - i) % 65536) then setBit v i true else v) 0
    (m.sendPlain p (.ack last mask)).onTx p (fun t => { t with ackAt := m.now })

/-- LIVENESS_TIMER (R205): every 5 us on every ACTIVE port; an ACK goes with it where the next one would come more than
100 us after the last (R206). -/
def Mach.liveness (m : Mach) : Mach :=
  if m.gate.liveAt + 5000 ≤ m.now then
    m.activePorts.foldl (fun acc p =>
      let acc1 := (acc.sendPlain p (.liveness acc.liveRole acc.moduleId (acc.port p).tx.liveCount)).onTx p (fun t => { t with
        liveCount := (t.liveCount + 1) % 2 ^ 32 })
      if (acc1.port p).tx.ackAt + 95000 ≤ m.now then acc1.sendAck p else acc1)
      { m with gate := { m.gate with liveAt := m.now } }
  else m

/-- LIVENESS_TIMER. -/
def execLivenessTimer (dt : Nat) (s : State) : Res := s.act dt (fun m => m.liveness)

/-- Due ports are measured one at a time, lowest first (R604). -/
def Mach.nextMeasure (m : Mach) : Mach :=
  if m.activePorts.any (fun p => (m.port p).link.measuring) then m
  else match m.activePorts.filter (fun p => (m.port p).link.due) with
    | [] => m
    | p :: _ => m.startMeasure p

/-- DELAY_EXCHANGE (R195, R604): one TIME_SYNC with ECHO, spaced 50 us apart in ACTIVE; t1 is set as its SOF leaves. -/
def Mach.delayExchange (m0 : Mach) (p : Nat) : Mach :=
  let m := m0.nextMeasure
  let l := (m.port p).link
  if l.measuring && l.exchange.isNone && decide (l.exchangeDue ≤ m.now) then
    (m.onLink p (fun l => { l with
      exchange := some m.linkTime, exchangeDue := if l.phase = .active then m.now + 50000 else m.now })).sendPlain p
      (.timeSync m.linkTime l.delay true)
  else m

/-- DELAY_EXCHANGE. -/
def execDelayExchange (dt port : Nat) (s : State) : Res := s.actUnit dt "port" port 64 (fun m => m.delayExchange port)

/-- Insert into a rising list. -/
def insertInt : List Int → Int → List Int
  | [], x => [x]
  | h :: t, x => if x ≤ h then x :: h :: t else h :: insertInt t x

/-- The twelve values kept of sixteen (R195). -/
def kept12 (l : List Int) : List Int := ((l.foldl insertInt []).drop 2).take 12

/-- The average of the twelve, rounded to the nearest 1/16 ns (log entry 25). -/
def average12 (l : List Int) : Int := roundDiv (l.foldl (· + ·) 0) 12

/-- The firing objects that enumeration writes (R219, R231): what the port's next event fires with, then with APPLY_AT each
seam that has already entered the horizon of its bar. -/
def Mach.firingEntries (m : Mach) (p : Nat) : List (Nat × Option Bytes × Option Nat) :=
  let k := barOf p
  let at_ := fun (w : Nat) => if m.enc.origin.isSome then m.rsNat 0x3020 0 p w else (m.effNum 0x3020 0 p).toNat
  let e := m.queueNext k
  let later := ((m.seams.vals.filter (fun v => m.enc.origin.isSome && bit v.scope 2 && decide (e < v.applied)
    && decide (v.applied < m.portNext k))).map (fun v => v.applied)).eraseDups
  timingEntries (at_ e) none ++ later.flatMap (fun w => timingChanges (at_ (w - 1)) (at_ w) (some w))

/-- Training ends (R189 step 6): the first regular TIME_SYNC leaves, the token is claimed, a STOP or RESUME that waits for its
acknowledgement is sent again, and enumeration begins (R207, R217, R219). The endpoint counts its late lines from here. -/
def Mach.becomeActive (m : Mach) (p : Nat) : Mach :=
  let l := (m.port p).link
  let m1 := (m.onPort p (fun x => { x with
    link := { x.link with phase := .active, failures := 0 }
    fire := { x.fire with
      statusAt := if x.fire.statusAt = 0 then m.linkTime else x.fire.statusAt
      missRun := [0, 0, 0, 0, 0, 0, 0, 0], lateLines := 0, excused := [], lastBlock := none } })).record
    0x0401 (p + 256 * l.eqStep) l.delay
  let m2 := (((m1.sendPlain p (.timeSync m1.linkTime l.delay false)).claimOnActive p)).inhibitAgain p
  m2.cfgAdd p ((0, none, none) :: m2.slotEntries p ++ m2.firingEntries p)

/-- Sixteen samples give DELAY (R195): at once in training, carried in steps in ACTIVE. -/
def Mach.delayDone (m : Mach) (p : Nat) : Mach :=
  let l := (m.port p).link
  let kept := kept12 l.samples
  let d := (average12 kept + l.asym).toNat
  let spread := ((kept.getLast?.getD 0) - kept.headD 0).toNat
  let m1 := (m.onLink p (fun l => { l with
    measuring := false, due := false, samples := [], spread := min 65535 spread, delayTarget := d
    delay := if l.phase = .delay then d else l.delay
    temp := m.power.tjMain.getD 0, measuredAt := m.linkTime })).record 0x0408 (p + 256 * spread) d
  if l.phase = .delay then m1.becomeActive p else m1

/-- One delay sample (R195): half the round trip in 1/16 ns. -/
def Mach.delaySample (m : Mach) (p t2 t3 : Nat) : Mach :=
  match (m.port p).link.exchange with
  | none => m
  | some t1 =>
    let d : Int := 8 * (((m.linkTime : Int) - t1) - ((t3 : Int) - t2))
    let m1 := m.onLink p (fun l => { l with exchange := none, samples := l.samples ++ [d] })
    if (m1.port p).link.samples.length = 16 then m1.delayDone p else m1

/-! ### Acknowledgements and losses (R206, R207) -/

/-- How far a sequence number lies behind another, modulo 65,536. -/
def seqBehind (last seq : Nat) : Nat := (last + 65536 - seq % 65536) % 65536

/-- An INHIBIT of an action waits for the lane or for its acknowledgement. -/
def Mach.inhibitWaits (m : Mach) (p action : Nat) : Bool :=
  let is := fun (f : Frame) => match f.body with | .inhibit a _ => a == action | _ => false
  (m.port p).tx.queue.any is || (m.port p).tx.unacked.any (fun u => is u.f)

/-- What an acknowledged frame ends: the wait for a STOP or a RESUME, when none of its action is left, and that for the answer
to a release (R207). -/
def Mach.frameAcked (m : Mach) (p : Nat) (f : Frame) : Mach :=
  match f.body with
  | .inhibit 0 _ => m.onFire p (fun x => { x with stopUnacked := x.stopUnacked && m.inhibitWaits p 0 })
  | .inhibit 1 _ => m.onFire p (fun x => { x with resumeKind := if m.inhibitWaits p 1 then x.resumeKind else none })
  | .tokenRelease => m.onTx p (fun t => { t with unacked := t.unacked.filter (fun u => u.f.body != .tokenRelease) })
  | _ => m

/-- A frame is the LINE of an event and generation that the port still has to fire. -/
def Mach.lineStands (m : Mach) (p : Nat) (f : Frame) : Bool :=
  bodyType f.body = 0x01 && (m.port p).fire.lines.any (fun l => f.event = some l.event && l.gen = f.gen)

/-- LAST_SEQ and LOST_MASK of an ACK: frames received are done, but a LINE may still be refused with BUFFER_FULL (R213);
frames named as lost are handled (R206, R207), and a RETIME that waited for its acknowledgement may follow (R238). -/
def Mach.ackUpTo (m : Mach) (p last mask : Nat) : Mach :=
  let u := (m.port p).tx.unacked
  let behind := fun (x : Unacked) => seqBehind last x.f.seq
  let lost := u.filter (fun x => decide (1 ≤ behind x) && decide (behind x ≤ 32) && bit mask (behind x - 1))
  let done := u.filter (fun x => decide (behind x < 32768) && !lost.contains x)
  let m1 := m.onTx p (fun t => { t with
    unacked := t.unacked.filter (fun x => !done.contains x)
    taken := (t.taken ++ done.map (fun x => x.f)).filter (fun f => m.lineStands p f) })
  let m2 := done.foldl (fun acc x => acc.frameAcked p x.f) m1
  (lost.foldl (fun acc x => acc.frameLost p x true) m2).retimePort p

/-- The SEQ numbers from one on that a receiver notes as missing: those within 32 of the highest received (R199). -/
def stillMissing (l : List Nat) (last : Option Nat) : List Nat :=
  match last with
  | none => l.drop (l.length - 32)
  | some s => l.filter (fun x => decide (seqBehind s x ≤ 32) || decide (32768 ≤ seqBehind s x))

/-- A header has arrived (R196, R206): numbers that it skips are named in a NAK with reason SEQ_GAP. A number that lies behind
what was expected skips nothing. -/
def Mach.headerSeq (m : Mach) (p seq : Nat) : Mach :=
  let t := (m.port p).tx
  let skipped := seqBehind seq t.rxSeq
  if skipped = 0 || 32768 ≤ skipped then m
  else
    let n := min 32 skipped
    let first := (seq + 65536 - n) % 65536
    (m.onTx p (fun t => { t with
      rxSeq := seq % 65536
      rxMissing := stillMissing (t.rxMissing ++ (List.range n).map (fun i => (first + i) % 65536)) t.rxLast })).sendPlain p
      (.nak t.rxSeq n 1)

/-- A sequenced frame has arrived (R206): a gap before it is named, and an ACK follows. -/
def Mach.received (m : Mach) (p seq : Nat) : Mach :=
  let m1 := m.headerSeq p seq
  (m1.onTx p (fun t =>
    let ahead := match t.rxLast with | none => true | some l => decide (seqBehind seq l < 32768)
    let last := if ahead then some (seq % 65536) else t.rxLast
    { t with rxSeq := if t.rxSeq = seq % 65536 then (seq + 1) % 65536 else t.rxSeq, rxLast := last
             rxMissing := stillMissing (t.rxMissing.filter (fun x => x != seq % 65536)) last })).sendAck p

/-- The port's receiver takes frames: in DELAY and in ACTIVE (R189). -/
def Mach.receives (m : Mach) (p : Nat) : Bool := (m.port p).link.phase = .delay || m.linkUp p

/-- ACK_CUMULATIVE. -/
def execAckCumulative (dt port : Nat) (lastSeq : Heard) (lostMask : Nat) (s : State) : Res :=
  s.actUnit dt "port" port 64 (fun m =>
    if m.receives port then (m.headerSeq port lastSeq.seq).ackUpTo port lastSeq.no lostMask else m)

/-- ACK_TIME_ECHO (R195). -/
def execAckTimeEcho (dt port t2 t3 : Nat) (lastSeq : Heard) (lostMask : Nat) (s : State) : Res :=
  s.actUnit dt "port" port 64 (fun m =>
    if m.receives port then ((m.headerSeq port lastSeq.seq).ackUpTo port lastSeq.no lostMask).delaySample port t2 t3 else m)

/-- The frames that a NAK names: sent ones that no ACK covers and, with reason BUFFER_FULL, LINEs that one covers (R206,
R213). -/
def Mach.nakNames (m : Mach) (p first missing reason : Nat) : List Unacked :=
  let t := (m.port p).tx
  let refused := if reason = 2 then t.taken.map (fun f => ({ f := f, sentAt := m.now, tries := 0 } : Unacked)) else []
  (t.unacked ++ refused).filter (fun x => decide (seqBehind x.f.seq first < missing))

/-- NAK_RECEIVED (R206, R207): a frame named by a NAK is lost; a number not yet sent is ignored, and a claim that is not
the holder's or wrongly wired is no lost frame. -/
def Mach.nak (m : Mach) (p first missing reason : Nat) : Mach :=
  if reason = 4 || reason = 5 then m
  else (m.nakNames p first missing reason).foldl (fun acc x => acc.frameLost p x true) m

/-- NAK_RECEIVED. -/
def execNakReceived (dt port : Nat) (first : Heard) (missing reason : Nat) (s : State) : Res :=
  s.actUnit dt "port" port 64 (fun m =>
    if m.receives port then (m.headerSeq port first.seq).nak port first.no missing reason else m)

/-- RX_FRAME_BAD (R185, R197, R198, R206): the frame is discarded and answered with a NAK that names the SEQ expected next; one
that fails R197 is counted. A frame without a fault is none of these. -/
def Mach.rxBad (m : Mach) (p : Nat) (bytes : Bytes) (symbolError : Bool) : Mach :=
  if m.receives p then
    match frameFault bytes symbolError with
    | none => m
    | some reason =>
      let m1 := if reason = 0 then
          ((m.linkCount p 1 1).onLink p (fun l => { l with
            badTimes := l.badTimes.filter (fun t => decide (m.now < t + 1000000000)) ++ [m.now] })).record 0x0403 p 1
        else m
      m1.sendPlain p (.nak (m.port p).tx.rxSeq 1 reason)
  else m

/-- RX_FRAME_BAD. -/
def execRxFrameBad (dt : Nat) (port : BadFrame) (s : State) : Res :=
  s.actUnit dt "port" port.port 64 (fun m => m.rxBad port.port port.bytes port.symbolError)

/-! ### Configuration answers (R219) -/

/-- A string without the 0x00 bytes that pad it (R218, R556). -/
def unpadded (b : Bytes) : Bytes := (b.reverse.dropWhile (fun x => x.toNat = 0)).reverse

/-- The identity that enumeration reads (R218, R225). -/
def Mach.learnEndpoint (m : Mach) (p : Nat) (d : Bytes) : Mach :=
  m.onTx p (fun t => { t with
    epInfo := [(1, leAt d 0 2), (2, leAt d 2 2), (3, leAt d 4 2), (4, leAt d 6 1), (5, leAt d 7 1), (6, leAt d 8 4),
      (7, leAt d 12 2), (8, leAt d 14 1)]
    epSerial := unpadded (slice d 16 16)
    slotSerials := (List.range 8).map (fun s => unpadded (slice d (32 + 16 * s) 16)) })

/-- The checks at the end of enumeration and of a slot's change (R219): each failure is an EP_MISMATCH. -/
def Mach.checkEndpoint (m : Mach) (p : Nat) : Mach :=
  let info := (m.port p).tx.epInfo
  let unfitted := (List.range 8).filter (fun s => slotOn (m.slot p s) && !bit (fget info 8 0) s)
  let m1 := unfitted.foldl (fun acc s => acc.record 0x0409 p s) m
  let latch := decide (4000 < fget info 6 0)
  let m2 := if latch then m1.record 0x0409 (p + 256) (fget info 6 0) else m1
  let few := decide (fget info 7 0 < 10)
  let m3 := if few then m2.record 0x0409 (p + 512) (fget info 7 0) else m2
  m3.onTx p (fun t => { t with enumerated := true, rewrite := false, mismatch := !unfitted.isEmpty || latch || few })

/-- A configuration answer (R219) ends its request; the last one ends enumeration, after which a port may sleep (R187). -/
def Mach.cfgReply (m : Mach) (p : Nat) (write : Bool) (addr result : Nat) (data : Bytes) : Mach :=
  let hit := fun (r : CfgReq) => r.addr == addr && r.data.isSome == write
  match firstWhere hit (m.port p).tx.cfgQueue with
  | none => m
  | some r =>
    let m1 := m.onTx p (fun t => { t with
      cfgQueue := t.cfgQueue.erase r
      applyAt := match r.event with | some e => t.applyAt.erase (addr, e) | none => t.applyAt })
    let m2 := if !write && result = 0 then m1.learnEndpoint p data else m1
    if !(m2.port p).tx.cfgQueue.isEmpty then m2
    else if (m2.port p).tx.enumerated then m2.onTx p (fun t => { t with rewrite := false })
    else
      let m3 := m2.checkEndpoint p
      if m3.sleeps then m3.sleepPort p else m3

/-- CFG_TIMEOUT (R207): a request is resent after 1 ms without an answer, up to three times, and then the port retrains. -/
def Mach.cfgTimeout (m : Mach) (p : Nat) : Mach :=
  let waits := fun (r : CfgReq) => (m.port p).tx.queue.any (fun f => f.body = cfgBody r.addr r.data && f.event = r.event)
  match firstWhere (fun r => decide (r.sentAt + 1000000 ≤ m.now) && !waits r) (m.port p).tx.cfgQueue with
  | none => m
  | some r =>
    if r.tries < 3 then
      let f : Frame := { body := cfgBody r.addr r.data, seq := r.seq, event := r.event, gen := 0, resend := true, applyAt := r.event.isSome }
      (m.resend p f).onTx p (fun t => { t with
        cfgQueue := t.cfgQueue.map (fun x => if x = r then { x with sentAt := m.now, tries := x.tries + 1 } else x) })
    else m.retrain p 3

/-- CFG_TIMEOUT. -/
def execCfgTimeout (dt port : Nat) (s : State) : Res := s.actUnit dt "port" port 64 (fun m => m.cfgTimeout port)

/-- An accepted change of a slot of an ACTIVE port is written to its endpoint, and checked, before its next LINE (R219). -/
def Mach.rewriteSlots (m : Mach) (p : Nat) : Mach :=
  if m.linkUp p then
    let m1 := if (m.port p).tx.enumerated then m.checkEndpoint p else m
    (m1.onTx p (fun t => { t with rewrite := true })).cfgAdd p (m.slotEntries p)
  else m

/-- A write of HEAD_SLOT of the selected port (R174). -/
def Mach.writeHeadSlot (m : Mach) (w : Who) (slot v : Nat) : Mach :=
  m.guardedNum w 0x3010 (slot + 1) v (fun m =>
    let p := m.instOf w .port
    let m1 := m.setNum 0x3010 (slot + 1) p v
    if slotsFit (m1.slots p) && m1.staggerFits (m1.nat 0x2010 0 0) then
      (m1.rewriteSlots p).acceptNum w 0x3010 (slot + 1) p 8 v
    else m.reply w 0x3010 (slot + 1) .outOfRange)

/-- HEAD_SLOT_WRITE. -/
def execHeadSlotWrite (dt sid slot v : Nat) (s : State) : Res :=
  s.act dt (fun m => m.writeHeadSlot (.host sid) slot v)

/-! ### STATUS (R200, R201, R241, R244 to R249) -/

/-- The first event of a port that a stop decided now keeps from being fired (R247, R249). -/
def Mach.firstStopped (m : Mach) (p : Nat) : Nat :=
  match firstWhere (fun (x : FireRec) => decide (m.linkTime < x.time)) (m.port p).fire.fires with
  | some x => x.event
  | none => m.queueNext (barOf p)

/-- Decide cap and stop on a port's readings by slot (R246, R247, R249); of several highest readings the record names the
highest slot (log entry 84). -/
def Mach.judgeTemps (m : Mach) (p : Nat) (readings : List (Nat × Int)) : Mach :=
  match readings with
  | [] => m
  | (s0, t0) :: rest =>
    let top := rest.foldl (fun best r => if best.2 ≤ r.2 then r else best) (s0, t0)
    let (warn, limit, hyst) := m.limits p
    let f := (m.port p).fire
    let where_ := p + 256 * top.1
    if !m.decides then m
    else
      let m1 :=
        if warn ≤ top.2 && !f.tempCap then
          ((m.applyPolicy p 0).record 0x0505 where_ (p32sat top.2)).sendVerdict (.headPolicy p 0 (m.nextLineOf p))
        else if f.tempCap && top.2 < warn - hyst then
          ((m.applyPolicy p 1).record 0x0508 p (p32sat top.2)).sendVerdict (.headPolicy p 1 (m.nextLineOf p))
        else m
      if limit ≤ top.2 && !f.tempStop then
        (((m1.applyPolicy p 2).record 0x0506 where_ (p32sat top.2)).fireCount p 5 1).sendVerdict (.headPolicy p 2 (m.firstStopped p))
      else m1

/-- Runs of STATUS frames without a reading, for each slot. -/
def missRuns (old : List Nat) (temps : List (Option Int)) : List Nat :=
  (List.range 8).map (fun s => if (nth temps s none).isSome then 0 else nth old s 0 + 1)

/-- The enabled slots of a port in which a head is fitted. -/
def Mach.fittedSlots (m : Mach) (p : Nat) : List Nat :=
  (List.range 8).filter (fun s => slotOn (m.slot p s) && bit (fget (m.port p).tx.epInfo 8 0) s)

/-- The readings that the last STATUS gives of the fitted slots; one without a reading three times in a row counts as at LIMIT
(R245). -/
def Mach.lastReadings (m : Mach) (p : Nat) : List (Nat × Int) :=
  let f := (m.port p).fire
  (m.fittedSlots p).filterMap (fun s =>
    if 3 ≤ nth f.missRun s 0 then some (s, (m.limits p).2.1) else (nth f.temps s none).map (fun t => (s, t)))

/-- The temperatures of a STATUS (R244, R245): the limits of this moment judge them. -/
def Mach.statusTemps (m : Mach) (p : Nat) (temps : List (Option Int)) : Mach :=
  let runs := missRuns (m.port p).fire.missRun temps
  let slots := m.fittedSlots p
  let seen := slots.filterMap (fun s => nth temps s none)
  let m1 := m.onFire p (fun f => { f with
    temps := temps, missRun := runs, noStatus := false, noReading := slots.any (fun s => decide (3 ≤ nth runs s 0))
    limits := some (m.num 0x3024 1 p, m.num 0x3024 2 p, m.num 0x3024 3 p)
    tempMax := match seen with | [] => none | a :: t => some (t.foldl max a) })
  let m2 := (slots.filter (fun s => nth runs s 0 = 3)).foldl (fun acc s => acc.record 0x0507 (p + 256 * s) 0) m1
  m2.judgeTemps p (m2.lastReadings p)

/-- EP_LATE_LINE (R241): LATE_LINES rose by more than the events that the module itself has counted, with BLANK or as a lost
LINE. Such an event answers for a rise up to the second STATUS after its fire time (log entry 84). -/
def Mach.statusLate (m : Mach) (p lateLines : Nat) : Mach :=
  let f := (m.port p).fire
  let rise := lateLines - f.lateLines
  let due := f.fires.filter (fun x => !x.blank && decide (f.statusAt ≤ x.time) && decide (x.time ≤ m.linkTime))
  let coming := fun (e : Nat) => decide (m.queueNext (barOf p) ≤ e) || f.fires.any (fun x => x.event = e && decide (m.linkTime < x.time))
  let counted := f.excused.filter (fun e => !coming e)
  let m1 := if counted.length < rise then
      due.foldl (fun acc x => if f.excused.contains x.event then acc else acc.notFired p x.event (2 ^ 6)) (m.record 0x0502 p rise)
    else m
  let fresh := fun (e : Nat) => f.fires.any (fun x => x.event = e && decide (f.statusAt ≤ x.time))
  let seen := if counted.length < rise && m.pair.role = 2 then
      (due.filter (fun x => !f.excused.contains x.event)).map (fun x => (m.linkTime, x.event)) else []
  (m1.onFire p (fun f => { f with
    lateLines := lateLines, lateSeen := f.lateSeen.filter (fun x => decide (m.linkTime ≤ x.1 + 25000)) ++ seen
    excused := (counted.drop rise).filter fresh ++ f.excused.filter coming })).linkCount p 6 rise

/-- Send a record over the drop-report link to Yarrow (R472); each takes the next sequence number. -/
def Mach.toYarrow (m : Mach) (kind : Nat) (fields : List Nat) : Mach :=
  Mach.emit { m with yarrow := { m.yarrow with dropSeq := (m.yarrow.dropSeq + 1) % 2 ^ 32 } } (.yarrow kind (m.yarrow.dropSeq :: fields))

/-- The blocks of a STATUS go to Yarrow; missing ones are recorded, and a GAP record follows (R201, R228, R472). -/
def Mach.statusBlocks (m : Mach) (p : Nat) (blocks : List StatusBlock) : Mach :=
  blocks.foldl (fun acc b =>
    let acc1 := acc.toYarrow 5 [p, b.firstEvent, b.fired, b2n b.isOpen, b.drops1, b.drops2, b.drops3]
    if b.isOpen then acc1
    else
      let missing := match (acc.port p).fire.lastBlock with
        | some l => (b.firstEvent - l) / 64 - 1
        | none => 0
      let acc2 := if missing = 0 then acc1 else (acc1.record 0x040D p missing).toYarrow 7 []
      acc2.onFire p (fun f => { f with lastBlock := some b.firstEvent })) m

/-- A STATUS, but for what its holder means in a pair (R200). -/
def Mach.status (m : Mach) (p : Nat) (st : StatusFrame) : Mach :=
  let m1 := m.onLink p (fun l => { l with
    timeValid := st.timeValid, holder := if st.holderThis then 1 else if st.holderOther then 2 else 0 })
  let m2 := if st.lastFired = noLine then m1 else { m1 with sys := { m1.sys with nNext := max m1.sys.nNext (st.lastFired + 1) } }
  let m3 := if st.errFlags = 0 then m2 else m2.record 0x040A p st.errFlags
  let m4 := ((m3.statusLate p st.lateLines).statusTemps p st.temps).statusBlocks p st.blocks
  m4.onFire p (fun f => { f with statusAt := m.linkTime })

/-- STATUS_TIMEOUT (R245): no STATUS for 5 ms counts as a reading at LIMIT, on every port that has been ACTIVE and does not
sleep (log entry 84). -/
def Mach.statusTimeout (m : Mach) (p : Nat) : Mach :=
  let f := (m.port p).fire
  if f.statusAt != 0 && (m.port p).link.phase != .sleep && decide (f.statusAt + 5000000 ≤ m.linkTime) && !f.noStatus then
    ((m.onFire p (fun f => { f with noStatus := true })).record 0x0507 (p + 256 * 0xFF) 1).judgeTemps p [(0xFF, (m.limits p).2.1)]
  else m

/-- STATUS_TIMEOUT. -/
def execStatusTimeout (dt port : Nat) (s : State) : Res := s.actUnit dt "port" port 64 (fun m => m.statusTimeout port)

end Sys2Proof.Machine
end

