-- ==== Sys2Proof/Machine/Seams.lean ====
section
/-! DEFINITION. Seams: what a commit copies, its outcome, the squash, waiting for banks, cancelling, and what a run leaves
in effect (R76 to R112, R169 to R172, R209, R210, R219). -/

namespace Sys2Proof.Machine

/-! ### Copies (R78, R80, R109, R111) -/

/-- The values of a scope's groups. -/
def inScope {α : Type} (scope : Nat) (l : FMap α) : FMap α := l.filter (fun p => bit scope (rsGroup (p.1 / 2 ^ 24)))

/-- The values of a scope's groups take the place of those of a map. -/
def overlay {α : Type} (scope : Nat) (l new : FMap α) : FMap α :=
  (inScope scope new).foldl (fun acc p => fset acc p.1 p.2) (l.filter (fun p => !bit scope (rsGroup (p.1 / 2 ^ 24))))

/-- The values of a scope become those in effect. -/
def Mach.takeEffect (m : Mach) (scope : Nat) (nums : FMap Int) (blobs : FMap Bytes) : Mach :=
  { m with dict := { m.dict with
      effNums := overlay scope m.dict.effNums nums, effBlobs := overlay scope m.dict.effBlobs blobs } }

/-- FIRE_TIMING that has changed is written to the endpoints without APPLY_AT (R219). -/
def Mach.rewriteTiming (m : Mach) (old : Nat → Nat) : Mach :=
  forEach allPorts m (fun p acc => acc.cfgAdd p (timingChanges (old p) (acc.effNum 0x3020 0 p).toNat none))

/-! ### The table (R82, R84) -/

/-- A seam is PENDING or COMPOSING. -/
def seamLive (s : Seam) : Bool := s.state = 1 || s.state = 2

/-- An entry enters the table, in place of one with its ID; the 64 latest and every live seam are kept. -/
def addSeam (l : List Seam) (s : Seam) : List Seam :=
  let l1 := l.filter (fun x => x.id != s.id) ++ [s]
  let old := l1.length - 64
  (l1.take old).filter seamLive ++ l1.drop old

/-- The entry that SEAM_STATUS reports for an ID. -/
def Mach.seamEntry (m : Mach) (id : Nat) : Option Seam :=
  firstWhere (fun s => s.id == id) (m.seams.table.drop (m.seams.table.length - 64))

/-- The live seam with an ID, however many seams were committed or refused after it. -/
def Mach.liveSeam (m : Mach) (id : Nat) : Option Seam := firstWhere (fun s => s.id == id && seamLive s) m.seams.table

/-- SCOPE and ID in parameter 0 of the seam events (R112). -/
def seamParam (id scope : Nat) : Nat := id + 65536 * scope

/-! ### Deciding the outcome (R92 to R98) -/

/-- Lk(V) in ns for a recompute from line w (R94): a LINE link frame is its payload with header and CRC, 1.6 ns a byte. -/
def Mach.lead (m : Mach) (k v w : Nat) : Nat :=
  let used := (portsOf k).filter m.portUsed
  let bytes := maxOf 0 (used.map m.payloadBytes)
  500 + (v - w + 1) * m.composeTime k + (if used.isEmpty then 0 else divUp ((bytes + 20) * 16) 5)
    + max 2000 (maxOf 0 (used.map m.tLatch))

/-- A bar can recompute from line w in time (R94, R96): a line without a predicted fire time meets every bound. -/
def Mach.canRecompute (m : Mach) (k w : Nat) : Bool :=
  m.enc.speedState = 0 || (List.range (m.compNext k - w)).all (fun i =>
    match m.predicted k (w + i) with
    | none => true
    | some t => decide (m.linkTime + m.lead k (w + i) w ≤ t))

/-- The first line from w on that every bar can meet, within `fuel` lines (R97). -/
def Mach.firstMet (m : Mach) (w : Nat) : Nat → Nat
  | 0 => w
  | fuel + 1 => if allBars.all (fun k => m.canRecompute k w) then w else m.firstMet (w + 1) fuel

/-- The line after the highest that any bar has composed. -/
def Mach.compTop (m : Mach) : Nat := maxOf 0 (allBars.map m.compNext)

/-- Outcome, W* and the cause of a refusal in orders 5 and 6 (R83, R93, R97, R110); a line that an earlier run fired has
been fired (R108). -/
def Mach.decideSeam (m : Mach) (target flags : Nat) : Nat × Nat × Option Nat :=
  if allBars.any (fun k => decide (target < m.fireNext k)) then (0, target, some 0)
  else if m.enc.origin.isNone then (1, target, none)
  else if m.compTop ≤ target then (1, target, none)
  else
    let w := m.firstMet target (m.compTop - target)
    if w = target then (2, w, if bit flags 1 then some 1 else none) else (3, w, if bit flags 0 then some 2 else none)

/-! ### Squash (R99, R101, R209, R210) -/

/-- The bars that have composed a line. -/
def Mach.composedBars (m : Mach) (w : Nat) : List Nat := allBars.filter (fun k => decide (w < m.compNext k))

/-- A port's LINE data from W* on are discarded at both ends, and their events are reassembled under the next generation, which
a FIRE that still waits names too (R209, R210). -/
def Mach.discardLines (m : Mach) (p w : Nat) : Mach :=
  let m1 := m.onFire p (fun f => { f with
    gens := (List.range (f.nextLine - w)).foldl (fun g i => fset g (w + i) ((fget g (w + i) 0 + 1) % 256)) f.gens
    lines := f.lines.filter (fun l => decide (l.event < w))
    nextLine := min f.nextLine w })
  let from_ := fun (f : Frame) => match f.event with | some e => decide (w ≤ e) | none => false
  let m2 := m1.onTx p (fun t => { t with queue := (t.queue.filter (fun f => !(bodyType f.body = 0x01 && from_ f))).map (fun f =>
    if framePriority f = 1 && from_ f then { f with gen := m1.genOf p (f.event.getD 0) } else f) })
  if m.linkUp p then m2.inhibit p 2 4 (some w) false else m2

/-- Composed lines from W* on are invalid in every bar, which recomputes them first. -/
def Mach.squash (m : Mach) (w : Nat) : Mach :=
  let bars := m.composedBars w
  let keep := fun (bar line : Nat) => !bars.contains bar || decide (line < w)
  let m1 := { m with
    seams := { m.seams with redo := bars.foldl (fun r k => fset r k (min w (fget r k w))) m.seams.redo }
    comp := { m.comp with
      ring := m.comp.ring.filter (fun r => keep r.bar r.line)
      dots := m.comp.dots.map (fun d => (d.1, d.2.filter (fun x => keep d.1 x.line))) } }
  bars.foldl (fun acc k => (portsOf k).foldl (fun acc p => acc.discardLines p w) acc) m1

/-- Lines that a squash from W* invalidates over all bars. -/
def Mach.squashed (m : Mach) (w : Nat) : Nat := sumOf (allBars.map (fun k => m.compNext k - w))

/-! ### Entering a seam (R78, R84, R92, R102 to R105, R170, R219) -/

/-- The groups of a scope that bars keep in banks. -/
def bankedIn (scope : Nat) : List Nat := bankGroups.filter (bit scope)

/-- A bar that recomputes takes its SHADOW bank for W* and loads another one (R170). -/
def Mach.useShadows (m : Mach) (scope w : Nat) : Mach :=
  (m.composedBars w).foldl (fun acc k => (bankedIn scope).foldl (fun acc g =>
    acc.onBanks k g (fun b => { b with loads := b.loads ++ [0] })) acc) m

/-- Every bar's NEXT banks follow its next seams (R170). -/
def Mach.loadAll (m : Mach) : Mach :=
  forEach allBars m (fun k acc => bankGroups.foldl (fun acc g => acc.loadNext k g) acc)

/-- A job seam removes the frames from W* on; where W* has entered B0's horizon, verdict and cut follow at once (R104,
R105, R135). -/
def Mach.seamJob (m : Mach) (w : Nat) : Mach :=
  let m1 := m.removeFrames w
  if w < m1.seams.entered then m1.enterAgain w else m1

/-- A PORT seam whose line has entered a horizon is written at once (R219). -/
def Mach.seamPorts (m : Mach) (w : Nat) : Mach :=
  forEach allBars m (fun k acc => (if w < acc.portNext k then acc.timingAt k w else acc).portWrites k)

/-- A seam is entered with its W* and its copy of the shadows; composed lines are squashed. -/
def Mach.enterSeam (m : Mach) (s : Seam) (w : Nat) : Mach :=
  let v : SeamVals := { id := s.id, applied := w, scope := s.scope
                        nums := inScope s.scope m.dict.nums, blobs := inScope s.scope m.dict.blobs }
  let lines := if m.enc.origin.isSome then m.squashed w else 0
  let entry := { s with squashed := min 65535 lines }
  let m1 := { m with seams := { m.seams with table := addSeam m.seams.table entry, vals := m.seams.vals ++ [v] } }
  let m2 := if lines = 0 then m1
    else ((m1.useShadows s.scope w).squash w).recordAt 0x0220 (seamParam s.id s.scope) lines w
  let m3 := if s.outcome = 3 then m2.recordAt 0x0221 (seamParam s.id s.scope) s.slip w else m2
  let m4 := m3.loadAll
  if m.enc.origin.isNone then m4
  else
    let m5 := if bit s.scope 0 then m4.seamJob w else m4
    if bit s.scope 2 then m5.seamPorts w else m5

/-- A commit outside printing takes effect at once (R109). DESIGN CHOICE (log entry 83): it has no W* that a bar composes, and
records no NOZZLE_SET_APPLIED. -/
def Mach.seamAtOnce (m : Mach) (s : Seam) : Mach :=
  let old := fun p => (m.effNum 0x3020 0 p).toNat
  let m1 := { m.takeEffect s.scope m.dict.nums m.dict.blobs with
    seams := { m.seams with table := addSeam m.seams.table s } }
  if bit s.scope 2 then m1.rewriteTiming old else m1

/-- Lines whose fire is due at this instant are fired, and lines enter horizons, before anything else (R92). -/
def Mach.fireDueFirst (m : Mach) : Mach := forEach allBars m (fun k acc => acc.fireAll k hitFuel)

/-- The seam at its commit instant, after the checks of orders 1 to 4 (R83, R92, R93, R109): the module, and whether the
seam was refused. -/
def Mach.commitAt (m0 : Mach) (target scope id flags : Nat) (host : Bool) : Mach × Bool :=
  let m := m0.fireDueFirst
  let s : Seam := { id := id, state := 1, outcome := 1, target := target, applied := none, slip := 0, composed := 0
                    fired := 0, time := m.linkTime, scope := scope, squashed := 0, host := host }
  if !m.printing then
    ((m.seamAtOnce { s with state := 3, outcome := 4 }).sendVerdict (.seam id scope target target 4 m.linkTime), false)
  else
    let (outcome, w, refused) := m.decideSeam target flags
    let slip := if outcome = 3 then w - target else 0
    match refused with
    | some cause =>
      let s1 := { s with state := 4, outcome := outcome, slip := slip }
      (Mach.recordAt { m with seams := { m.seams with table := addSeam m.seams.table s1 } } 0x0222 (seamParam id scope) cause
        target, true)
    | none =>
      let m1 := m.sendVerdict (.seam id scope target w outcome m.linkTime)
      (m1.enterSeam { s with outcome := outcome, applied := some w, slip := slip } w, false)

/-! ### COMMIT_SEAM (R81 to R83, R171) -/

/-- Orders 3 and 4 of R83. -/
def Mach.seamStatus (m : Mach) (id : Nat) : Status :=
  if m.seams.table.any (fun s => seamLive s && s.id = id) then .outOfRange
  else if 24 ≤ (m.seams.table.filter (fun s => seamLive s && s.host)).length then .busy
  else .ok

/-- Every bar has a loaded SHADOW bank of every group of a scope (R171). -/
def Mach.shadowsLoaded (m : Mach) (scope : Nat) : Bool :=
  allBars.all (fun k => (bankedIn scope).all (fun g => !(m.banks k g).loads.contains 0))

/-- The bytes of a COMMIT_SEAM record. -/
def seamBytes (target scope id flags : Nat) : Bytes := leBytes 8 target ++ leBytes 2 scope ++ leBytes 2 id ++ leBytes 1 flags

/-- A host's commit reaches its commit instant. -/
def Mach.commitHost (m : Mach) (w : Who) (target scope id flags : Nat) : Mach :=
  match m.seamStatus id with
  | .ok =>
    let (m1, refused) := m.commitAt target scope id flags true
    if refused then m1.reply w 0x2000 0 .commitRejected else m1.accept w 0x2000 0 0 (seamBytes target scope id flags)
  | st => m.reply w 0x2000 0 st

/-- A write of COMMIT_SEAM. A forwarded one does nothing: the standby takes the seam from its verdict record (R102). -/
def Mach.writeCommitSeam (m : Mach) (w : Who) (target scope id flags : Nat) : Mach :=
  m.guarded w 0x2000 0 (fun m =>
    match w with
    | .peer _ => m
    | _ =>
      if !(okValueAt 0x2000 1 target && okValueAt 0x2000 2 scope && okValueAt 0x2000 3 id && okValueAt 0x2000 4 flags) then
        m.reply w 0x2000 0 .outOfRange
      else match m.seamStatus id with
        | .ok =>
          if m.shadowsLoaded scope then m.commitHost w target scope id flags
          else
            let x : WaitingSeam := { who := w, target := target, scope := scope, id := id, flags := flags, host := true
                                     since := m.now }
            { m with seams := { m.seams with waiting := m.seams.waiting ++ [x] } }
        | st => m.reply w 0x2000 0 st)

/-- COMMIT_SEAM. -/
def execCommitSeam (dt sid target scope id flags : Nat) (s : State) : Res :=
  s.act dt (fun m => m.writeCommitSeam (.host sid) target scope id flags)

/-- A seam of the module's own (R82): refused when its eight entries are in use. -/
def Mach.commitOwn (m : Mach) (target scope id flags : Nat) : Mach × Bool :=
  if 8 ≤ (m.seams.table.filter (fun s => seamLive s && !s.host)).length then (m, true)
  else m.commitAt target scope id flags false

/-- Commits that waited reach their instant in the order in which they were written (R171), the module's own by `own`; the
event names the line that the bar was composing (R180). -/
def Mach.releaseCommits (m : Mach) (k : Nat) (own : Mach → Mach) : Mach :=
  m.seams.waiting.foldl (fun acc x =>
    if acc.shadowsLoaded x.scope && acc.seams.waiting.head? = some x then
      let acc1 := Mach.recordAt { acc with seams := { acc.seams with waiting := acc.seams.waiting.drop 1 } } 0x0304 x.id
        (acc.now - x.since) (acc.nextToCompose k)
      if x.host then acc1.commitHost x.who x.target x.scope x.id x.flags else own acc1
    else acc) m

/-- A bank of a bar and group is loaded (R170 to R172): a composer and commits that waited go on. -/
def Mach.bankLoaded (m : Mach) (k g : Nat) (own : Mach → Mach) : Mach :=
  if (m.banks k g).loads.isEmpty then m
  else
    let m1 := m.onBanks k g (fun b => { b with loads := b.loads.drop 1 })
    let m2 := match ffind m1.seams.bankWait (8 * k + g) with
      | some t =>
        if (m1.banks k g).loads.contains 1 then m1
        else Mach.recordAt { m1 with seams := { m1.seams with bankWait := fdel m1.seams.bankWait (8 * k + g) } } 0x0301
          (k + 256 * g) (m1.now - t) (m1.nextToCompose k)
      | none => m1
    m2.releaseCommits k own

/-! ### Cancelling (R86, R111) -/

/-- A seam becomes CANCELLED and its values are discarded. -/
def Mach.dropSeam (m : Mach) (s : Seam) (cause : Nat) : Mach :=
  let w := s.applied.getD noLine
  Mach.recordAt { m with seams := { m.seams with
      table := m.seams.table.map (fun x => if x.id = s.id then { x with state := 5, applied := none } else x)
      vals := m.seams.vals.filter (fun v => !(v.id = s.id && v.applied = w)) } } 0x0224 (seamParam s.id s.scope) cause w

/-- A seam that the host may cancel: PENDING, EXACT, not the module's own, and not in any horizon. -/
def Mach.mayCancel (m : Mach) (s : Seam) : Bool :=
  s.host && s.state = 1 && s.outcome = 1 && (m.enc.origin.isNone || decide (m.seams.entered ≤ s.applied.getD 0))

/-- A write of SEAM_CANCEL. -/
def Mach.writeSeamCancel (m : Mach) (w : Who) (id : Nat) : Mach :=
  m.guardedNum w 0x2003 0 id (fun m =>
    match m.liveSeam id with
    | some s =>
      if m.mayCancel s then ((m.dropSeam s 0).loadAll).acceptNum w 0x2003 0 0 2 id else m.reply w 0x2003 0 .commitRejected
    | none => m.reply w 0x2003 0 .commitRejected)

/-- SEAM_CANCEL. -/
def execSeamCancel (dt sid id : Nat) (s : State) : Res := s.act dt (fun m => m.writeSeamCancel (.host sid) id)

/-- The values of the last line that B7 fired (R111); a run in which B7 fired none changes no value. -/
def Mach.foldSeams (m : Mach) : Mach :=
  if m.enc.firstLine < m.fireNext 7 then
    (List.range 6).foldl (fun acc g =>
      match valsAt m.seams.vals g (m.fireNext 7 - 1) with
      | some v => acc.takeEffect (2 ^ g) v.nums v.blobs
      | none => acc) m
  else m

/-- Banks that hold no coming set. -/
def noNext (b : Nat × Banks) : Nat × Banks := (b.1, { b.2 with nextSeam := none })

/-- Every seam of a run ends with it, and the fired frontiers stay (R87); `cause` is 1 for the return to IDLE and 2 for SAFE (R111). Endpoints that hold the
timing of a cancelled seam are written again (R219). -/
def Mach.endSeams (m : Mach) (cause : Nat) : Mach :=
  let sent := fun p =>
    if m.enc.origin.isSome then m.rsNat 0x3020 0 p (m.portNext (barOf p) - 1) else (m.effNum 0x3020 0 p).toNat
  let m1 := if m.enc.origin.isSome then m.foldSeams else m
  let m2 := (m.seams.table.filter seamLive).foldl (fun acc s => acc.dropSeam s cause) m1
  let m3 := { m2 with seams := { m2.seams with
    vals := [], compNext := [], compStart := [], portNext := [], redo := [], times := [], entered := 0
    bankWait := [], banks := m2.seams.banks.map noNext } }
  m3.rewriteTiming sent

end Sys2Proof.Machine
end

