-- ==== Sys2Proof/Machine/Cameras.lean ====
section
/-! DEFINITION. Camera ports: the sensor control bus, triggers and strobe, exposure sets, streams, and the camera
calibration up to its frames (R259 to R270, R276 to R280, R290, R296 to R299, R597 to R603). -/

namespace Sys2Proof.Machine

/-! ### Settings -/

/-- The sensor of a camera. -/
def Mach.sensor (m : Mach) (c : Nat) : Sensor := sensorOf (m.camCfg c)

/-- FS_TIMEOUT of a camera in ns. -/
def Mach.fsTimeoutNs (m : Mach) (c : Nat) : Nat := bits (m.camCfg c) 30 8 * 100000

/-- MIN_INTERVAL of a camera in ns. -/
def Mach.minInterval (m : Mach) (c : Nat) : Nat := m.nat 0x6010 4 c * 1000

/-- Add to CAM_COUNTERS (R298). -/
def Mach.camCount (m : Mach) (c k n : Nat) : Mach := m.onCam c (fun x => { x with counters := bump x.counters k n })

/-- Parameter 0 of the camera events (R299). -/
def camParam (c v : Nat) : Nat := c + 256 * v

/-! ### Camera calibration: results (R597 to R601, R603) -/

/-- A camera takes part in the calibration that runs. -/
def Mach.calTakes (m : Mach) (c : Nat) : Bool := m.cal.phase != 0 && bit m.cal.cams c

/-- The arm goes back when every camera that takes part is done (R599). -/
def Mach.calDone (m : Mach) : Mach :=
  if m.cal.phase != 0 && m.cal.phase != 4
      && (setBits m.cal.cams 4).all (fun c => (ffind m.cal.cause c).isSome) then
    { m with cal := { m.cal with phase := 4, since := m.now } }
  else m

/-- A camera's result is refused (R600). -/
def Mach.calFail (m : Mach) (c cause : Nat) : Mach :=
  if m.calTakes c && (ffind m.cal.cause c).isNone then
    let m1 := { m with cal := { m.cal with cause := fset m.cal.cause c cause } }
    ((m1.onCam c (fun x => { x with calState := 4, calCause := cause })).record 0x0F03 c cause).calDone
  else m

/-! ### The sensor control bus (R260, R263, R264, R277 to R279) -/

/-- A camera start (R264): the receiver is reset, the start-up script is written, then the exposure set in effect. -/
def Mach.camRestart (m : Mach) (c : Nat) : Mach :=
  let m1 := (m.calFail c 6).onCam c (fun x => { x with
    phase := if m.camEnabled c then 1 else 0
    shots := [], cur := none, rows := [], rowCount := 0, dropFrom := none, trigEnd := none, flashAt := none, flashEnd := none
    flashMid := none, expState := 0, pendingSet := none, effectFrame := none, uncertain := false, uncertainLeft := 0, bus := []
    pauseTill := none })
  if m.camEnabled c then m1.busStart c 0 (scriptOf (m.blob 0x6003 0 c) ++ m.group c (m.cam c).inEffect) else m1

/-- The port enters FAULT (R264, R279): no trigger is issued until the next restart. Triggers that are out still await their
sensor frames (R273). -/
def Mach.camFault (m : Mach) (c kind reg : Nat) : Mach :=
  (m.onCam c (fun x => { x with phase := 3, bus := [] })).record 0x060A (camParam c kind) reg

/-- A transfer fails (R264, R279). -/
def Mach.busFails (m : Mach) (c reg : Nat) : Mach :=
  match (m.cam c).busKind with
  | 0 => m.camFault c 0 reg
  | 1 =>
    let set := ((m.cam c).pendingSet.map (fun s => s.setId)).getD 0
    ((m.onCam c (fun x => { x with expState := 3, pendingSet := none, uncertain := true, uncertainLeft := 0 })).record 0x0609
      (camParam c set) reg).busStart c 2 (m.group c (m.cam c).inEffect)
  | _ => (m.camFault c 1 reg).onCam c (fun x => { x with expState := 4 })

/-- CAM_BUS_TRANSFER_DONE. -/
def Mach.camBusTransfer (m : Mach) (c : Nat) (acked : Bool) : Mach :=
  match (m.cam c).bus with
  | [] => m
  | b :: rest =>
    if (m.cam c).pauseTill.isSome then m
    else if acked then (m.onCam c (fun x => { x with bus := rest })).busNext c else m.busFails c b.reg

/-! ### Port configuration (R261 to R264, R266) -/

/-- MIN_INTERVAL is at least 1.1 times the readout time (R266). -/
def readoutFits (cfg minInterval : Nat) : Bool :=
  let px := nth [8, 10, 12] (bits cfg 54 2) 12
  let lanes := nth [1, 2, 4] (bits cfg 52 2) 4
  decide (11 * bits cfg 0 14 * bits cfg 14 13 * px ≤ minInterval * lanes * bits cfg 38 8 * 100)

/-- The conditions of R261 and R266 on a camera's settings. -/
def Mach.camFits (m : Mach) (c : Nat) : Bool :=
  let v := m.camCfg c
  (bit v 49 || (bits v 0 14 % 2 = 0 && bits v 14 13 % 2 = 0)) && readoutFits v (m.nat 0x6010 4 c)
    && !(m.nat 0x6010 1 c = 2 && m.nat 0x6010 3 c % 256 != 0)

/-- A write of CAM_PORT_CONFIG, CAM_SENSOR_PROFILE or CAM_SENSOR_INIT restarts the port (R264). -/
def Mach.writeCamConfig (m : Mach) (w : Who) (idx sub : Nat) (data : Bytes) : Mach :=
  m.guardedBytes w idx sub (writeLevels idx sub) data (fun vals m =>
    let c := m.instOf w .cam
    let m1 := m.storeVals idx c vals
    if idx = 0x6001 && !m1.camFits c then m.reply w idx sub .outOfRange
    else (m1.camRestart c).accept w idx sub c data)

/-- CAM_CONFIG_WRITE: of the three indices that restart a port. -/
def execCamConfigWrite (dt sid idx sub : Nat) (data : Bytes) (s : State) : Res :=
  s.act dt (fun m => if 0x6001 ≤ idx && idx ≤ 0x6003 then m.writeCamConfig (.host sid) idx sub data else m)

/-! ### Triggers (R267 to R271, R277 to R279) -/

/-- The exposure set that a trigger at a line applies (R278): frame n + 2 takes the new set; n is issued after the completion. -/
def Mach.exposureAt (m : Mach) (c line : Nat) : Mach :=
  let x := m.cam c
  if x.expState = 2 then
    match x.effectFrame, x.pendingSet with
    | none, _ => if x.readyAt < m.now then m.onCam c (fun y => { y with effectFrame := some ((x.frameNo + 2) % 2 ^ 32) }) else m
    | some f, some set =>
      if x.frameNo = f then
        (m.onCam c (fun y => { y with expState := 0, inEffect := set, pendingSet := none })).recordAt 0x0608
          (camParam c set.setId) f line
      else m
    | some _, none => m
  else m

/-- The streams of a commit take effect with the first trigger after it (R290). -/
def Cam.streamsAt (x : Cam) (now : Nat) : Cam :=
  match x.nextStreams with
  | some (t, s) => if t < now then { x with streams := s, nextStreams := none } else x
  | none => x

/-- Frames of a failed commit carry EXP_UNCERTAIN up to the second one after the rewrite (R279). -/
def Cam.takeUncertain (x : Cam) : Cam :=
  if x.uncertain && x.uncertainLeft != 0 then { x with uncertain := x.uncertainLeft != 1, uncertainLeft := x.uncertainLeft - 1 }
  else x

/-- A trigger is issued (R268, R271, R282): TRIGn pulses, FLASHn follows, and a sensor frame is tagged and awaited, with the
BLACK and WB of this moment. -/
def Mach.issue (m : Mach) (c line trigIndex : Nat) (trigRaw : Int) (cal flash : Bool) : Mach :=
  let m1 := (m.exposureAt c line).onCam c (fun x => x.streamsAt m.now)
  let x := m1.cam c
  let inRun := line != noLine
  let tag : CamTag :=
    { frameNo := x.frameNo, line := line, setId := x.inEffect.setId, cam := c, trigIndex := trigIndex
      flags := maskOf ((if cal then [4] else []) ++ (if x.uncertain then [5] else []))
      jobId := if inRun then m.jobNat 1 line else m.jobInEffect 0x5001 1 0
      jobFrame := if inRun then (m.frameNo line).getD 0xFFFFFFFF else 0xFFFFFFFF }
  m1.onCam c (fun x => Cam.takeUncertain { x with
    frameNo := (x.frameNo + 1) % 2 ^ 32, lastTrig := some m.now, trigEnd := some (m.now + m.nat 0x6010 5 c * 1000)
    flashAt := if flash then some (m.now + x.inEffect.delay * 10) else x.flashAt
    shots := x.shots ++ [{ tag := tag, issuedAt := m.now, trigRaw := trigRaw, cal := cal, streams := x.streams,
                            black := m.nat 0x6020 1 c, wb := m.nat 0x6020 7 c }] })

/-- The trigger of a web line: its trigger index, where one falls there (R267). -/
def Mach.trigAt (m : Mach) (c w : Nat) : Option Nat :=
  let start := m.nat 0x6010 2 c
  let period := max 256 (m.nat 0x6010 3 c)
  match m.nat 0x6010 1 c with
  | 1 =>
    let k := divUp ((w - start) * 256) period
    if start ≤ w && start + k * period / 256 = w then some 0xFF else none
  | 2 =>
    let y := w - m.frameFirst w
    let n := (y - start) * 256 / period
    if (m.frameNo w).isSome && decide (start ≤ y) && decide (n ≤ 63) && (y - start) * 256 = n * period then some n else none
  | _ => none

/-- The previous trigger was issued less than MIN_INTERVAL ago (R269). -/
def Mach.trigTooSoon (m : Mach) (c : Nat) : Bool :=
  match (m.cam c).lastTrig with
  | some t => decide (m.now < t + m.minInterval c)
  | none => false

/-- A trigger that falls due is issued, unless the port is in FAULT or the last one was too recent: then it is skipped (R269).
A port whose start has not completed holds TRIGn inactive (R260). -/
def Mach.triggerDue (m : Mach) (c line seen index : Nat) (pos : Int) (cal : Bool) : Mach :=
  let skip := fun cause => (m.recordAt 0x0601 (camParam c cause) 1 seen).camCount c 2 1
  if (m.cam c).phase = 3 then skip 1
  else if (m.cam c).phase != 2 then m
  else if m.trigTooSoon c then skip 0
  else m.issue c line index pos cal true

/-- A web trigger falls due (R268 to R270). -/
def Mach.webTrigger (m : Mach) (c w index : Nat) (pos : Int) : Mach :=
  if m.calTakes c || !m.camEnabled c then m else m.triggerDue c w w index pos false

/-- The trigger position of a web line (R268). -/
def Mach.trigPos (m : Mach) (c w : Nat) : Option Int :=
  m.enc.origin.map (fun o => posAt o m.increment w (m.barOffset 7 + m.nat 0x6004 1 c) (m.num 0x6004 2 c))

/-- Lines whose trigger position the raw position has reached, at most `fuel` of them. -/
def Mach.camHits (m : Mach) (c : Nat) : Nat → Mach
  | 0 => m
  | fuel + 1 =>
    let w := (m.cam c).trigNext
    match m.trigPos c w with
    | none => m
    | some pos =>
      if pos ≤ m.enc.raw then
        let m1 := m.onCam c (fun x => { x with trigNext := w + 1 })
        (match m.trigAt c w with
          | some index => m1.webTrigger c w index pos
          | none => m1).camHits c fuel
      else m

/-- A write of CAM_SOFT_TRIGGER (R270): R269 skips it as any other trigger, and the write is accepted. -/
def Mach.writeSoftTrigger (m : Mach) (w : Who) (v : Nat) : Mach :=
  m.guardedNum w 0x6011 0 v (fun m =>
    let c := m.instOf w .cam
    (if v = 1 then m.triggerDue c noLine m.webLine 0xFF m.enc.raw (m.calTakes c) else m).acceptNum w 0x6011 0 c 1 v)

/-- CAM_SOFT_TRIGGER. -/
def execCamSoftTrigger (dt sid v : Nat) (s : State) : Res := s.act dt (fun m => m.writeSoftTrigger (.host sid) v)

/-- TRIG_PULSE_END (R266). -/
def execTrigPulseEnd (dt cam : Nat) (s : State) : Res :=
  s.actUnit dt "camera" cam 4 (fun m =>
    match (m.cam cam).trigEnd with
    | some t => if t ≤ m.now then m.onCam cam (fun x => { x with trigEnd := none }) else m
    | none => m)

/-- FLASH_START (R268): FLASHn lights for the strobe width of the set in effect; the centre of the strobe is awaited. -/
def execFlashStart (dt cam : Nat) (s : State) : Res :=
  s.actUnit dt "camera" cam 4 (fun m =>
    match (m.cam cam).flashAt with
    | some t =>
      if t ≤ m.now then m.onCam cam (fun x => { x with
        flashAt := none, flashEnd := some (t + x.inEffect.strobe * 10), flashMid := some (t + x.inEffect.strobe * 5, none) }) else m
    | none => m)

/-- The strobe of the newest trigger ends: its frame's STROBE_SHIFT is known (R271), by the raw position that the counts up to
the strobe's centre gave. -/
def Mach.flashOver (m : Mach) (c : Nat) : Mach :=
  let raw := match (m.cam c).flashMid with | some (_, some r) => r | _ => m.enc.raw
  let shift := fun (s : Shot) => { s with tag := { s.tag with strobeShift := raw - s.trigRaw } }
  m.onCam c (fun x =>
    let x1 := { x with flashEnd := none, flashMid := none }
    match x1.shots.getLast? with
    | some s => { x1 with shots := x1.shots.dropLast ++ [shift s] }
    | none => { x1 with cur := x1.cur.map shift })

/-- FLASH_END (R268). -/
def execFlashEnd (dt cam : Nat) (s : State) : Res :=
  s.actUnit dt "camera" cam 4 (fun m =>
    match (m.cam cam).flashEnd with
    | some t => if t ≤ m.now then m.flashOver cam else m
    | none => m)

/-! ### Exposure sets and streams (R276, R277, R290, R601) -/

/-- The exposure set of CAM_EXPOSURE. -/
def Mach.shadowSet (m : Mach) (c : Nat) : ExpSet :=
  { setId := m.nat 0x6018 1 c, strobe := m.nat 0x6018 2 c, delay := m.nat 0x6018 3 c
    writes := (scriptOf (m.blob 0x6018 4 c)).map (fun b => (b.reg, b.value)) }

/-- A write of CAM_EXPOSURE_COMMIT (R277, R601). -/
def Mach.writeExposureCommit (m : Mach) (w : Who) (v : Nat) : Mach :=
  m.guardedNum w 0x6019 0 v (fun m =>
    let c := m.instOf w .cam
    let x := m.cam c
    if v = 0 then m.acceptNum w 0x6019 0 c 1 v
    else if (m.shadowSet c).setId = x.inEffect.setId then m.reply w 0x6019 0 .outOfRange
    else if m.cal.phase != 0 || x.expState = 1 || x.expState = 2 || !x.bus.isEmpty then m.reply w 0x6019 0 .busy
    else
      let m1 := m.onCam c (fun y => { y with expState := 1, pendingSet := some (m.shadowSet c), effectFrame := none })
      (m1.busStart c 1 (m.group c (m.shadowSet c))).acceptNum w 0x6019 0 c 1 v)

/-- CAM_EXPOSURE_COMMIT. -/
def execCamExposureCommit (dt sid v : Nat) (s : State) : Res := s.act dt (fun m => m.writeExposureCommit (.host sid) v)

/-- The stream shadows of a camera as a copy. -/
def Mach.streamShadow (m : Mach) (c : Nat) : FMap Int := (List.range 7).map (fun i => (i + 1, m.num 0x6030 (i + 1) c))

/-- A crop lies within the line buffer and the sensor (R290). -/
def Mach.cropFits (m : Mach) (c x0 w : Nat) : Bool := w = 0 || (decide (x0 + w ≤ 8192) && decide (x0 + w ≤ (m.sensor c).width))

/-- A write of CAM_STREAM_COMMIT (R290). -/
def Mach.writeStreamCommit (m : Mach) (w : Who) (v : Nat) : Mach :=
  m.guardedNum w 0x6032 0 v (fun m =>
    let c := m.instOf w .cam
    if v = 0 then m.acceptNum w 0x6032 0 c 1 v
    else if m.cropFits c (m.nat 0x6030 1 c) (m.nat 0x6030 2 c) && m.cropFits c (m.nat 0x6030 4 c) (m.nat 0x6030 5 c) then
      (m.onCam c (fun x => { x with nextStreams := some (m.now, m.streamShadow c) })).acceptNum w 0x6032 0 c 1 v
    else m.reply w 0x6032 0 .outOfRange)

/-- CAM_STREAM_COMMIT. -/
def execCamStreamCommit (dt sid v : Nat) (s : State) : Res := s.act dt (fun m => m.writeStreamCommit (.host sid) v)

/-! ### Camera calibration: temperatures, start, arm and triggers (R598, R599) -/

/-- CAL_CAM_CONFIG of a camera. -/
def Mach.calCfg (m : Mach) (c : Nat) : Nat := m.nat 0xE011 (c + 1) 0

/-- Cameras that calibrations serve: ENABLE of CAL_CAM_CONFIG. -/
def Mach.calCams (m : Mach) : List Nat := allCams.filter (fun c => bit (m.calCfg c) 0)

/-- A write of CAL_CAM_START makes every enabled camera due (R598). -/
def Mach.writeCalCamStart (m : Mach) (w : Who) (v : Nat) : Mach :=
  m.guardedNum w 0xE012 0 v (fun m =>
    let m1 := if v = 1 then forEach m.calCams m (fun c acc => acc.onCam c (fun x => x.fallDue 1)) else m
    m1.acceptNum w 0xE012 0 0 1 v)

/-- CAL_CAM_START. -/
def execCalCamStart (dt sid v : Nat) (s : State) : Res := s.act dt (fun m => m.writeCalCamStart (.host sid) v)

/-- A sensor temperature in 0.1 K (R597): the register is an I16 in steps of TEMP_LSB / 256 K. -/
def Mach.camTemp (m : Mach) (c reg : Nat) : Int := toInt 16 reg * (bits (m.calCfg c) 8 8 : Int) * 10 / 256

/-- CAM_TEMP_READ (R598): a failed read is left for the next second. -/
def Mach.camTempRead (m : Mach) (c : Nat) (v : Option Nat) : Mach :=
  match v with
  | none => m
  | some reg =>
    if bit (m.calCfg c) 0 && bits (m.calCfg c) 16 16 != 0xFFFF then
      let t := m.camTemp c reg
      let drifted := bit (m.calCfg c) 1 && (m.cam c).calTemp != -32768
        && decide ((bits (m.calCfg c) 32 12 : Int) < |t - (m.cam c).calTemp|)
      m.onCam c (fun x => let x1 := { x with temp := some t }; if drifted then x1.fallDue 0 else x1)
    else m

/-- CAM_TEMP_READ. -/
def execCamTempRead (dt cam : Nat) (v : Option Nat) (s : State) : Res :=
  s.actUnit dt "camera" cam 4 (fun m => m.camTempRead cam v)

/-- STATE of CAM_EXPOSURE_STATUS (R280). -/
def Cam.expStatus (x : Cam) : Nat := if x.phase = 3 then 4 else x.expState

/-- A calibration may start now (R598): TILE_ARM is held inactive until every port that it serves has completed its start
(R260), and some camera can take part. -/
def Mach.calMayStart (m : Mach) : Bool :=
  m.cal.phase = 0 && !([Mode.reset, .boot, .assemble, .verify, .safe].contains m.sys.mode)
    && m.calCams.any (fun c => (m.cam c).calState = 2)
    && (match m.cal.lastEnd with | some t => decide (t + 60000000000 ≤ m.now) | none => true)
    && m.calCams.all (fun c => (m.cam c).phase != 1 && ((m.cam c).expStatus = 0 || (m.cam c).expStatus = 4))
    && m.calCams.any (fun c => (m.cam c).phase = 2)

/-- CAL_CAM_STARTED (R598, R599, R331): TILE_ARM goes active, and the colour loop pauses. -/
def Mach.calStarted (m : Mach) : Mach :=
  if m.calMayStart then
    let takes := m.calCams.filter (fun c => (m.cam c).phase = 2)
    let cause := ((m.calCams.filterMap (fun c => (m.cam c).due)).head?).getD 0
    let m1 := forEach takes m (fun c acc => acc.onCam c (fun x => { x with calState := 3, calCause := 0, due := none }))
    Mach.record { m1 with
      cal := { m1.cal with phase := 1, cams := maskOf takes, since := m.now, startedAt := m.now, black := [], lit := []
                           cause := [], result := [] }
      loop := { m1.loop with pausedAt := some m.now } } 0x0F01 (maskOf takes) cause
  else m

/-- CAL_CAM_STARTED. -/
def execCalCamStarted (dt : Nat) (s : State) : Res := s.act dt (fun m => m.calStarted)

/-- The longest ARM_SETTLE of the cameras that take part, in ns. -/
def Mach.armSettle (m : Mach) : Nat := maxOf 0 ((setBits m.cal.cams 4).map (fun c => bits (m.calCfg c) 44 8)) * 1000000

/-- The length of the calibration that runs, in ms. -/
def Mach.calPause (m : Mach) : Nat := (m.now - m.cal.startedAt) / 1000000

/-- The calibration ends (R282, R289, R600, R601): accepted values apply to what is triggered from now on, with
CAL_CAM_DONE and the length of the pause; every history slot is empty, and the loop goes on. -/
def Mach.calEnd (m : Mach) : Mach :=
  let m1 := m.cal.result.foldl (fun acc r =>
    ((acc.setNum 0x6020 1 r.1 (nth r.2 0 0)).setNum 0x6020 7 r.1 (nth r.2 1 0)).record 0x0F02 r.1 m.calPause) m
  let m2 := forEach allCams m1 (fun c acc => acc.onCam c (fun x => { x with tnr := [] }))
  Mach.record { m2 with
    cal := { m2.cal with phase := 0, cams := 0, lastEnd := some m.now, black := [], lit := [], result := [] }
    loop := { m2.loop with pausedAt := none } } 0x0709 (((setBits m.cal.cams 4).head?).getD 0) m.calPause

/-- A calibration trigger of a camera that takes part (R599): the dark frame with FLASH held, then three lit ones; none comes
less than MIN_INTERVAL after the trigger before it (R269, R602). -/
def Mach.calFrame (m : Mach) (c : Nat) : Mach :=
  let x := m.cam c
  let out := (x.shots.filter (fun s => s.cal)).length + (match x.cur with | some s => b2n s.cal | none => 0)
  if m.cal.phase = 2 && m.calTakes c && (ffind m.cal.cause c).isNone && !m.trigTooSoon c then
    if (ffind m.cal.black c).isNone then
      if out = 0 then m.issue c noLine 0xFF m.enc.raw true false else m
    else if (fget m.cal.lit c []).length + out < 3 then m.issue c noLine 0xFF m.enc.raw true true
    else m
  else m

/-- CAL_ARM_SETTLE (R599): the dark frames are triggered, or the calibration ends. -/
def Mach.armSettled (m : Mach) : Mach :=
  if m.cal.phase = 1 && decide (m.cal.since + m.armSettle ≤ m.now) then
    let m1 := { m with cal := { m.cal with phase := 2 } }
    (forEach (setBits m.cal.cams 4) m1 (fun c acc => acc.calFrame c)).calDone
  else if m.cal.phase = 4 && decide (m.cal.since + m.armSettle ≤ m.now) then m.calEnd
  else m

/-- CAL_ARM_SETTLE. -/
def execCalArmSettle (dt : Nat) (s : State) : Res := s.act dt (fun m => m.armSettled)

/-- CAL_FRAME_TRIGGER. -/
def execCalFrameTrigger (dt cam : Nat) (s : State) : Res := s.actUnit dt "camera" cam 4 (fun m => m.calFrame cam)

end Sys2Proof.Machine
end

