-- ==== Sys2Proof/Machine/Motion.lean ====
section
/-! DEFINITION. The web's motion: counts and what they cause, illegal transitions and open lines, the index, the origin,
and the automatic modes (R33 to R65, R459, R615, R617). -/

namespace Sys2Proof.Machine

/-! ### Modes (R615, R641, R642) -/

/-- The module changes its mode. -/
def Mach.setMode (m : Mach) (mode : Mode) : Mach :=
  if m.sys.mode = mode then m
  else Mach.record { m with sys := { m.sys with mode := mode, previous := m.sys.mode, enteredAt := m.linkTime } } 0x0E01
    mode.code m.sys.mode.code

/-- The automatic transitions (R615): taken where the module decides, and sent to the standby (R443). -/
def Mach.autoMode (m : Mach) : Mach :=
  let valid := m.enc.speedState = 2
  let goes := fun (mode : Mode) => (m.sendVerdict (.mode mode m.webLine)).setMode mode
  if !m.decides || m.enc.origin.isNone then m
  else if m.sys.mode = .armed && valid then goes .print
  else if m.sys.mode = .print && !valid then goes .hold
  else if m.sys.mode = .hold && valid && !m.sys.holdRequested then goes .print
  else m

/-! ### Line events (R57 to R62, R66, R267, R268, R471) -/

/-- STOP_REQ for overspeed ends when the datum line rate is below the cap again (R234). -/
def Mach.overStopEnds (m : Mach) : Mach :=
  if m.gate.overStop && decide (m.enc.lineRate < m.lineRateCap) then { m with gate := { m.gate with overStop := false } } else m

/-- OVERSPEED, once for each excursion (R59). -/
def Mach.judgeSpeed (m : Mach) : Mach :=
  let tooFast := decide (m.lineRateCap < m.enc.lineRate)
  let m1 := { m with enc := { m.enc with
    overspeed := tooFast, fastFrom := if tooFast then some (m.enc.fastFrom.getD m.now) else none } }
  if tooFast && !m.enc.overspeed then m1.record 0x0108 m.enc.lineRate m.webLine else m1

/-- The records that Yarrow gets at a datum line event (R115, R471): a job's start, or the end of a finite job. -/
def Mach.jobRecords (m : Mach) (w : Nat) : Mach :=
  if m.jobLine w = w then m.toYarrow 1 [m.jobNat 1 w, w, m.jobNat 5 w, m.increment]
  else if m.jobNat 3 w != 0 && w = m.jobLine w + m.jobNat 3 w * max 1 (m.jobNat 2 w) then m.toYarrow 2 []
  else m

/-- DATUM_LINE_EVENT: the raw position has reached the datum position of the next line. The event of a run's first line,
which no count causes, takes the link time of the capture (R674, log entry 81). -/
def Mach.datumHit (m : Mach) : Mach :=
  match m.datumPos m.enc.datumNext with
  | none => m
  | some pos =>
    if pos ≤ m.enc.raw then
      let w := m.enc.datumNext
      let e := { m.enc with datumNext := w + 1 }
      ((Mach.judgeSpeed { m with enc := e.takeDatum m.linkTime }).overStopEnds).jobRecords w
    else m

/-- BAR_LINE_EVENT (R40, R60, R61): a line whose event falls within an encoder fault marks its frame. -/
def Mach.barHit (m : Mach) (k : Nat) : Mach :=
  match m.barPos k (m.barNext k) with
  | none => m
  | some pos =>
    if pos ≤ m.enc.raw then
      let w := m.barNext k
      let m1 := { m with enc := { m.enc with barNext := fset m.enc.barNext k (w + 1) } }
      if m.enc.fault then m1.markLine w 5 (2 ^ k) else m1
    else m

/-- Every line event of a bar whose position the raw position has reached. -/
def Mach.barHits (m : Mach) (k : Nat) : Nat → Mach
  | 0 => m
  | fuel + 1 =>
    match m.barPos k (m.barNext k) with
    | none => m
    | some pos => if pos ≤ m.enc.raw then (m.barHit k).barHits k fuel else m

/-- Every compare target that the raw position has reached: datum, bars, outputs and cameras. -/
def Mach.compares (m : Mach) : Mach :=
  let m1 := forEach allBars m.datumHit (fun k acc => acc.barHits k hitFuel)
  let m2 := (forEach (List.range 16) m1 (fun n acc => acc.psoHits n hitFuel)).settle
  if m2.printing then forEach allCams m2 (fun c acc => acc.camHits c hitFuel) else m2

/-- What a new estimate brings about: horizon, mode, catch-ups and RETIMEs (R89, R237, R238, R615). -/
def Mach.estimates (m : Mach) (before : Nat) : Mach :=
  let m1 := if m.enc.speedState = before then m else forEach allBars m.enterLines (fun k acc => acc.portWrites k)
  let m2 := m1.autoMode
  let m3 := forEach allBars m2 (fun k acc => acc.catchUp k hitFuel)
  forEach allPorts m3 (fun p acc => acc.retimePort p)

/-- A count that comes after the centre of a strobe leaves the raw position of the centre to it (R271). -/
def Mach.strobeCentres (m : Mach) : Mach :=
  { m with cams := m.cams.map (fun c => match c.2.flashMid with
      | some (t, none) => if t < m.now then (c.1, { c.2 with flashMid := some (t, some m.enc.raw) }) else c
      | _ => c) }

/-- A count (R36, R44, R54, R63). -/
def Mach.encCount (m0 : Mach) (aLeads : Bool) : Mach :=
  if m0.sys.mode = .reset || m0.sys.mode = .boot then m0
  else
    let m := m0.strobeCentres
    let up := aLeads != bit (m.nat 0x2100 0 0) 8
    let before := m.enc.speedState
    let m1 := (Mach.notices { m with enc := { m.enc with
      raw := if up then m.enc.raw + 1 else m.enc.raw - 1, dirDown := !up, lastCount := m.now, counted := true } }).overStopEnds
    let m2 := if m1.enc.waitForward then m1 else { m1 with enc := m1.enc.takeCount m1.increment m1.linkTime }
    (m2.compares).estimates before

/-! ### Encoder faults (R35 to R40) -/

/-- Illegal transitions of the current 1 ms (R38, R42). -/
def Mach.illegalNow (m : Mach) : Nat := (m.enc.illegalTimes.filter (fun t => decide (m.now < t + 1000000))).length

/-- ENCODER_FAULT is raised with a cause bit (R38, R42). -/
def Mach.raiseEncFault (m : Mach) (cause : Nat) : Mach :=
  if bit m.enc.faultCause cause then m
  else
    let causes := setBit m.enc.faultCause cause true
    let m1 := m.withStops (fun x => { x with enc := { x.enc with fault := true, faultCause := causes } })
    (m1.record 0x0102 causes (p32 m.enc.raw)).reportStop 1 allPorts

/-- ENC_ILLEGAL (R37, R38). -/
def Mach.encIllegal (m : Mach) : Mach :=
  if m.sys.mode = .reset || m.sys.mode = .boot then m
  else
    let times := m.enc.illegalTimes.filter (fun t => decide (m.now < t + 1000000)) ++ [m.now]
    let m1 := Mach.record { m with enc := { m.enc with
      illegalTotal := satAdd 65535 m.enc.illegalTotal 1, illegalTimes := times
      illegalLatched := if m.enc.fault then m.enc.illegalLatched + 1 else 0 } } 0x0101 1 (p32 m.enc.raw)
    if m.nat 0x2104 0 0 ≤ times.length then m1.raiseEncFault 0 else m1

/-- ENC_ILLEGAL. -/
def execEncIllegal (dt : Nat) (s : State) : Res := s.act dt (fun m => m.encIllegal)

/-- OPEN_LINE (R35): a line below its threshold for 1 us. -/
def Mach.openLine (m : Mach) (l : EncLine) : Mach :=
  let lines := if m.enc.openLines.contains l then m.enc.openLines else m.enc.openLines ++ [l]
  Mach.raiseEncFault { m with enc := { m.enc with openLines := lines } } 1

/-- OPEN_LINE. -/
def execOpenLine (dt : Nat) (line : EncLine) (s : State) : Res := s.act dt (fun m => m.openLine line)

/-- OPEN_LINE_ENDED (R42): the fault stays latched. -/
def execOpenLineEnded (dt : Nat) (line : EncLine) (s : State) : Res :=
  s.act dt (fun m => { m with enc := { m.enc with openLines := m.enc.openLines.filter (· != line) } })

/-- A write of ENC_FAULT_CLEAR (R39), which states the write of 1; a write of 0 is taken and does nothing (log entry 81). -/
def Mach.writeEncFaultClear (m : Mach) (w : Who) (v : Nat) : Mach :=
  m.guardedNum w 0x2102 0 v (fun m =>
    if v = 0 then m.acceptNum w 0x2102 0 0 1 v
    else if m.enc.speedState != 0 || !m.enc.openLines.isEmpty || decide (m.nat 0x2104 0 0 ≤ m.illegalNow) then
      m.reply w 0x2102 0 .notReady
    else if m.enc.fault then
      let m1 := m.withStops (fun x => { x with enc := { x.enc with fault := false, faultCause := 0, illegalLatched := 0 } })
      ((((m1.record 0x010A m.enc.illegalLatched (p32 m.enc.raw)).restartSpeed 3).overStopEnds).autoMode).acceptNum w 0x2102 0 0 1 v
    else m.acceptNum w 0x2102 0 0 1 v)

/-- ENC_FAULT_CLEAR. -/
def execEncFaultClear (dt sid v : Nat) (s : State) : Res := s.act dt (fun m => m.writeEncFaultClear (.host sid) v)

/-- SPEED_STALL (R65): no count for SPEED_STALL_TIME; the web stalls once, and again after it has moved (log entry 13). -/
def Mach.speedStall (m : Mach) : Mach :=
  if m.enc.lastCount + m.nat 0x2131 0 0 * 1000000 ≤ m.now
      && (m.enc.counted || !(m.enc.window.isEmpty && m.enc.datumTimes.isEmpty)) then
    ((m.restartSpeed 2).overStopEnds).autoMode
  else m

/-- SPEED_STALL. -/
def execSpeedStall (dt : Nat) (s : State) : Res := s.act dt (fun m => m.speedStall)

/-! ### The origin (R45 to R48, R58, R441, R474, R617) -/

/-- A port whose first event of a run is n. -/
def portFrom (n : Nat) (p : Nat × Port) : Nat × Port :=
  (p.1, { p.2 with fire := { p.2.fire with nextLine := n, lines := [], gens := [], fires := [] } })

/-- The stamps of both modules' origins (R441): more than 1 us apart, the standby goes cold. -/
def Mach.judgeStamps (m : Mach) : Mach :=
  match m.pair.peerStamp with
  | none => m
  | some t =>
    let d := ((m.enc.originStamp : Int) - t).natAbs
    let m1 := { m with pair := { m.pair with peerStamp := none } }
    if d ≤ 1000 then m1
    else if m.pair.role = 2 then (m1.record 0x0A0F d 0).goCold
    else if m.pair.role = 1 then (m1.record 0x0A0F d 0).peerCold 2
    else m1

/-- The origin is captured at the raw position now: web line N_next lies there. -/
def Mach.captureOrigin (m : Mach) : Mach :=
  let n := m.sys.nNext
  let origin := m.enc.raw - linesToCounts m.increment n
  let m1 := { m with
    enc := { m.enc with
      origin := some origin, originStamp := m.linkTime, armed := false, firstLine := n, datumNext := n, barNext := []
      overspeed := false }
    sys := { m.sys with lineBase := n }
    psos := (List.range 16).foldl (fun l i => fset l i { fget l i {} with next := n }) m.psos
    cams := allCams.foldl (fun l c => fset l c { fget l c {} with trigNext := n }) m.cams
    seams := { m.seams with fireNext := [], queued := [], compNext := [], compStart := [], portNext := [], redo := [], times := [], entered := n }
    comp := { m.comp with frames := [], lastSet := [], jobStarted := none, jobEnd := [], dots := [], ring := [] }
    ports := m.ports.map (portFrom n) }
  let m2 := ((m1.record 0x0107 (p32 origin) (bits (ofInt 64 origin) 32 32)).restartSpeed 0).overStopEnds
  let m3 := (m2.toYarrow 3 []).loadAll
  let m4 := if m3.paired then (m3.emit (.peer (.originStamp m3.linkTime))).judgeStamps else m3
  let m5 := forEach allBars m4.enterLines (fun k acc => acc.portWrites k)
  (m5.compares).estimates m5.enc.speedState

/-! ### The joining module's origin (R459) -/

/-- The least line at an offset and trim that lies beyond the raw position. -/
def lineBeyond (origin raw : Int) (inc l : Nat) (t : Int) : Nat :=
  let n := raw - origin - t + 1
  let need := n * 2 ^ 32 - 0x80000000
  let lines := if need ≤ 0 then 0 else divUp need.toNat (max 1 inc)
  lines - l

/-- The joining module runs in the mode that the active module was last heard in (log entry 64). -/
def Mach.joinMode (m : Mach) : Mach :=
  let go := fun (mode : Mode) => ((m.wakePorts).withStops (fun x => { x with gate := { x.gate with modeStop := false } })).setMode mode
  match m.pair.peerMode with
  | 5 => go .armed
  | 6 => go .print
  | 7 => go .hold
  | _ => m

/-- The joining module takes the pair's origin: every compare stands at the first line ahead of the web, and queued actions of
lines that have passed are gone (R72). ORIGIN_SET is not
recorded: R75 records it where an origin is captured, and the spec says nothing of this one (log entry 81). -/
def Mach.joinOrigin (m0 : Mach) (origin : Int) : Mach :=
  let m := m0.joinMode.pairFlag 4 false
  let ahead := fun l t => lineBeyond origin m.enc.raw m.increment l t
  let datum := ahead 0 0
  { m with
    enc := { m.enc with
      origin := some origin, originStamp := m.linkTime, firstLine := datum, datumNext := datum
      barNext := allBars.foldl (fun l k => fset l k (ahead (m.barOffset k) (m.num 0x4013 0 k))) [] }
    psos := (List.range 16).foldl (fun l i =>
      let x := fget l i {}
      let n := ahead (bits (m.nat 0x2141 (i + 1) 0) 0 22) 0
      fset l i { x with next := n, queue := x.queue.filter (fun e => decide (n ≤ e.line)) }) m.psos
    cams := allCams.foldl (fun l c => fset l c { fget l c {} with
      trigNext := ahead (m.barOffset 7 + m.nat 0x6004 1 c) (m.num 0x6004 2 c) }) m.cams
    seams := { m.seams with
      fireNext := allBars.foldl (fun l k => fset l k (ahead (m.barOffset k) (m.num 0x4013 0 k - (m.nat 0x4016 0 k : Int)))) []
      queued := []
      entered := ahead (m.barOffset 0) (m.num 0x4013 0 0 - (m.nat 0x4016 0 0 : Int)) } }

/-- The first frame start at least 4,096 lines above Phi0 (R459). -/
def Mach.joinTarget (m : Mach) : Nat :=
  let w := m.fireNext 0 + 4095
  let f := max 1 (m.jobNat 2 w)
  m.jobLine w + divUp (w - m.jobLine w) f * f

/-- The active module posts the join seam at an accepted index (R459 steps 5 and 6), and goes on with the joining module as
stage 7 until that one reports STANDBY. -/
def Mach.postJoin (m : Mach) : Mach :=
  match m.enc.origin with
  | none => m
  | some o =>
    let count := m.enc.raw - o
    let id := m.pair.joinSeam
    let w := m.joinTarget
    let s : Seam := { id := id, state := 1, outcome := 1, target := w, applied := some w, slip := 0, composed := 0
                      fired := 0, time := m.linkTime, scope := 0, squashed := 0, host := false }
    let m1 := m.emit (.peer (.resync (.index m.linkTime count)))
    let no := m1.pair.verdictNo + 1
    let body := VerdictBody.join id w m.linkTime count
    Mach.emit { m1 with
      seams := { m1.seams with table := addSeam m1.seams.table s }
      pair := { m1.pair with
        verdictNo := no, sentVerdicts := m1.pair.sentVerdicts ++ [{ no := no, sentAt := m1.now, body := body }]
        joinSeam := if id = 0xF4FF then 0xF400 else id + 1, joinLine := some w, resync := 7 } }
      (.peer (.verdict no body))

/-- A joining module that has been running with an origin of its own takes the pair's (R456, R459): its lines go on, at the
positions of that origin. -/
def Mach.shiftOrigin (m : Mach) (origin : Int) : Mach :=
  Mach.pairFlag { m with enc := { m.enc with origin := some origin } } 4 false

/-- The joining module aligns when its own index and the active module's lie within 1 us of each other (R459). -/
def Mach.alignJoin (m : Mach) : Mach :=
  match m.pair.peerIndex, m.pair.joinStamp with
  | some (t, count), some (own, raw) =>
    if m.pair.role != 4 || !decide ((own - t) + (t - own) ≤ 1000) then m
    else if m.enc.origin.isSome then m.shiftOrigin (raw - count)
    else if m.sys.mode = .idle then m.joinOrigin (raw - count)
    else m
  | _, _ => m

/-- An accepted index in a resynchronisation, of which stage 5 is the wait for it (R459). -/
def Mach.joinIndex (m : Mach) : Mach :=
  if m.pair.role = 1 && m.pair.resync = 5 then m.postJoin
  else if m.pair.role = 4 then Mach.alignJoin { m with pair := { m.pair with joinStamp := some (m.linkTime, m.enc.raw) } }
  else m

/-- A resynchronisation that waits for alignment goes on when the pair captures an origin (R459). -/
def Mach.capturedJoin (m : Mach) : Mach :=
  if m.pair.role = 1 && m.pair.resync = 5 then m.postJoin else if m.pair.role = 4 then m.pairFlag 4 false else m

/-- The origin is captured if the module waits for this source (R45). -/
def Mach.captureOn (m : Mach) (source : Nat) : Mach :=
  if m.enc.armed && m.enc.armSource = source && m.sys.mode = .armed then m.captureOrigin.capturedJoin else m

/-- GPIN_EDGE (R45): a rising edge. -/
def execGpinEdge (dt n : Nat) (s : State) : Res := s.actUnit dt "input" n 8 (fun m => m.captureOn (2 + n))

/-! ### The index (R49 to R53) -/

/-- An index is accepted: the first one after a write of 1 to INDEX_ARM uses the arming up, whatever the mode (R50). -/
def Mach.acceptIndex (m : Mach) : Mach :=
  let mode := m.nat 0x2108 0 0
  let sets := mode = 1 || (mode = 2 && m.enc.indexOnce)
  Mach.joinIndex { m with enc := { m.enc with
    indexRef := m.enc.raw, indexFree := false, indexSeen := true, indexOnce := false
    indexBase := if sets then m.enc.raw else m.enc.indexBase } }

/-- An index is judged (R52, R53). -/
def Mach.judgeIndex (m : Mach) : Mach :=
  let s := m.nat 0x2109 0 0
  let d := m.enc.raw - m.enc.indexRef
  let k : Int := max 1 ((2 * d + s) / (2 * max 1 s : Nat))
  if s = 0 || m.enc.indexFree then m.acceptIndex
  else if (d - k * (s : Int)).natAbs ≤ m.nat 0x210A 0 0 then
    if 1 < k then (m.record 0x0104 (p32 (k - 1)) (p32 m.enc.raw)).acceptIndex else m.acceptIndex
  else m.record 0x0103 (p32 d) s

/-- INDEX_PULSE (R51, R53): ignored while counting down and until BOOT has ended; it captures the origin where INDEX is the
source (R45). -/
def Mach.indexPulse (m : Mach) : Mach :=
  if m.enc.dirDown || m.sys.mode = .reset || m.sys.mode = .boot then m else m.judgeIndex.captureOn 1

/-- INDEX_PULSE. -/
def execIndexPulse (dt : Nat) (s : State) : Res := s.act dt (fun m => m.indexPulse)

/-- A write of INDEX_ARM (R42, R50, R53): 1 arms INDEX_ONCE; after any write INDEX_SEEN is 0 and the next index is free
(log entry 81). -/
def Mach.writeIndexArm (m : Mach) (w : Who) (v : Nat) : Mach :=
  m.guardedNum w 0x210B 0 v (fun m =>
    Mach.acceptNum { m with enc := { m.enc with
      indexOnce := m.enc.indexOnce || v = 1, indexSeen := false, indexFree := true } } w 0x210B 0 0 1 v)

/-- INDEX_ARM. -/
def execIndexArm (dt sid v : Nat) (s : State) : Res := s.act dt (fun m => m.writeIndexArm (.host sid) v)

end Sys2Proof.Machine
end

