-- ==== Sys2Proof/Machine/Fixed.lean ====
section
/-! DEFINITION. Fixed-point arithmetic of the colour loop (R307): numbers are integers in units of 2^-F, where F is
`fxBits`; roots, logarithms, powers and angles are computed to that grid (log entry 30). -/

namespace Sys2Proof.Machine

/-- The fraction bits of the loop's arithmetic: 16 or more (R307). -/
def fxBits : Nat := 16 + Config.loopBits

/-- 1 in fixed point. -/
def fxOne : Int := 2 ^ fxBits

/-- A fraction a/b in fixed point. -/
def fxOf (a : Int) (b : Nat) : Int := a * fxOne / (b : Int)

/-- The product. -/
def fxMul (a b : Int) : Int := a * b / fxOne

/-- The quotient; callers see to a divisor that is not 0. -/
def fxDiv (a b : Int) : Int := a * fxOne / b

/-- The power of a small exponent. -/
def fxPow (a : Int) (n : Nat) : Int := (List.range n).foldl (fun acc _ => fxMul acc a) fxOne

/-- The number of series terms that reach the grid for arguments of at most 1/2 in size. -/
def fxTerms : Nat := fxBits + 8

/-! ### Roots -/

/-- The square root of a number that is not negative. -/
def fxSqrt (a : Int) : Int := natRoot 2 (a.toNat * 2 ^ fxBits)

/-- The cube root of a number that is not negative. -/
def fxCbrt (a : Int) : Int := natRoot 3 (a.toNat * 2 ^ (2 * fxBits))

/-! ### Logarithms and exponentials -/

/-- The odd series z + s z^3/3 + z^5/5 + s z^7/7 ..., where s is the sign of every second term. -/
def fxOdd (s : Int) (z : Int) : Int :=
  ((List.range fxTerms).foldl (fun (acc : Int × Int) i =>
    (fxMul (s * acc.1) (fxMul z z), acc.2 + acc.1 / (2 * i + 1 : Nat))) (z, 0)).2

/-- The natural logarithm of 2. -/
def fxLn2 : Int := 2 * fxOdd 1 (fxOf 1 3)

/-- The natural logarithm of 10: three doublings and 5/4. -/
def fxLn10 : Int := 3 * fxLn2 + 2 * fxOdd 1 (fxOf 1 9)

/-- The natural logarithm of a ratio of positive numbers: a power of two, and a rest between 1/2 and 2. -/
def fxLn (a b : Nat) : Int :=
  let k : Int := (Nat.log2 a : Int) - Nat.log2 b
  let rest := fxOf ((a : Int) * 2 ^ (-k).toNat) (b * 2 ^ k.toNat)
  k * fxLn2 + 2 * fxOdd 1 (fxDiv (rest - fxOne) (rest + fxOne))

/-- The decimal logarithm of a ratio of positive numbers. -/
def fxLog10 (a b : Nat) : Int := fxDiv (fxLn a b) fxLn10

/-- The exponential: whole doublings, and the series of the rest. -/
def fxExp (x : Int) : Int :=
  let k := x / fxLn2
  let r := x - k * fxLn2
  let sum := ((List.range fxTerms).foldl (fun (acc : Int × Int) i => (fxMul acc.1 r / (i + 1 : Nat), acc.2 + acc.1)) (fxOne, 0)).2
  sum * 2 ^ k.toNat / 2 ^ (-k).toNat

/-- A number times a power of ten. -/
def fxPow10 (a x : Int) : Int := fxMul a (fxExp (fxMul x fxLn10))

/-! ### Angles, in radians -/

/-- Half a turn. -/
def fxPi : Int := 16 * fxOdd (-1) (fxOf 1 5) - 4 * fxOdd (-1) (fxOf 1 239)

/-- An angle in degrees. -/
def fxDeg (d : Int) : Int := fxMul d fxPi / 180

/-- The cosine: the angle in half a turn either way, and an even series of a quarter of it, doubled twice. -/
def fxCos (x : Int) : Int :=
  let turn := x - (x + fxPi) / (2 * fxPi) * (2 * fxPi)
  let q := turn / 4
  let c := ((List.range fxTerms).foldl (fun (acc : Int × Int) i =>
    (-(fxMul acc.1 (fxMul q q)) / ((2 * i + 1) * (2 * i + 2) : Nat), acc.2 + acc.1)) (fxOne, 0)).2
  let double := fun v => 2 * fxMul v v - fxOne
  double (double c)

/-- The sine. -/
def fxSin (x : Int) : Int := fxCos (x - fxPi / 2)

/-- The arc tangent of a number between 0 and 1: an angle halved twice and its series. -/
def fxAtan01 (t : Int) : Int :=
  let half := fun v => fxDiv v (fxOne + fxSqrt (fxOne + fxMul v v))
  4 * fxOdd (-1) (half (half t))

/-- The angle of a point other than the origin, from 0 to a whole turn. -/
def fxAngle (x y : Int) : Int :=
  let a := if |y| ≤ |x| then fxAtan01 (fxDiv |y| |x|) else fxPi / 2 - fxAtan01 (fxDiv |x| |y|)
  if 0 ≤ x then (if 0 ≤ y then a else 2 * fxPi - a)
  else if 0 ≤ y then fxPi - a
  else fxPi + a

end Sys2Proof.Machine
end

