-- ==== Sys2Proof/Machine/PrinterModel.lean ====
section
/-! DEFINITION. The printer model and what the colour loop computes with it (R306, R307, R312, R313): the expected values
of an area, CIELAB and colour differences, and the tone errors of a zone by weighted least squares. CIELAB, D50 and the
difference formula are those of the CIE (PRESUMED); what the formulas leave open is free (log entry 30). -/

namespace Sys2Proof.Machine

/-! ### The printer model (R306, R307) -/

/-- PAPER of a colour: 0 for R, 1 for G, 2 for B. -/
def modelPaper (b : Bytes) (j : Nat) : Nat := leAt b (4 + 2 * j) 2

/-- An entry of XYZ_MATRIX, in units of 2^-20. -/
def modelMatrix (b : Bytes) (i j : Nat) : Int := toInt 32 (leAt b (16 + 4 * (3 * i + j)) 4)

/-- D(c, k, j) of DENSITY. -/
def modelDensity (b : Bytes) (c k j : Nat) : Int := toInt 16 (leAt b (56 + 2 * ((c * 17 + k) * 3 + j)) 2)

/-- The point at or below an ink value, and never the last. -/
def pointBelow (v : Nat) : Nat := min (v / 16) 15

/-- The distance between a point and the next. -/
def pointGap (k : Nat) : Nat := zoneInput (k + 1) - zoneInput k

/-- d(c, v, j) in 1/240 of 0.001 density: every gap between points divides 240. -/
def density240 (b : Bytes) (c v j : Nat) : Int :=
  let k := pointBelow v
  (modelDensity b c k j * ((zoneInput (k + 1) : Int) - v) + modelDensity b c (k + 1) j * ((v : Int) - zoneInput k))
    * (240 / pointGap k : Nat)

/-- e(j) of a reference pixel with these ink values, in fixed point. -/
def expectedPixel (b : Bytes) (inks : List Nat) (j : Nat) : Int :=
  let d := ((List.range 8).map (fun c => density240 b c (nth inks c 0) j)).foldl (· + ·) 0
  fxPow10 (fxOf (modelPaper b j) 1) (fxOf (-d) 240000)

/-! ### Measurements -/

/-- One measurement (R308): its zone, its pixel count, the channel of a patch, the sums of R, G and B over so many
values, and the ink values of each reference pixel whose centre lies in the area, of which there is at least one. -/
structure LoopItem where
  zone : Nat
  weight : Nat
  chan : Option Nat
  rgb : List Nat
  per : Nat
  refs : List (List Nat)
  deriving DecidableEq, Repr

/-- The expected value of the area: the mean of e(j) (R307). -/
def LoopItem.expected (i : LoopItem) (b : Bytes) (j : Nat) : Int :=
  (i.refs.map (fun r => expectedPixel b r j)).foldl (· + ·) 0 / (i.refs.length : Int)

/-- The measured value. -/
def LoopItem.measured (i : LoopItem) (j : Nat) : Int := fxOf (nth i.rgb j 0) i.per

/-- The mean ink value of a channel over the area. -/
def LoopItem.ink (i : LoopItem) (c : Nat) : Rat := mkRat (sumOf (i.refs.map (fun r => nth r c 0))) i.refs.length

/-- The measurement carries weight for a channel (R309). -/
def LoopItem.carries (i : LoopItem) (c : Nat) : Bool :=
  (match i.chan with | some k => decide (k = c) | none => true) && decide (0 < i.ink c)

/-- r(j): the density error; a value that is not above 0 has no logarithm, and the error is then open. -/
def LoopItem.error (i : LoopItem) (b : Bytes) (j : Nat) : Rat :=
  let e := i.expected b j
  let v := i.measured j
  if 0 < e && 0 < v then mkRat (1000 * fxLog10 e.toNat v.toNat) (2 ^ fxBits)
  else mkRat (Config.loopOpen 1 [j, e, v]) (2 ^ fxBits)

/-! ### Colour differences (R307, R313) -/

/-- CIE f: the cube root, and a line near 0. -/
def labF (t : Int) : Int :=
  if fxOf 216 24389 < t then fxCbrt t else (fxMul (fxOf 24389 27) t + 16 * fxOne) / 116

/-- CIELAB under D50 of linear camera values, through XYZ_MATRIX. -/
def labOf (b : Bytes) (rgb : Nat → Int) : Int × Int × Int :=
  let xyz := fun i => ((List.range 3).map (fun j => modelMatrix b i j * rgb j)).foldl (· + ·) 0 / (2 ^ 20 * 65520)
  let f := fun i white => labF (fxDiv (xyz i) (fxOf white 10000))
  let y := f 1 10000
  (116 * y - 16 * fxOne, 500 * (f 0 9642 - y), 200 * (y - f 2 8249))

/-- The mean of two hues, each from 0 to a turn, along the shorter way; the sum where a colour has no hue. -/
def hueMean (grey : Bool) (h1 h2 : Int) : Int :=
  if grey then h1 + h2
  else if |h1 - h2| ≤ fxPi then (h1 + h2) / 2
  else if h1 + h2 < 2 * fxPi then (h1 + h2) / 2 + fxPi
  else (h1 + h2) / 2 - fxPi

/-- The difference of two hues along the shorter way. -/
def hueStep (grey : Bool) (h1 h2 : Int) : Int :=
  if grey then 0
  else if h2 - h1 < -fxPi then h2 - h1 + 2 * fxPi
  else if fxPi < h2 - h1 then h2 - h1 - 2 * fxPi
  else h2 - h1

/-- The share of the seventh power of a chroma in its sum with that of 25, as a root. -/
def chromaShare (c : Int) : Int :=
  let p := fxPow c 7
  fxSqrt (fxDiv p (p + 25 ^ 7 * fxOne))

/-- The CIEDE2000 difference of two CIELAB colours, with all factors 1. -/
def deltaE00 (p q : Int × Int × Int) : Int :=
  let chroma := fun x y => fxSqrt (fxMul x x + fxMul y y)
  let stretch := fxOne + (fxOne - chromaShare ((chroma p.2.1 p.2.2 + chroma q.2.1 q.2.2) / 2)) / 2
  let a1 := fxMul p.2.1 stretch
  let a2 := fxMul q.2.1 stretch
  let c1 := chroma a1 p.2.2
  let c2 := chroma a2 q.2.2
  let hue := fun (x y : Int) => if x = 0 && y = 0 then 0 else fxAngle x y
  let h1 := hue a1 p.2.2
  let h2 := hue a2 q.2.2
  let grey := c1 = 0 || c2 = 0
  let dl := q.1 - p.1
  let dc := c2 - c1
  let dh := 2 * fxMul (fxSqrt (fxMul c1 c2)) (fxSin (hueStep grey h1 h2 / 2))
  let lm := (p.1 + q.1) / 2
  let cm := (c1 + c2) / 2
  let hm := hueMean grey h1 h2
  let deg := fun (d : Int) => fxDeg (d * fxOne)
  let t := fxOne - fxMul (fxOf 17 100) (fxCos (hm - deg 30)) + fxMul (fxOf 24 100) (fxCos (2 * hm))
    + fxMul (fxOf 32 100) (fxCos (3 * hm + deg 6)) - fxMul (fxOf 20 100) (fxCos (4 * hm - deg 63))
  let off := fxDiv (hm - deg 275) (deg 25)
  let turn := 30 * fxExp (-(fxMul off off))
  let l50 := fxMul (lm - 50 * fxOne) (lm - 50 * fxOne)
  let sl := fxOne + fxDiv (fxMul (fxOf 15 1000) l50) (fxSqrt (20 * fxOne + l50))
  let sc := fxOne + fxMul (fxOf 45 1000) cm
  let sh := fxOne + fxMul (fxOf 15 1000) (fxMul cm t)
  let rt := -2 * fxMul (fxSin (2 * fxDeg turn)) (chromaShare cm)
  let x := fxDiv dl sl
  let y := fxDiv dc sc
  let z := fxDiv dh sh
  fxSqrt (fxMul x x + fxMul y y + fxMul z z + fxMul rt (fxMul y z))

/-- The difference between what an area should and does look like. -/
def LoopItem.colourError (i : LoopItem) (b : Bytes) : Int := deltaE00 (labOf b (i.expected b)) (labOf b i.measured)

/-- The weighted mean difference of the measurements that carry weight for a channel; none without one (R313). -/
def zoneDelta (b : Bytes) (items : List LoopItem) (c : Nat) : Option Int :=
  let mine := items.filter (fun i => i.carries c)
  if mine.isEmpty then none
  else some ((mine.map (fun i => (i.weight : Int) * i.colourError b)).foldl (· + ·) 0 / (max 1 (sumOf (mine.map (fun i => i.weight))) : Nat))

/-! ### Tone errors by least squares (R312) -/

/-- The share of point k in the linear interpolation at an ink value. -/
def pointShare (v : Rat) (k : Nat) : Rat :=
  if v ≤ zoneInput k then
    if k = 0 then 1 else max 0 ((v - zoneInput (k - 1)) / pointGap (k - 1))
  else if k < 16 then max 0 ((zoneInput (k + 1) - v) / pointGap k)
  else 0

/-- The slope of d(c, ., j) at an ink value. -/
def densitySlope (b : Bytes) (c j : Nat) (v : Rat) : Rat :=
  let k := pointBelow v.floor.toNat
  mkRat (modelDensity b c (k + 1) j - modelDensity b c k j) (pointGap k)

/-- The slope of a tone curve at an ink value: the step from the entry at or below it to the next. -/
def toneSlope (curve : Bytes) (v : Rat) : Rat :=
  let i := min v.floor.toNat 254
  (leAt curve (2 * (i + 1)) 2 : Rat) - leAt curve (2 * i) 2

/-- s(c, j); open over a flat tone curve. -/
def errorSlope (b curve : Bytes) (c j : Nat) (v : Rat) : Rat :=
  let t := toneSlope curve v
  if t = 0 then mkRat (Config.loopOpen 2 [c, j, v.num, v.den]) (2 ^ fxBits) else densitySlope b c j v / t

/-- The total weight of the measurements that reach point k of a channel. -/
def pointWeight (items : List LoopItem) (c k : Nat) : Nat :=
  sumOf ((items.filter (fun i => i.carries c && pointShare (i.ink c) k != 0)).map (fun i => i.weight))

/-- The unknowns that are estimated, as channel and point. -/
def unknownsOf (items : List LoopItem) (minPx : Nat) : List (Nat × Nat) :=
  (List.range 136).filterMap (fun u =>
    let w := pointWeight items (u / 17) (u % 17)
    if w != 0 && decide (minPx ≤ w) then some (u / 17, u % 17) else none)

/-- One equation: its coefficients by unknown with the error after them, and its weight. -/
abbrev Equation := List Rat × Nat

/-- The equations of a measurement, one for each colour. -/
def LoopItem.equations (i : LoopItem) (b : Bytes) (curves : Nat → Bytes) (unknowns : List (Nat × Nat)) : List Equation :=
  (List.range 3).map (fun j =>
    (unknowns.map (fun u =>
      if i.carries u.1 then errorSlope b (curves u.1) u.1 j (i.ink u.1) * pointShare (i.ink u.1) u.2 else 0) ++ [i.error b j], i.weight))

/-- The normal equations of n unknowns. -/
def normalRows (n : Nat) (eqs : List Equation) : List (List Rat) :=
  (List.range n).map (fun u => (List.range (n + 1)).map (fun v =>
    (eqs.map (fun e => (e.2 : Rat) * nth e.1 u 0 * nth e.1 v 0)).foldl (· + ·) 0))

/-- A row less a multiple of another. -/
def rowLess (a b : List Rat) (f : Rat) : List Rat := (List.range a.length).map (fun i => nth a i 0 - f * nth b i 0)

/-- One unknown is eliminated from all rows but one, where a row still holds it. -/
def eliminate (acc : List (Nat × List Rat) × List (List Rat)) (u : Nat) : List (Nat × List Rat) × List (List Rat) :=
  match firstWhere (fun r => nth r u 0 != 0) acc.2 with
  | none => acc
  | some r =>
    let p := r.map (fun x => x / nth r u 0)
    let clear := fun (x : List Rat) => rowLess x p (nth x u 0)
    (acc.1.map (fun e => (e.1, clear e.2)) ++ [(u, p)], (acc.2.erase r).map clear)

/-- The solution of the normal equations: an unknown that they leave open takes the value given for it. -/
def solveRows (n : Nat) (rows : List (List Rat)) (free : Nat → Rat) : List Rat :=
  let done := ((List.range n).foldl eliminate ([], rows)).1
  let open_ := (List.range n).filter (fun u => !done.any (fun e => e.1 = u))
  (List.range n).map (fun u =>
    match firstWhere (fun (e : Nat × List Rat) => e.1 == u) done with
    | some e => nth e.2 n 0 - (open_.map (fun f => nth e.2 f 0 * free f)).foldl (· + ·) 0
    | none => free u)

/-- δ(z, c, k) of every unknown that the measurements of a zone let the loop estimate, as channel, point and value. -/
def zoneEstimate (b : Bytes) (curves : Nat → Bytes) (minPx zone : Nat) (items : List LoopItem) : List ((Nat × Nat) × Rat) :=
  let unknowns := unknownsOf items minPx
  let n := unknowns.length
  let data := items.flatMap (fun i => i.rgb.map (fun v => (v : Int)))
  let free := fun (u : Nat) => mkRat (Config.loopOpen 3 ((zone : Int) :: (u : Int) :: data)) (2 ^ fxBits)
  unknowns.zip (solveRows n (normalRows n (items.flatMap (fun i => i.equations b curves unknowns))) free)

end Sys2Proof.Machine
end

