-- ==== Sys2Proof/Machine/Loop.lean ====
section
/-! DEFINITION. The colour loop: cycles, measurements, corrections, nozzle bands, posting, learning and baselines
(R300 to R334). -/

namespace Sys2Proof.Machine

/-! ### Where a sensor frame looks (R265, R272, R293) -/

/-- A window entry of CAM_WINDOWS. -/
structure Window where
  x : Nat
  y : Nat
  w : Nat
  h : Nat
  mode : Nat
  staticOnly : Bool
  mask : Nat
  deriving DecidableEq, Repr

/-- Entry i of CAM_WINDOWS. -/
def windowAt (b : Bytes) (i : Nat) : Window :=
  let f := fun off n => leAt b (16 * i + off) n
  { x := f 0 2, y := f 2 2, w := f 4 2, h := f 6 2, mode := f 8 1, staticOnly := bit (f 9 1) 0, mask := f 12 4 }

/-- The windows that a sensor frame uses (R80, R293). -/
def Mach.windows (m : Mach) (c line : Nat) : List Window :=
  let b := m.rsBlob 0x6031 0 c line
  (List.range 32).map (windowAt b)

/-- The window applies to a trigger index; bit 0 stands for every frame outside FRAME_LOCKED. -/
def Window.applies (w : Window) (index : Nat) : Bool := w.mode != 0 && bit w.mask (if index = 0xFF then 0 else index % 32)

/-- The web line that row k views (R272). -/
def Mach.rowLine (m : Mach) (c line k : Nat) : Nat := line + m.nat 0x6004 5 c * k / 256

/-- The left edge of column x in 1/256 nozzles (R272). -/
def Mach.columnAt (m : Mach) (c x : Nat) : Int := 256 * m.num 0x6004 3 c + (m.nat 0x6004 4 c * x : Nat)

/-- The last line that a sensor frame views. -/
def Mach.lastView (m : Mach) (c line : Nat) : Nat := m.rowLine c line ((m.sensor c).rows - 1)

/-- A line lies in a frame that carries a REJECT mark (R272, R309). -/
def Mach.rejectedIn (m : Mach) (first last : Nat) : Bool :=
  m.comp.frames.any (fun f => f.causes != 0 && decide (f.first ≤ last) && decide (first ≤ f.last))

/-! ### Cycles (R300, R310, R311, R325, R331) -/

/-- A field of LOOP_POLICY as the cycle took it. -/
def Loop.pol (l : Loop) (sub : Nat) : Nat := nth l.policy (sub - 1) 0

/-- The first frame that begins at or after a line; a job seam before it starts its own first frame. -/
def Mach.frameFrom (m : Mach) (w : Nat) : Option Nat :=
  let s := m.frameFirst w + (if m.frameFirst w = w then 0 else max 1 (m.jobNat 2 w))
  let s1 := if m.jobLine s = m.jobLine w then s else m.jobLine s
  if (m.frameNo s1).isSome then some s1 else none

/-- The loop's next cycle may begin with a sensor frame that views lines up to w: it takes its settings (R300, R310, R315,
R316). -/
def Mach.loopStart (m : Mach) (w : Nat) : Mach :=
  if m.loop.cycleFrom.isSome || m.loop.computing.isSome then m
  else
    match m.frameFrom (max m.enc.firstLine (max m.loop.notBefore m.loop.lastApplied)) with
    | none => m
    | some s =>
      if w < s then m
      else if m.nat 0x7001 0 0 = 0 then
        { m with loop := { m.loop with mode := 0, meas := [], notBefore := m.frameFirst w + max 1 (m.jobNat 2 w) } }
      else
        { m with loop := { m.loop with
            mode := m.nat 0x7001 0 0
            policy := (List.range 12).map (fun i => m.nat 0x7002 (i + 1) 0)
            coefs := allBars.map (fun k => (k, (m.num 0x7004 1 k, m.blob 0x7004 2 k)))
            cycleFrom := some s
            cycleFrames := if m.loop.learning != 0 then 1 else m.nat 0x7002 1 0
            temps := [], peerStats := 0 } }

/-- A camera's results for a sensor frame come to the loop (R294, R300, R326, R331). -/
def Mach.loopTake (m : Mach) (x : Meas) : Mach :=
  if !m.decides || !m.printing || m.enc.origin.isNone || x.tag.line = noLine || bit x.tag.flags 4 then m
  else
    let m1 := m.loopStart (m.lastView x.cam x.tag.line)
    if m1.loop.mode = 0 then m1 else { m1 with loop := { m1.loop with meas := m1.loop.meas ++ [x] } }

/-- The last line of a cycle that begins at a line. -/
def Mach.cycleLast (m : Mach) (s : Nat) : Nat := s + m.loop.cycleFrames * max 1 (m.jobNat 2 s) - 1

/-- A sensor frame that views lines up to a line may still come: one is awaited, or a trigger is still ahead. -/
def Mach.awaits (m : Mach) (first last : Nat) : Bool :=
  allCams.any (fun c =>
    let x := m.cam c
    let views := fun (w : Nat) => decide (w ≤ last) && decide (first ≤ m.lastView c w)
    x.shots.any (fun s => views s.tag.line) || (match x.cur with | some s => views s.tag.line | none => false)
      || (x.phase = 2 && (List.range (last + 1 - x.trigNext)).any (fun i =>
            views (x.trigNext + i) && (m.trigAt c (x.trigNext + i)).isSome)))

/-- The rows of a window, as the first and last line viewed. -/
def Mach.windowLines (m : Mach) (c line : Nat) (w : Window) : Nat × Nat :=
  (m.rowLine c line w.y, m.rowLine c line (w.y + w.h - 1))

/-- What a cycle's closing leaves out of a measurement: windows whose rows view a frame that carries a mark (R309). -/
def Mach.leaveRejects (m : Mach) (x : Meas) : Meas :=
  let ws := m.windows x.cam x.tag.line
  { x with wins := (List.range x.wins.length).map (fun i =>
      let r := nth x.wins i {}
      let l := m.windowLines x.cam x.tag.line (windowAt (m.rsBlob 0x6031 0 x.cam x.tag.line) i)
      if decide (i < ws.length) && m.rejectedIn l.1 l.2 then { r with valid := false } else r) }

/-- The cycle closes when no sensor frame of its last frame is awaited (R311); one that a job seam cuts is discarded
(R325). -/
def Mach.loopClose (m : Mach) : Mach :=
  match m.loop.cycleFrom, m.loop.computing with
  | some s, none =>
    let last := m.cycleLast s
    let lastFrame := last + 1 - max 1 (m.jobNat 2 s)
    if m.awaits lastFrame last then m
    else if m.jobLine last != m.jobLine s then
      { m with loop := { m.loop with cycleFrom := none, notBefore := m.jobLine last } }
    else
      { m with loop := { m.loop with
          cycles := m.loop.cycles + 1, computing := some m.now, meas := m.loop.meas.map m.leaveRejects } }
  | _, _ => m

/-! ### Measurements (R303, R307 to R309) -/

/-- A seam that carries LOOP or NOZZLE applies within lines. -/
def Mach.cutsLoop (m : Mach) (first last : Nat) : Bool :=
  m.seams.vals.any (fun v => (bit v.scope 3 || bit v.scope 4) && decide (first ≤ v.applied) && decide (v.applied ≤ last))

/-- The reference line of a bar in the ring. -/
def Mach.refLine (m : Mach) (k w : Nat) : Option RefLine := firstWhere (fun r => r.bar == k && r.line == w) m.comp.ring

/-- An area that a camera views: its edges along the web in 1/256 lines, and across it in 1/256 nozzles. -/
structure Area where
  top : Nat
  bottom : Nat
  left : Int
  right : Int
  deriving DecidableEq, Repr

/-- The centre of step i of a grid, in 1/256, lies between two edges; the centres are doubled to stay whole. -/
def centreIn (step : Nat) (lo hi : Int) (i : Nat) : Bool :=
  decide (2 * lo ≤ 256 * (2 * step * i + step : Nat)) && decide ((256 * (2 * step * i + step : Nat) : Int) < 2 * hi)

/-- The rows of a window, from column a to before column z, as an area (R272). -/
def Mach.areaOf (m : Mach) (c line : Nat) (w : Window) (a z : Nat) : Area :=
  { top := 256 * line + m.nat 0x6004 5 c * w.y, bottom := 256 * line + m.nat 0x6004 5 c * (w.y + w.h)
    left := m.columnAt c a, right := m.columnAt c z }

/-- The reference lines whose centres lie in an area. -/
def Mach.refRows (m : Mach) (a : Area) : List Nat :=
  let s := refScale (m.nat 0x5030 0 0)
  let first := a.top / 256 / s
  ((List.range (a.bottom / 256 / s + 1 - first)).map (first + ·)).filter (centreIn s a.top a.bottom)

/-- What the ring holds of reference line q of a bar, by web line. -/
def Mach.refLines (m : Mach) (k q : Nat) : List RefLine :=
  m.comp.ring.filter (fun r => r.bar = k && r.line / refScale (m.nat 0x5030 0 0) = q)

/-- Reference pixel p of reference line q: the mean ink value of its positions (R145); a run's first and last reference
line may hold fewer web lines than REF_SCALE (log entry 30). -/
def Mach.refPixel (m : Mach) (k q p : Nat) : Nat :=
  let l := m.refLines k q
  meanOver (sumOf (l.map (fun r => nth r.pixels p 0))) (refScale (m.nat 0x5030 0 0) * l.length)

/-- The reference lines of an area that the ring does not hold for every bar (R148). -/
def Mach.missedLines (m : Mach) (a : Area) : Nat :=
  ((m.refRows a).filter (fun q => allBars.any (fun k => (m.refLines k q).isEmpty))).length

/-- The ink values of all bars at each reference pixel whose centre lies in an area. -/
def Mach.refPixels (m : Mach) (a : Area) : List (List Nat) :=
  let s := refScale (m.nat 0x5030 0 0)
  (m.refRows a).flatMap (fun q =>
    let width := ((m.refLines 0 q).head?.map (fun r => r.pixels.length)).getD 0
    ((List.range width).filter (centreIn s a.left a.right)).map (fun p => allBars.map (fun k => m.refPixel k q p)))

/-- The measurement of an area: the sums of what the camera read over so many values; none where no reference pixel has
its centre in the area (log entry 30). -/
def Mach.loopItem (m : Mach) (zone : Nat) (chan : Option Nat) (a : Area) (weight : Nat) (rgb : List Nat) (per : Nat) : Option LoopItem :=
  let refs := m.refPixels a
  if refs.isEmpty then none else some { zone := zone, weight := weight, chan := chan, rgb := rgb, per := per, refs := refs }

/-- The columns of a window that lie inside the 192 nozzles from n on and PATCH_MARGIN columns away from either end of
them (R308). -/
def Mach.patchColumns (m : Mach) (c : Nat) (w : Window) (n : Nat) : List Nat :=
  let margin : Nat := m.nat 0x6004 4 c * m.loop.pol 12
  (List.range w.w).filter (fun i =>
    decide ((256 * n + margin : Nat) ≤ m.columnAt c (w.x + i)) && decide (m.columnAt c (w.x + i + 1) + margin ≤ (256 * (n + 192) : Nat)))

/-- A window's rows view patch lines only, or lines outside the gutter only (R308). -/
def Mach.rowsIn (m : Mach) (first last : Nat) (patch : Bool) : Bool :=
  (List.range (last + 1 - first)).all (fun i =>
    let w := first + i
    let f := m.frameFirst w
    let g := fun sub => m.rsNat 0x7021 sub 0 f
    let y := w - f
    let isPatch := decide (g 1 ≤ y) && decide (y < g 1 + g 2)
    let isBand := decide (g 4 ≤ y) && decide (y < g 4 + 16 * g 5)
    (m.frameNo w).isSome && (if patch then isPatch else !isPatch && !isBand))

/-- The index of the window that profiles a rectangle in a colour. -/
def profileOf (ws : List Window) (w : Window) (mode : Nat) : Option Nat :=
  firstWhere (fun i => match ws[i]? with
    | some v => v.mode == mode && v.x == w.x && v.y == w.y && v.w == w.w && v.h == w.h
    | none => false) (List.range ws.length)

/-- The patch measurements of a PROFILE_R window with its two fellows (R308). -/
def Mach.patchItems (m : Mach) (x : Meas) (ws : List Window) (i : Nat) : List LoopItem :=
  let w := nth ws i (windowAt [] 0)
  match profileOf ws w 3, profileOf ws w 4 with
  | some g, some b =>
    let r := [i, g, b].map (fun j => nth x.wins j {})
    let l := m.windowLines x.cam x.tag.line w
    if r.all (fun v => v.valid) && m.rowsIn l.1 l.2 true then
      (List.range 512).filterMap (fun q =>
        let cols := m.patchColumns x.cam w (192 * q)
        match cols.head?, cols.getLast? with
        | some a, some z =>
          let weight := cols.length * w.h
          if m.loop.pol 8 ≤ weight then
            m.loopItem (q / 8) (some (q % 8)) (m.areaOf x.cam x.tag.line w (w.x + a) (w.x + z + 1)) weight
              (r.map (fun v => sumOf (cols.map (fun col => nth v.profile col 0)))) cols.length
          else none
        | _, _ => none)
    else []
  | _, _ => []

/-- The in-image measurement of a window (R308). -/
def Mach.imageItem (m : Mach) (x : Meas) (w : Window) (i : Nat) : Option LoopItem :=
  let r := nth x.wins i {}
  let l := m.windowLines x.cam x.tag.line w
  let centre := m.columnAt x.cam w.x + (m.nat 0x6004 4 x.cam * w.w / 2 : Nat)
  if r.valid && w.staticOnly && m.rowsIn l.1 l.2 false && decide (m.loop.pol 8 ≤ r.px) && decide (0 ≤ centre)
      && decide (centre < 256 * 98304) then
    m.loopItem (centre.toNat / 256 / 1536) none (m.areaOf x.cam x.tag.line w w.x (w.x + w.w)) r.px [r.r, r.g, r.b] 1
  else none

/-- A window that may be measured: within the cycle, and cut by no seam of the loop's tables (R309, R310). -/
def Mach.usable (m : Mach) (s last : Nat) (x : Meas) (w : Window) : Bool :=
  let l := m.windowLines x.cam x.tag.line w
  w.applies x.tag.trigIndex && decide (s ≤ l.1) && decide (l.2 ≤ last) && !m.cutsLoop l.1 l.2

/-- The lines missed by a sensor frame's windows, and its measurements (R148, R308, R309). -/
def Mach.measItems (m : Mach) (s last : Nat) (x : Meas) : List LoopItem × List Nat :=
  let ws := m.windows x.cam x.tag.line
  let each := (List.range 32).filterMap (fun i =>
    let w := nth ws i (windowAt [] 0)
    if m.usable s last x w then
      let items := if w.mode = 2 then m.patchItems x ws i else if w.mode = 1 then (m.imageItem x w i).toList else []
      if items.isEmpty then none else some (items, m.missedLines (m.areaOf x.cam x.tag.line w w.x (w.x + w.w)))
    else none)
  ((each.filter (fun e => e.2 = 0)).flatMap (fun e => e.1), (each.filter (fun e => e.2 != 0)).map (fun e => e.2))

/-- The cycle's measurements; reference lines that were overwritten are recorded (R148). -/
def Mach.loopItems (m : Mach) (s last : Nat) : Mach × List LoopItem :=
  m.loop.meas.foldl (fun acc x =>
    let r := m.measItems s last x
    (r.2.foldl (fun a n => a.record 0x0209 x.cam n) acc.1, acc.2 ++ r.1)) (m, [])

/-! ### Corrections (R312 to R317, R329) -/

/-- What the loop computes of a zone: the mean colour difference of each channel, and its tone errors (R312, R313). -/
structure ZoneFit where
  errs : List (Option Int)
  deltas : List ((Nat × Nat) × Rat)
  deriving DecidableEq, Repr

/-- The fits of all zones, with the printer model and the tone curves of the cycle's first line. -/
def Mach.zoneFits (m : Mach) (items : List LoopItem) : List ZoneFit :=
  let s := m.loop.cycleFrom.getD 0
  let model := m.rsBlob 0x7020 0 0 s
  (List.range 64).map (fun z =>
    let mine := items.filter (fun i => i.zone = z)
    { errs := allBars.map (zoneDelta model mine)
      deltas := zoneEstimate model (fun k => m.rsBlob 0x4020 0 k s) (m.loop.pol 8) z mine })

/-- The offsets of a bar in effect at the last committed seam (R301, R314, R324). -/
def Mach.offsetsNow (m : Mach) (k : Nat) : Bytes := m.rsBlob 0x7010 0 k noLine

/-- An offset of a bar's ZONE_OFFSETS. -/
def offsetAt (b : Bytes) (i : Nat) : Int := toInt 16 (leAt b (2 * i) 2)

/-- The bytes of offsets. -/
def offsetBytes (l : List Int) : Bytes := l.flatMap (fun v => leBytes 2 (ofInt 16 v))

/-- The mean temperature of a zone in the cycle, in 0.1 degC, as a sum and a count (R317). -/
def Mach.zoneTemp (m : Mach) (k z : Nat) : Int × Nat :=
  let l := fget m.loop.temps (64 * k + z) []
  (l.foldl (· + ·) 0, l.length)

/-- The feed-forward part of o(z, k) (R317): COEF in 1/16 unit for each K, temperatures in 0.1 K. -/
def Mach.forwardPart (m : Mach) (k z p : Nat) (old : Int) : Int :=
  let t := m.zoneTemp k z
  let (tref, coef) := fget m.loop.coefs k (0, [])
  if p = 0 then 0
  else if t.2 = 0 then old
  else roundDiv (toInt 16 (leAt coef (2 * p) 2) * (t.1 - tref * (t.2 : Int))) (160 * t.2)

/-- What the computation gives for a zone of a bar: its mean colour difference, whether it was estimated, and its new
offsets with their feed-forward parts and the points held at OFFSET_LIMIT. -/
structure ZoneResult where
  err : Nat
  estimated : Bool
  offsets : List Int
  forward : List Int
  held : List Nat
  deriving DecidableEq, Repr

/-- The sum of an offset's changes within RATE_WINDOW lines before a line (R314). -/
def Loop.rateUsed (l : Loop) (bar index line : Nat) : Nat :=
  sumOf ((l.rate.filter (fun r => r.bar = bar && r.index = index && decide (line ≤ r.applied + l.pol 6) && decide (r.applied ≤ line))).map
    (fun r => r.size))

/-- A change of an offset under the limits of R314: the offset, and whether OFFSET_LIMIT held it. -/
def Mach.limited (m : Mach) (bar index line : Nat) (old want : Int) : Int × Bool :=
  let learn := bit m.loop.learning bar
  let step : Int := if learn then m.loop.pol 11 else m.loop.pol 4
  let d1 := clampI (-step) step (want - old)
  let room : Int := ((m.loop.pol 5 - m.loop.rateUsed bar index line : Nat) : Int)
  let d2 := if learn then d1 else clampI (-room) room d1
  let limit : Int := m.loop.pol 7
  (clampI (-limit) limit (old + d2), decide (limit < |old + d2|))

/-- The computation for a zone of a bar (R313, R314, R317, R332). -/
def Mach.zoneResult (m : Mach) (fit : ZoneFit) (k z line : Nat) : ZoneResult :=
  let old := m.offsetsNow k
  let oldF := fget m.loop.forward k []
  let err := nth fit.errs k none
  let gain : Nat := if bit m.loop.learning k then m.loop.pol 10 else m.loop.pol 3
  let acts := match err with
    | some e => decide ((m.loop.pol 2 : Int) * fxOne < 100 * e)
    | none => false
  let delta := fun p => (firstWhere (fun (x : (Nat × Nat) × Rat) => x.1 == (k, p)) fit.deltas).map (fun x => x.2)
  let each := (List.range 17).map (fun p =>
    let i := 17 * z + p
    let o := offsetAt old i
    let f := nth oldF i 0
    let fb := o - f
    let fb1 := match delta p with
      | some d => if acts && p != 0 then fb + roundDiv ((gain : Int) * d.num) (16 * d.den) else fb
      | none => fb
    let f1 := m.forwardPart k z p f
    let r := if p = 0 then (0, false) else m.limited k i line o (fb1 + f1)
    (r.1, f1, r.2))
  { err := match err with | some e => min 0xFFFE (roundDiv (100 * e) (2 ^ fxBits)).toNat | none => 0xFFFF
    estimated := fit.deltas.any (fun x => x.1.1 = k && x.1.2 != 0)
    offsets := each.map (fun e => e.1), forward := each.map (fun e => e.2.1)
    held := (List.range 17).filter (fun p => (nth each p (0, 0, false)).2.2) }

/-- The results of all zones of a bar. -/
def Mach.barResult (m : Mach) (fits : List ZoneFit) (k line : Nat) : List ZoneResult :=
  (List.range fits.length).map (fun z => m.zoneResult (nth fits z { errs := [], deltas := [] }) k z line)

/-! ### Posting (R323, R324, R328) -/

/-- A committed seam that carries LOOP or NOZZLE applies within 16 lines of a line. -/
def Mach.nearSeam (m : Mach) (w : Nat) : Bool :=
  m.seams.vals.any (fun v => (bit v.scope 3 || bit v.scope 4) && decide (v.applied ≤ w + 16) && decide (w ≤ v.applied + 16))

/-- The first frame start of the job in effect at or after a line, past other seams of the loop's tables. -/
def Mach.jobFrame (m : Mach) (job w : Nat) : Nat → Option Nat
  | 0 => none
  | fuel + 1 =>
    match m.frameFrom w with
    | none => none
    | some s =>
      if m.jobLine s != job then none
      else if m.nearSeam s then m.jobFrame job (s + 1) fuel
      else some s

/-- The job in effect, by its first line (R116). -/
def Mach.jobLineNow (m : Mach) : Nat := m.jobLine ((m.lastComposed 0).getD m.enc.firstLine)

/-- The target of a loop seam (R323). -/
def Mach.loopTarget (m : Mach) : Option Nat :=
  m.jobFrame m.jobLineNow (m.fireNext 0 + m.nat 0x7002 9 0 - 1) 64

/-- A nozzle's edit is written to its bar's NOZZLE shadow. -/
def Mach.putNozzle (m : Mach) (e : Nat × Nat × Nat × Nat) : Mach :=
  m.setBlob 0x7101 0 e.1 (editMap (m.blob 0x7101 0 e.1) e.2.1 e.2.2.1 e.2.2.2 false)

/-- The shadows that a loop seam commits (R301). -/
def Mach.loopShadows (m : Mach) (p : LoopPost) : Mach :=
  p.edits.foldl Mach.putNozzle (p.zones.foldl (fun acc z => acc.setBlob 0x7010 0 z.1 z.2) m)

/-- Shadows of the loop as they were. -/
def Mach.oldShadows (m old : Mach) : Mach :=
  forEach allBars m (fun k acc => (acc.setBlob 0x7010 0 k (old.blob 0x7010 0 k)).setBlob 0x7101 0 k (old.blob 0x7101 0 k))

/-- LOOP_DEFERRED (R335). -/
def Mach.deferred (m : Mach) (cause : Nat) : Mach := m.record 0x0705 cause m.loop.cycles

/-- The loop seam is committed; a refusal is tried once more at the next frame's first line (R324). -/
def Mach.loopCommit (m : Mach) (p : LoopPost) (again : Bool) : Mach :=
  let id := m.loop.nextSeam
  let m1 := Mach.loopShadows { m with loop := { m.loop with nextSeam := if id = 0xF3FF then 0xF000 else id + 1, retry := none } } p
  let (m2, refused) := m1.commitOwn p.target p.scope id 3
  if refused then
    let m3 := m2.oldShadows m
    if again then m3.deferred 1
    else match m.jobFrame m.jobLineNow (p.target + 1) 64 with
      | some t => { m3 with loop := { m3.loop with retry := some { p with target := t } } }
      | none => m3.deferred 2
  else
    let bars := allBars.filter (fun k => p.edits.any (fun e => e.1 = k))
    let body := VerdictBody.loopCommit p.zones (bars.map (fun k => (k, m1.blob 0x7101 0 k)))
    let m3 := ((m1.sendVerdict body).commitOwn p.target p.scope id 3).1
    let items := p.sizes.map (fun s => ({ applied := p.target, bar := s.1, index := s.2.1, size := s.2.2 } : RateItem))
    Mach.recordAt { m3 with loop := { m3.loop with
        lastSeam := id, lastLine := p.target
        lastApplied := if bit p.scope 3 then p.target else m3.loop.lastApplied
        lastNozzle := if bit p.scope 4 then p.target else m3.loop.lastNozzle
        forward := p.forward
        rate := m3.loop.rate.filter (fun r => decide (p.target ≤ r.applied + 4194303)) ++ items
        resetBars := if bit p.scope 3 then 0 else m3.loop.resetBars
        resetSlots := if bit p.scope 3 then [] else m3.loop.resetSlots } }
      0x0701 (id + 65536 * p.scope) p.changed p.target

/-- A target that has come within 16 lines of another seam of the loop's tables moves on (R172, R323). -/
def Mach.clearTarget (m : Mach) (w : Nat) : Option Nat :=
  if m.nearSeam w then m.jobFrame m.jobLineNow (w + 1) 64 else some w

/-- The loop seam is posted. Where a bar's SHADOW bank of its tables is still loading the commit waits, as a host's does
(R171). -/
def Mach.loopPost (m : Mach) (p : LoopPost) (again : Bool) : Mach :=
  match m.clearTarget p.target with
  | none => m.deferred 2
  | some t =>
    if m.shadowsLoaded p.scope then m.loopCommit { p with target := t } again
    else
      let x : WaitingSeam := { who := .e13, target := t, scope := p.scope, id := m.loop.nextSeam, flags := 3, host := false, since := m.now }
      { m with
        seams := { m.seams with waiting := m.seams.waiting ++ [x] }
        loop := { m.loop with held := m.loop.held ++ [({ p with target := t }, again)], retry := none } }

/-- The SHADOW banks that a post of the loop waits for are loaded: its commit instant (R171). -/
def Mach.loopHeld (m : Mach) : Mach :=
  match m.loop.held with
  | [] => m
  | (p, again) :: rest => ({ m with loop := { m.loop with held := rest } } : Mach).loopPost p again

/-- LOOP_SEAM_RETRY. -/
def Mach.loopRetry (m : Mach) : Mach :=
  match m.loop.retry with
  | some p => m.loopPost p true
  | none => m

/-- LOOP_SEAM_RETRY. -/
def execLoopSeamRetry (dt : Nat) (s : State) : Res := s.act dt (fun m => m.loopRetry)

/-- The bar nozzles of a head slot, by head nozzle (R174). -/
def Mach.slotNozzleList (m : Mach) (p s : Nat) : List Nat :=
  let v := m.slot p s
  if slotOn v then (List.range (slotNozzles v)).map (fun h => 12288 * (p % 8) + slotPos v h) else []

/-- The edits that make the nozzles of the bars and slots to be reset neutral, where they are not MASKED (R327, R328). -/
def Mach.neutralEdits (m : Mach) : List (Nat × Nat × Nat × Nat) :=
  (List.range 512).flatMap (fun i =>
    let p := i / 8
    if bit m.loop.resetBars (barOf p) || m.loop.resetSlots.contains i then
      (m.slotNozzleList p (i % 8)).filterMap (fun n =>
        if stateOf (m.blob 0x7101 0 (barOf p)) n = 3 then none else some (barOf p, n, 0, 128))
    else [])

/-- The seam of a cycle's results: offsets of every bar, those of a reset bar being 0. -/
def Mach.cyclePost (m : Mach) (target : Nat) (results : List (List ZoneResult)) : LoopPost :=
  let new := allBars.map (fun k =>
    if bit m.loop.resetBars k then List.replicate 1088 0 else (nth results k []).flatMap (fun z => z.offsets))
  let old := allBars.map (fun k => (List.range 1088).map (offsetAt (m.offsetsNow k)))
  let sizes := allBars.flatMap (fun k => (List.range 1088).filterMap (fun i =>
    let d := (nth (nth new k []) i 0 - nth (nth old k []) i 0).natAbs
    if d = 0 then none else some (k, i, d)))
  let edits := m.neutralEdits
  { target := target, scope := 8 + (if edits.isEmpty then 0 else 16)
    zones := allBars.map (fun k => (k, offsetBytes (nth new k [])))
    edits := edits
    changed := sumOf (allBars.map (fun k => ((List.range 64).filter (fun z =>
      sizes.any (fun s => s.1 = k && s.2.1 / 17 = z))).length))
    sizes := sizes
    forward := allBars.map (fun k => (k, (nth results k []).flatMap (fun z => z.forward))) }

/-! ### The end of a cycle's computation (R311, R323, R329, R332, R334) -/

/-- Cameras in use. -/
def Mach.camsInUse (m : Mach) : Nat := maskOf (allCams.filter m.camEnabled)

/-- HALF_CAMERAS after a cycle (R332). -/
def Mach.halfCameras (m : Mach) : Mach :=
  let half := m.paired && (m.pair.bindFailed || m.pair.peerRole = 0xFF || m.loop.peerStats = 0)
  let m1 := if m.paired then m.pairFlag 0 half else m
  if half = m.loop.half then m1
  else Mach.record { m1 with loop := { m1.loop with half := half } } 0x0706 (b2n half) m.camsInUse

/-- A LEARNING bar counts a cycle that estimated half of its zones within WIDTH_NOZZLES (R329). -/
def Mach.learnBar (m : Mach) (k : Nat) (r : List ZoneResult) : Mach :=
  if !bit m.loop.learning k then m
  else
    let zones := m.jobNat 4 (m.loop.cycleFrom.getD 0) / 1536
    let known := ((r.take zones).filter (fun z => z.estimated)).length
    let taken := fget m.loop.taken k 0 + 1
    let left := fget m.loop.left k 0 - (if zones ≤ 2 * known then 1 else 0)
    let m1 := { m with loop := { m.loop with taken := fset m.loop.taken k taken, left := fset m.loop.left k left } }
    if left = 0 then Mach.record { m1 with loop := { m1.loop with learning := setBit m1.loop.learning k false } } 0x0703 k taken
    else m1

/-- The offsets held at OFFSET_LIMIT are recorded (R314). -/
def Mach.recordHeld (m : Mach) (results : List (List ZoneResult)) : Mach :=
  let held := allBars.flatMap (fun k => (List.range 64).flatMap (fun z =>
    match (nth results k [])[z]? with
    | some r => r.held.map (fun p => (k, z, p))
    | none => []))
  held.foldl (fun acc h => acc.record 0x0704 (h.1 + 256 * h.2.1) h.2.2)
    { m with loop := { m.loop with saturated := !held.isEmpty } }

/-- The next cycle begins at or after a line; results of sensor frames that view its lines are kept (R310). -/
def Mach.nextCycle (m : Mach) (line : Nat) : Mach :=
  let kept := m.loop.meas.filter (fun x => decide (max line m.loop.lastApplied ≤ m.lastView x.cam x.tag.line))
  let m1 := { m with loop := { m.loop with cycleFrom := none, computing := none, notBefore := line, meas := kept } }
  ((kept.getLast?.map (fun x => m1.loopStart (m1.lastView x.cam x.tag.line))).getD m1).loopClose

/-- The cycle's corrections are posted (R323). -/
def Mach.postCycle (m : Mach) (results : Nat → List (List ZoneResult)) : Mach :=
  match m.loopTarget with
  | none =>
    let p := m.cyclePost 0 (results m.enc.firstLine)
    if p.sizes.isEmpty && p.edits.isEmpty then m else m.deferred 2
  | some t =>
    let r := results t
    let p := m.cyclePost t r
    let m1 := m.recordHeld r
    if p.sizes.isEmpty && p.edits.isEmpty then m1 else m1.loopPost p false

/-- LOOP_COMPUTE_DONE. -/
def Mach.loopComputed (m : Mach) : Mach :=
  match m.loop.cycleFrom, m.loop.computing with
  | some s, some t =>
    if t + 20000000 < m.now then m
    else
      let last := m.cycleLast s
      let (m1, items) := m.loopItems s last
      let fits := m.zoneFits items
      let results := fun line => allBars.map (fun k => m.barResult fits k line)
      let r0 := results (m.loopTarget.getD 0)
      let m2 := { m1 with loop := { m1.loop with zoneErr := allBars.map (fun k => (k, (nth r0 k []).map (fun z => z.err))) } }
      let m3 := if m2.loop.mode = 2 then m2.postCycle results else m2
      let m4 := forEach allBars m3 (fun k acc => acc.learnBar k (nth r0 k []))
      m4.halfCameras.nextCycle (last + 1)
  | _, _ => m

/-- LOOP_COMPUTE_DONE. -/
def execLoopComputeDone (dt : Nat) (s : State) : Res := s.act dt (fun m => m.loopComputed)

/-- LOOP_COMPUTE_OVERRUN (R311). -/
def Mach.loopOverrun (m : Mach) : Mach :=
  match m.loop.cycleFrom, m.loop.computing with
  | some s, some t => if t + 20000000 ≤ m.now then (m.deferred 0).nextCycle (m.cycleLast s + 1) else m
  | _, _ => m

/-- LOOP_COMPUTE_OVERRUN. -/
def execLoopComputeOverrun (dt : Nat) (s : State) : Res := s.act dt (fun m => m.loopOverrun)

/-! ### Nozzle bands (R304, R318 to R322) -/

/-- The colour with the largest density of a bar at point 16, and that density (R319, R320). -/
def bandColour (model : Bytes) (b : Nat) : Nat × Nat :=
  let d := fun j => (toInt 16 (leAt model (56 + 2 * ((b * 17 + 16) * 3 + j)) 2)).natAbs
  let j := if d 1 ≤ d 0 && d 2 ≤ d 0 then 0 else if d 2 ≤ d 1 then 1 else 2
  (j, d j)

/-- The band of the frame that begins at a line, as its first line, lines for each phase, and bar (R304). -/
def Mach.bandOf (m : Mach) (first : Nat) : Option (Nat × Nat × Nat) :=
  let g := fun sub => m.rsNat 0x7021 sub 0 first
  match m.frameNo first with
  | some n => if g 6 != 0 && g 5 != 0 && n % max 1 (g 6) = 0 then some (first + g 4, g 5, n / max 1 (g 6) % 8) else none
  | none => none

/-- The bytes of an ST_A entry of so many rows and columns (R291). -/
def staSize (rows cols : Nat) : Nat := 64 + rows * (64 * divUp (3 * cols) 64)

/-- Where an entry of the ring begins and where what was written of it ends. -/
def StaEntry.span (e : StaEntry) : Nat × Nat := (e.offset, e.offset + staSize e.rows.length e.cols)

/-- The entries of a ring, oldest first, that no newer one has overwritten in part. -/
def intactOf : List StaEntry → List StaEntry
  | [] => []
  | e :: rest => if rest.all (fun x => decide (e.span.2 ≤ x.span.1) || decide (x.span.2 ≤ e.span.1)) then e :: intactOf rest else intactOf rest

/-- The ST_A entry of a camera whose sensor frame views all lines of a band. -/
def Mach.bandEntry (m : Mach) (c first last : Nat) : Option StaEntry :=
  (((intactOf (m.cam c).ring).filter (fun e => e.tag.line != noLine && decide (e.tag.line ≤ first)
    && decide (last ≤ m.lastView c e.tag.line))).getLast?)

/-- Sums of a colour over the rows that view only lines of phase p, by column of the entry, and the number of rows
(R319); ST_A rows of a binned entry view the lines of both their rows. -/
def Mach.phaseProfile (m : Mach) (c : Nat) (e : StaEntry) (first per p colour : Nat) : List Nat × Nat :=
  let rows := (List.range e.rows.length).filter (fun k =>
    let a := m.rowLine c e.tag.line (if e.bin then 2 * k else k)
    let z := m.rowLine c e.tag.line (if e.bin then 2 * k + 2 else k + 1) - 1
    decide (first + per * p ≤ a) && decide (max a z < first + per * (p + 1)))
  ((List.range e.cols).map (fun x => sumOf (rows.map (fun k => nth (nth (nth e.rows k []) x []) colour 0))), rows.length)

/-- The contrast of a nozzle in a phase's profile over a common denominator: V is interpolated at the column that views
the nozzle's centre, P is the value furthest from V within 2 columns (R319). -/
def contrast (profile : List Nat) (pos den : Nat) : Nat :=
  let x := pos / den
  let f := pos % den
  let at_ := fun i => ((nth profile i 0 : Nat) : Int)
  let v : Int := at_ x * ((den - f : Nat) : Int) + at_ (x + 1) * (f : Int)
  let near := (List.range 6).filterMap (fun d =>
    let i := x + d
    if i < 2 || !decide ((i - 2) * den ≤ pos + 2 * den) || !decide (pos ≤ (i - 2) * den + 2 * den) then none
    else some ((at_ (i - 2) * (den : Int) - v).natAbs))
  maxOf 0 near

/-- What a band gives for one nozzle: the nozzle, and its contrast as a numerator and a denominator. -/
abbrev BandRead := Nat × Nat × Nat

/-- The position of a nozzle's centre in ST_A columns that begin at column x0, in 1/PX (R272), with 2 columns to spare. -/
def Mach.bandColumn (m : Mach) (c x0 : Nat) (bin : Bool) (n width : Nat) : Option (Nat × Nat) :=
  let px := m.nat 0x6004 4 c
  let den := px * (if bin then 2 else 1)
  let pos : Int := 256 * ((n : Int) - m.num 0x6004 3 c) - (px * x0 : Nat)
  if px = 0 || pos < 2 * (den : Int) || (width : Int) * (den : Int) < pos + 3 * (den : Int) then none else some (pos.toNat, den)

/-- A camera's ST_A columns of a band: the camera, their first column and whether they are binned, and sixteen phase
profiles, each with its number of rows. -/
structure BandSource where
  cam : Nat
  x0 : Nat
  bin : Bool
  phases : List (List Nat × Nat)
  deriving DecidableEq, Repr

/-- The camera that reads a nozzle: the lowest whose columns hold it (R319), with the nozzle's place. -/
def Mach.bandCam (m : Mach) (sources : List BandSource) (n : Nat) : Option (BandSource × Nat × Nat) :=
  (sources.filterMap (fun e =>
    (m.bandColumn e.cam e.x0 e.bin n (nth e.phases 0 ([], 0)).1.length).map (fun x => (e, x.1, x.2)))).head?

/-- The profiles of a band: those of this module's entries, and those that the peer sent of its own cameras' streams, which
the settings of both modules place alike (R326, R449). -/
def Mach.bandSources (m : Mach) (entries : FMap StaEntry) (first per colour : Nat) : List BandSource :=
  let own := entries.map (fun e => ({ cam := e.1, x0 := e.2.x0, bin := e.2.bin
                                      phases := (List.range 16).map (fun p => m.phaseProfile e.1 e.2 first per p colour) } : BandSource))
  let peer := (m.loop.peerBands.filter (fun x => x.2.1 = first)).map (fun x =>
    let s := (m.cam x.1).streams
    ({ cam := x.1, x0 := (fget s 1 0).toNat, bin := fget s 3 0 = 1, phases := x.2.2.map (fun l => (l.drop 1, l.headD 0)) } : BandSource))
  allCams.flatMap (fun c => (own ++ peer).filter (fun x => x.cam = c))

/-- A nozzle whose port had no cap or stop in the band lines, and that carries a mark (R304, R320). -/
def Mach.bandNozzle (m : Mach) (t : Tables) (b n first last : Nat) : Bool :=
  decide (n < t.width) && t.covers n && t.state n != 3
    && !(m.port (8 * b + n / 12288)).fire.capped.any (fun r => decide (r.1 ≤ last) && decide (first ≤ r.2))

/-- The readings of a band (R319). -/
def Mach.bandReads (m : Mach) (entries : FMap StaEntry) (t : Tables) (first per b colour : Nat) : List BandRead :=
  let sources := m.bandSources entries first per colour
  (List.range t.width).filterMap (fun n =>
    if !m.bandNozzle t b n first (first + 16 * per - 1) then none
    else match m.bandCam sources n with
      | some (src, pos, den) =>
        let pr := nth src.phases (n % 16) ([], 0)
        if pr.2 = 0 then none else some (n, contrast pr.1 pos den, den * pr.2)
      | none => none)

/-- The lowest of fractions a/b against c/d. -/
def fracLe (a b : Nat × Nat) : Bool := decide (a.1 * b.2 ≤ b.1 * a.2)

/-- Insertion into a sorted list of fractions. -/
def insertFrac (x : Nat × Nat) : List (Nat × Nat) → List (Nat × Nat)
  | [] => [x]
  | h :: t => if fracLe x h then x :: h :: t else h :: insertFrac x t

/-- Twice the median of fractions; an even number of them gives the mean of the two in the middle. -/
def medianTwice (l : List (Nat × Nat)) : Nat × Nat :=
  let s := l.foldr insertFrac []
  let n := s.length
  let a := nth s ((n - 1) / 2) (0, 1)
  let b := nth s (n / 2) (0, 1)
  (a.1 * b.2 + b.1 * a.2, a.2 * b.2)

/-- R(n) = round(256 C / M); of a median of 0 the manual states no ratio (log entry 30). -/
def bandRatio (b : Nat) (med : Nat × Nat) (r : BandRead) : Nat :=
  if med.1 = 0 then (Config.loopOpen 4 [b, r.1, r.2.1]).toNat
  else divRound (512 * r.2.1 * med.2) (max 1 (med.1 * r.2.2))

/-- The gain code of a nozzle after a band (R322). -/
def bandGain (gain ratio stepMax : Nat) : Nat :=
  let target := if ratio = 0 then 255 else min 255 (divRound 65536 ratio - 128)
  if gain ≤ target then min target (gain + stepMax) else max target (gain - stepMax)

/-- The candidates after a nozzle's result, and its new state if it changes (R321). -/
def Mach.bandCand (m : Mach) (b n state ratio : Nat) : List Cand × Option Nat :=
  let pol := fun sub => m.nat 0x7003 sub 0
  let cand := if ratio < pol 2 then 2 else if ratio < pol 1 then 1 else 0
  let others := m.loop.cands.filter (fun x => !(x.bar = b && x.nozzle = n))
  if cand = state then (others, none)
  else
    let before := match firstWhere (fun x => x.bar == b && x.nozzle == n && x.cand == cand) m.loop.cands with
      | some x => x.count
      | none => 0
    let need := if cand = 0 then pol 4 else pol 3
    if need ≤ before + 1 && m.loop.mode = 2 then (others, some cand)
    else (others ++ [{ bar := b, nozzle := n, cand := cand, count := before + 1 }], none)

/-- One nozzle of a band: the candidates, and the edit where its state or gain changes (R321, R322). The shadow is where it
starts from, and one that is MASKED there is left alone (R301). -/
def Mach.bandStep (m : Mach) (b first : Nat) (med : Nat × Nat) (r : BandRead) : Mach × Option (Nat × Nat × Nat × Nat) :=
  let map := m.blob 0x7101 0 b
  let state := stateOf map r.1
  if state = 3 then (m, none) else
  let gain := gainOf map r.1
  let ratio := bandRatio b med r
  let (cands, change) := m.bandCand b r.1 state ratio
  let m1 := { m with loop := { m.loop with cands := cands } }
  let m2 := match change with
    | some st => m1.recordAt 0x0707 (b + 256 * st) r.1 first
    | none => m1
  let st := change.getD state
  let g := if st = 2 then gain else bandGain gain ratio (m.nat 0x7003 5 0)
  (m2, if st = state && g = gain then none else some (b, r.1, st, g))

/-- The cause for which a band is skipped (R320). -/
def Mach.bandSkip (m : Mach) (entries : FMap StaEntry) (first last density : Nat) : Option Nat :=
  let cams := allCams.filter (fun c => m.camEnabled c)
  if cams.any (fun c => decide (8 * 256 < m.nat 0x6004 4 c)) then some 0
  else if (entries.filter (fun e => !bit e.2.tag.flags 0 && e.2.dropped = 0)).isEmpty then some 1
  else if density < 100 then some 2
  else if m.rejectedIn first last || entries.any (fun e => m.rejectedIn e.2.tag.line (m.lastView e.1 e.2.tag.line)) then some 3
  else none

/-- A band is evaluated, and what it changes is posted (R319 to R323). -/
def Mach.bandEval (m : Mach) (first per b : Nat) : Mach :=
  let last := first + 16 * per - 1
  let m0 := { m with loop := { m.loop with lastBand := some first } }
  let t := m.tables b first
  let entries := allCams.filterMap (fun c => (m.bandEntry c first last).map (fun e => (c, e)))
  let colour := bandColour (m.rsBlob 0x7020 0 0 first) b
  if t.covered.isEmpty then m0
  else match m.bandSkip entries first last colour.2 with
    | some cause => m0.recordAt 0x0708 b cause first
    | none =>
      let good := entries.filter (fun e => !bit e.2.tag.flags 0 && e.2.dropped = 0)
      let reads := m.bandReads good t first per b colour.1
      let med := medianTwice ((reads.filter (fun r => stateOf (m.blob 0x7101 0 b) r.1 = 0)).map (fun r => (r.2.1, r.2.2)))
      let (m1, edits) := reads.foldl (fun (acc : Mach × List (Nat × Nat × Nat × Nat)) r =>
        let x := acc.1.bandStep b first med r
        (x.1, acc.2 ++ x.2.toList)) (m0, [])
      if m1.loop.mode != 2 || edits.isEmpty then m1
      else match m1.loopTarget with
        | some target => m1.loopPost { target := target, scope := 16, zones := [], edits := edits, changed := 0, sizes := [],
                                         forward := m1.loop.forward } false
        | none => m1.deferred 2

/-- A band that no sensor frame is awaited for is evaluated once (R310, R319, R325). -/
def Mach.bandCheck (m : Mach) (first : Nat) : Mach :=
  match m.bandOf first with
  | none => m
  | some (b0, per, b) =>
    let last := b0 + 16 * per - 1
    let done := match m.loop.lastBand with | some x => decide (b0 ≤ x) | none => false
    if done || m.loop.mode = 0 || !m.decides || decide (first < m.loop.lastNozzle) || m.jobLine last != m.jobLine first
        || m.awaits b0 last then m
    else m.bandEval b0 per b

/-- The loop after a sensor frame has completed or is missing: bands of the frames it views, then the cycle. -/
def Mach.loopAfter (m : Mach) (c line : Nat) : Mach :=
  if !m.decides || !m.printing || m.enc.origin.isNone || line = noLine then m
  else
    let f0 := m.frameFirst line
    let f1 := m.frameFirst (m.lastView c line)
    let m1 := m.bandCheck f0
    (if f1 = f0 then m1 else m1.bandCheck f1).loopClose

/-- Triggers that a count brought due: what waited for one that was skipped goes on (R311, R320). -/
def Mach.loopPassed (m old : Mach) : Mach :=
  if old.enc.origin.isNone then m
  else forEach allCams m (fun c acc =>
    let first := (old.cam c).trigNext
    ((List.range ((m.cam c).trigNext - first)).filter (fun i => (m.trigAt c (first + i)).isSome)).foldl
      (fun a i => a.loopAfter c (first + i)) acc)

/-- ENC_COUNT. -/
def execEncCount (dt : Nat) (aLeads : Bool) (s : State) : Res := s.act dt (fun m => (m.encCount aLeads).loopPassed m)

/-! ### Temperatures (R317) -/

/-- The readings of a STATUS enter the zones whose centre nozzle their slots cover. -/
def Mach.loopTemps (m : Mach) (p : Nat) (temps : List (Option Int)) : Mach :=
  let k := barOf p
  (List.range 64).foldl (fun acc z =>
    let n := 1536 * z + 768
    let hit := (List.range 8).filterMap (fun i =>
      let v := acc.slot p i
      let a := 12288 * (p % 8) + slotFirst v
      if slotOn v && decide (a ≤ n) && decide (n < a + slotNozzles v) then nth temps i none else none)
    match hit.head? with
    | some t => { acc with loop := { acc.loop with temps := fupd acc.loop.temps (64 * k + z) [] (· ++ [t]) } }
    | none => acc) m

/-! ### Baselines (R327 to R330) -/

/-- A bar enters LEARNING (R328). -/
def Mach.learns (m : Mach) (k cause : Nat) : Mach :=
  Mach.record { m with loop := { m.loop with
    learning := setBit m.loop.learning k true, left := fset m.loop.left k 4, taken := fset m.loop.taken k 0 } } 0x0702 k cause

/-- The serial of a slot as enumeration read it. -/
def Mach.serialOf (m : Mach) (p s : Nat) : Bytes := nth (m.port p).tx.slotSerials s []

/-- The enabled slots of a bar, as port and slot. -/
def Mach.barSlots (m : Mach) (k : Nat) : List (Nat × Nat) :=
  (portsOf k).flatMap (fun p => ((List.range 8).filter (fun s => slotOn (m.slot p s))).map (fun s => (p, s)))

/-- The key of a bar's zone record: CRC-32 of the ordered serials of its enabled slots (R327). -/
def Mach.zoneKey (m : Mach) (k : Nat) : Nat := crc32 ((m.barSlots k).flatMap (fun x => m.serialOf x.1 x.2))

/-- The record of a slot by its serial (R327, R606). -/
def Mach.slotBase (m : Mach) (serial : Bytes) : Option (List Int) := ffind m.store.nozzleBase (crc32 serial)

/-- A table of a bar in effect and in the shadow (R327). -/
def Mach.loadTable (m : Mach) (idx k : Nat) (b : Bytes) : Mach :=
  let m1 := m.setBlob idx 0 k b
  { m1 with dict := { m1.dict with effBlobs := fset m1.dict.effBlobs (okey idx 0 k) b } }

/-- A slot's nozzles take their record, or are neutral where they are not MASKED (R327). -/
def Mach.slotLoaded (m : Mach) (map : Bytes) (p s : Nat) : Bytes :=
  let l := m.slotNozzleList p s
  match m.slotBase (m.serialOf p s) with
  | some rec =>
    (List.range l.length).foldl (fun b h => let v := (nth rec h 128).toNat; editMap b (nth l h 0) (v / 256) (v % 256) false) map
  | none => l.foldl (fun b n => if stateOf b n = 3 then b else editMap b n 0 128 false) map

/-- The records of a bar that had a bad check word, as slot and port; 0xFF stands for the zone record (R328, R335). -/
def Mach.badRecords (m : Mach) (k : Nat) : List (Nat × Nat) :=
  (if m.store.badKeys.contains (3, m.zoneKey k) then [(0xFF, 0)] else [])
    ++ ((m.barSlots k).filter (fun x => m.store.badKeys.contains (5, crc32 (m.serialOf x.1 x.2)))).map (fun x => (x.2, x.1))

/-- A bar's baselines are loaded (R327, R328); a bar without heads has none to learn. LEARNING names a bad check word where
the bar has one (log entry 32). -/
def Mach.loadBar (m : Mach) (k : Nat) : Mach :=
  let slots := m.barSlots k
  let map := slots.foldl (fun b x => m.slotLoaded b x.1 x.2) (m.blob 0x7101 0 k)
  let zones := ffind m.store.zoneBase (m.zoneKey k)
  let m1 := (m.loadTable 0x7101 k map).loadTable 0x7010 k (offsetBytes (zones.getD (List.replicate 1088 0)))
  let bad := if slots.isEmpty then [] else m.badRecords k
  let m2 := bad.foldl (fun acc b => acc.record 0x070B (k + 256 * b.1) b.2) m1
  if !slots.isEmpty && (zones.isNone || slots.any (fun x => (m.slotBase (m.serialOf x.1 x.2)).isNone)) then
    m2.learns k (b2n !bad.isEmpty)
  else m2

/-- The loop loads its baselines at the end of enumeration (R327). -/
def Mach.loadBaselines (m : Mach) : Mach :=
  forEach allBars { m with loop := { m.loop with learning := 0, left := [], taken := [], forward := [], cands := [] } } (fun k acc =>
    acc.loadBar k)

/-- A slot whose serial changed while the module prints is made neutral, and its bar learns (R328). -/
def Mach.slotChanged (m : Mach) (p s : Nat) : Mach :=
  Mach.learns { m with loop := { m.loop with resetSlots := m.loop.resetSlots ++ [8 * p + s] } } (barOf p) 0

/-- Baselines of every bar that is not LEARNING are saved (R330): values in effect at the last line of B7. The event holds
the greatest generation of a zone record (log entry 32). -/
def Mach.saveBaselines (m : Mach) : Mach :=
  let w := m.fireNext 7 - 1
  let bars := allBars.filter (fun k => !bit m.loop.learning k)
  let m1 := forEach bars m (fun k acc =>
    let map := m.rsBlob 0x7101 0 k w
    let zones := (List.range 1088).map (offsetAt (m.rsBlob 0x7010 0 k w))
    let slots : List (Nat × List Int) := (m.barSlots k).map (fun x =>
      (crc32 (m.serialOf x.1 x.2), (m.slotNozzleList x.1 x.2).map (fun n => ((gainOf map n + 256 * stateOf map n : Nat) : Int))))
    let acc1 := { acc with store := { acc.store with
      zoneBase := fset acc.store.zoneBase (m.zoneKey k) zones
      nozzleBase := slots.foldl (fun (l : FMap (List Int)) (x : Nat × List Int) => fset l x.1 x.2) acc.store.nozzleBase } }
    slots.foldl (fun a x => a.queueItem { kind := 5, key := x.1, lists := [(0, x.2)] })
      (acc1.queueItem { kind := 3, key := m.zoneKey k, lists := [(0, zones)] }))
  let gen := maxOf 0 (bars.map (fun k => m.store.nextGen 3 (m.zoneKey k)))
  Mach.record { m1 with loop := { m1.loop with savedAt := m.now } } 0x070A (maskOf bars) gen

/-- BASELINE_SAVE_TIMER (R330): 10 min since the last save, while a bar is RUNNING. -/
def Mach.baselineTimer (m : Mach) : Mach :=
  if m.loop.savedAt + 600000000000 ≤ m.now && m.loop.learning != 0xFF then m.saveBaselines else m

/-- BASELINE_SAVE_TIMER. -/
def execBaselineSaveTimer (dt : Nat) (s : State) : Res := s.act dt (fun m => m.baselineTimer)

/-- A write of LOOP_BASELINE_SAVE (R330). -/
def Mach.writeBaselineSave (m : Mach) (w : Who) (v : Nat) : Mach :=
  m.guardedNum w 0x700B 0 v (fun m => (if v = 1 then m.saveBaselines else m).acceptNum w 0x700B 0 0 1 v)

/-- LOOP_BASELINE_SAVE. -/
def execLoopBaselineSave (dt sid v : Nat) (s : State) : Res := s.act dt (fun m => m.writeBaselineSave (.host sid) v)

/-- A write of LOOP_BAR_RESET (R328). -/
def Mach.writeBarReset (m : Mach) (w : Who) (v : Nat) : Mach :=
  m.guardedNum w 0x700A 0 v (fun m =>
    (Mach.learns { m with loop := { m.loop with resetBars := setBit m.loop.resetBars v true } } v 2).acceptNum w 0x700A 0 0 1 v)

/-- LOOP_BAR_RESET. -/
def execLoopBarReset (dt sid v : Nat) (s : State) : Res := s.act dt (fun m => m.writeBarReset (.host sid) v)

/-- A write of LOOP_MODE (R300, R301): it takes effect at the start of the next cycle. -/
def Mach.writeLoopMode (m : Mach) (w : Who) (v : Nat) : Mach :=
  m.guardedNum w 0x7001 0 v (fun m => (m.setNum 0x7001 0 0 v).acceptNum w 0x7001 0 0 1 v)

/-- LOOP_MODE_WRITE. -/
def execLoopModeWrite (dt sid v : Nat) (s : State) : Res := s.act dt (fun m => m.writeLoopMode (.host sid) v)

end Sys2Proof.Machine
end

