-- ==== Sys2Proof/Machine/Inspect.lean ====
section
/-! DEFINITION. Sensor frames: what arrives on a camera port, the image pipeline over a frame, the history, the three
streams, and calibration frames (R271 to R275, R281 to R299, R551, R599, R600). -/

namespace Sys2Proof.Machine

/-! ### The tag (R271) -/

/-- The 32 bytes of a tag. -/
def tagBytes (t : CamTag) : Bytes :=
  leBytes 4 t.frameNo ++ leBytes 6 t.line ++ leBytes 2 t.setId ++ leBytes 1 t.cam ++ leBytes 1 t.trigIndex ++ leBytes 2 t.flags
    ++ leBytes 4 t.jobId ++ leBytes 4 t.jobFrame ++ leBytes 2 t.rows ++ leBytes 2 0 ++ leBytes 4 (ofInt 32 t.strobeShift)

/-- A flag of a tag is set. -/
def tagFlag (t : CamTag) (i : Nat) (b : Bool) : CamTag := { t with flags := setBit t.flags i (bit t.flags i || b) }

/-- A flag of the sensor frame that is arriving. -/
def Cam.flag (x : Cam) (i : Nat) (b : Bool) : Cam := { x with cur := x.cur.map (fun s => { s with tag := tagFlag s.tag i b }) }

/-! ### Static pixels (R285) -/

/-- The nozzle that a column views, none outside the bars. -/
def Mach.columnNozzle (m : Mach) (c x : Nat) : Option Nat :=
  let n := m.columnAt c x / 256
  if n < 0 || 98303 < n then none else some n.toNat

/-- The opacity tile of a nozzle and line is static in all bars, and the ring still holds its lines. -/
def Mach.tileStatic (m : Mach) (n w : Nat) : Bool :=
  let first := m.frameFirst w
  let top := first + (w - first) / 128 * 128
  let last := min (top + 127) (first + max 1 (m.jobNat 2 w) - 1)
  (m.frameNo w).isSome && !m.rejectedIn w w
    && (List.range (last + 1 - top)).all (fun i => allBars.all (fun k =>
        match m.refLine k (top + i) with
        | some r => nth r.staticTiles (n / 512) false
        | none => false))

/-- A pixel of a sensor frame is static. -/
def Mach.pixelStatic (m : Mach) (c : Nat) (tag : CamTag) (x y : Nat) : Bool :=
  tag.line != noLine && (match m.columnNozzle c x with
    | some n => m.tileStatic n (m.rowLine c tag.line y)
    | none => false)

/-! ### Temporal noise reduction (R285 to R289) -/

/-- The opacity tile of a pixel, as a number. -/
def Mach.pixelTile (m : Mach) (c : Nat) (tag : CamTag) (x y : Nat) : Nat :=
  let w := m.rowLine c tag.line y
  192 * ((w - m.frameFirst w) / 128) + (m.columnNozzle c x).getD 0 / 512

/-- The pixel's row belongs to the same job frame as the trigger line. -/
def Mach.rowInFrame (m : Mach) (c : Nat) (tag : CamTag) (y : Nat) : Bool :=
  m.frameFirst (m.rowLine c tag.line y) = m.frameFirst tag.line

/-- Temporal noise reduction runs for a sensor frame. -/
def Mach.tnrRuns (m : Mach) (c : Nat) (tag : CamTag) : Bool :=
  m.nat 0x6020 4 c = 1 && m.nat 0x6010 1 c = 2 && tag.trigIndex != 0xFF && !(m.cam c).tnrOff.contains (m.jobLine tag.line) && !bit tag.flags 4

/-- A slot was written by the frame before, of the same job and exposure set. -/
def slotFits (t : CamTag) (s : TnrSlot) : Bool := s.jobId = t.jobId && s.jobFrame + 1 = t.jobFrame && s.setId = t.setId

/-- The history value of a pixel that is blended (R287). -/
def Mach.history (m : Mach) (c : Nat) (tag : CamTag) (x y : Nat) : Option Nat :=
  match ffind (m.cam c).tnr tag.trigIndex with
  | some s =>
    if m.tnrRuns c tag && slotFits tag s && m.rowInFrame c tag y && m.pixelStatic c tag x y
        && s.tiles.contains (m.pixelTile c tag x y) then some (nth (nth s.pixels y []) x 0)
    else none
  | none => none

/-- Stage 3 (R288). -/
def Mach.temporal (m : Mach) (c : Nat) (tag : CamTag) (p : Pix) : Pix := fun x y =>
  (p x y).map (fun v =>
    match m.history c tag x y with
    | some h => blend (m.nat 0x6020 5 c) (m.nat 0x6020 6 c) v h
    | none => v)

/-- The pixels of a sensor frame. -/
def framePixels (s : Sensor) : List (Nat × Nat) := (List.range s.rows).flatMap (fun y => (List.range s.width).map (fun x => (x, y)))

/-- After the frame, static pixels are written to the slot of its index, unless it is SHORT (R274, R288). -/
def Mach.writeHistory (m : Mach) (c : Nat) (tag : CamTag) (s : Sensor) (p : Pix) : Mach :=
  if !m.tnrRuns c tag || bit tag.flags 0 then m
  else
    let isStatic := fun x y => (p x y).isSome && m.pixelStatic c tag x y
    let old := (fget (m.cam c).tnr tag.trigIndex { jobId := 0, jobFrame := 0, setId := 0, tiles := [], pixels := [] }).pixels
    let wrote := (framePixels s).filter (fun q => isStatic q.1 q.2 && m.rowInFrame c tag q.2)
    let slot : TnrSlot :=
      { jobId := tag.jobId, jobFrame := tag.jobFrame, setId := tag.setId
        tiles := (wrote.map (fun q => m.pixelTile c tag q.1 q.2)).eraseDups
        pixels := (List.range s.rows).map (fun y => (List.range s.width).map (fun x =>
          if isStatic x y then (p x y).getD 0 else nth (nth old y []) x 0)) }
    m.onCam c (fun x => { x with tnr := fset x.tnr tag.trigIndex slot })

/-- TNR_PASS and TNR_PARTIAL (R288). -/
def Mach.tnrFlags (m : Mach) (c : Nat) (tag : CamTag) (s : Sensor) (p : Pix) : CamTag :=
  let blended := (framePixels s).any (fun q => (p q.1 q.2).isSome && (m.history c tag q.1 q.2).isSome)
  let left := (framePixels s).any (fun q =>
    (p q.1 q.2).isSome && (m.history c tag q.1 q.2).isNone && m.pixelStatic c tag q.1 q.2)
  tagFlag (tagFlag tag 7 (!blended)) 8 left

/-! ### Stages (R281, R282) -/

/-- The entries of CAM_DEFECTS as column and row. -/
def Mach.defects (m : Mach) (c : Nat) : List (Nat × Nat) :=
  let b := m.blob 0x6021 0 c
  (List.range (b.length / 4)).map (fun i => (bits (leAt b (4 * i) 4) 0 14, bits (leAt b (4 * i) 4) 16 13))

/-- Stages 1 and 2 with a black level. -/
def Mach.corrected (m : Mach) (c black : Nat) (raw : Pix) : Pix :=
  spatial (m.nat 0x6020 2 c) (m.nat 0x6020 3 c) (fixDefects (m.sensor c) (m.defects c) (blackLevel black raw))

/-- The linear image of a sensor frame after stage 6, with its WB. -/
def Mach.linear (m : Mach) (c wb : Nat) (p : Pix) (x y : Nat) : Option (List Nat) :=
  linearRgb (m.sensor c) wb (m.blob 0x6020 8 c) p x y

/-- The 8-bit image after stage 7; pixels that were not received are 0 (R274). -/
def Mach.toneAt8 (m : Mach) (c wb : Nat) (p : Pix) (x y : Nat) : List Nat :=
  match m.linear c wb p x y with
  | some rgb => toneRgb (m.blob 0x6022 0 c) rgb
  | none => [0, 0, 0]

/-! ### ST_C (R293 to R295) -/

/-- A mean in 1/16 steps, rounded to the nearest value. -/
def mean16 (l : List Nat) : Nat := if l.isEmpty then 0 else divRound (16 * sumOf l) l.length

/-- A window's result. -/
def Mach.windowResult (m : Mach) (c wb : Nat) (tag : CamTag) (p : Pix) (w : Window) : WinResult :=
  if !w.applies tag.trigIndex then {}
  else
    let value := fun x y => if w.staticOnly && !m.pixelStatic c tag x y then none else m.linear c wb p x y
    let column := fun i => (List.range w.h).filterMap (fun j => value (w.x + i) (w.y + j))
    let cols := (List.range w.w).map column
    let all := cols.flatMap id
    let of := fun (k : Nat) (l : List (List Nat)) => mean16 (l.map (fun v => nth v k 0))
    { r := of 0 all, g := of 1 all, b := of 2 all, px := all.length
      valid := bit tag.flags 9 && decide (1 ≤ all.length)
      profile := if 2 ≤ w.mode then cols.map (of (w.mode - 2)) else [] }

/-- The results of a sensor frame enter CAM_STATS and CAM_PROFILES; a frame that nobody read is missed (R295). -/
def Mach.keepStats (m : Mach) (c : Nat) (tag : CamTag) (wins : List WinResult) : Mach :=
  let x := m.cam c
  let missed := b2n (x.stats.isSome && !x.statsRead && !x.profilesRead)
  let seq := m.hy.resultSeq
  Mach.camCount (Mach.onCam { m with hy := { m.hy with resultSeq := (seq + 2) % 2 ^ 32 } } c (fun x => { x with
    stats := some (tag, wins, seq), statsRead := false
    profiles := some (tag, wins, (seq + 1) % 2 ^ 32), profilesRead := false })) c 9 missed

/-- CAM_STATS (R295). -/
def statsBytes (tag : CamTag) (wins : List WinResult) : Bytes :=
  tagBytes tag ++ wins.flatMap (fun w =>
    leBytes 2 w.r ++ leBytes 2 w.g ++ leBytes 2 w.b ++ leBytes 2 0 ++ leBytes 4 w.px ++ leBytes 1 (b2n w.valid) ++ leBytes 3 0)

/-- CAM_PROFILES (R295). -/
def profileBytes (tag : CamTag) (wins : List WinResult) : Bytes :=
  tagBytes tag ++ wins.flatMap (fun w => (List.range 512).flatMap (fun i => leBytes 2 (nth w.profile i 0)))

/-! ### ST_A and ST_B (R274, R290 to R292, R551) -/

/-- The rows that ST_A writes of a frame: its crop, binned where STA_BIN is 1. -/
def staRows (s : Sensor) (streams : FMap Int) (rgb : Nat → Nat → List Nat) : List (List (List Nat)) :=
  let x0 := (fget streams 1 0).toNat
  let w := (fget streams 2 0).toNat
  if fget streams 3 0 = 1 then
    (List.range (s.rows / 2)).map (fun y => (List.range (w / 2)).map (fun x => blockMean rgb (x0 + 2 * x) (2 * y) 2))
  else (List.range s.rows).map (fun y => (List.range w).map (fun x => rgb (x0 + x) y))

/-- What of some spans lies outside another span. -/
def outsideSpan (l : List (Nat × Nat)) (s : Nat × Nat) : List (Nat × Nat) :=
  (l.flatMap (fun x => [(x.1, min x.2 s.1), (max x.1 s.2, x.2)])).filter (fun x => decide (x.1 < x.2))

/-- The entries of a ring, oldest first, of which something is left under the newer ones. -/
def leftOf : List StaEntry → List StaEntry
  | [] => []
  | e :: rest => if (rest.foldl (fun l x => outsideSpan l x.span) [e.span]).isEmpty then leftOf rest else e :: leftOf rest

/-- The byte that an entry holds at an offset of its ring (R291): the tag, 32 zero bytes, and the rows of 8-bit RGB, each padded
to a multiple of 64 bytes. -/
def StaEntry.byteAt (e : StaEntry) (o : Nat) : Option Byte :=
  if o < e.offset || e.span.2 ≤ o then none
  else
    let i := o - e.offset
    if i < 64 then some (nth (tagBytes e.tag) i 0)
    else
      let pitch := 64 * divUp (3 * e.cols) 64
      let col := (i - 64) % pitch
      some (byteOf (nth (nth (nth e.rows ((i - 64) / pitch) []) (col / 3) []) (col % 3) 0))

/-- The byte of a camera's ring at an address of job memory, where the camera has written it (R291). -/
def Mach.staByte (m : Mach) (a : Nat) : Option Byte :=
  allCams.findSome? (fun c =>
    let base := jobBase (64 + c)
    if a < base || base + m.nat 0x6033 0 c * 1048576 ≤ a then none
    else (m.cam c).ring.reverse.findSome? (fun e => e.byteAt (a - base)))

/-- ST_A takes a frame into its ring, over the oldest entries; rows after the first that the writer dropped are left
out, and the drop is recorded (R291). -/
def Mach.writeSta (m : Mach) (c : Nat) (tag : CamTag) (streams : FMap Int) (drop : Option Nat) (rgb : Nat → Nat → List Nat) : Mach :=
  let s := m.sensor c
  let size := m.nat 0x6033 0 c * 1048576
  let binned := fget streams 3 0 = 1
  let w := (fget streams 2 0).toNat
  let total := if binned then s.rows / 2 else s.rows
  let len := staSize total (if binned then w / 2 else w)
  if w = 0 || size < len then m
  else
    let keep := match drop with | some r => if binned then r / 2 else r | none => total
    let x := m.cam c
    let next := match x.ring.getLast? with
      | some e => e.offset + staSize (e.rows.length + e.dropped) e.cols
      | none => 0
    let off := if next + len ≤ size then next else 0
    let e : StaEntry := { offset := off, tag := tag, rows := (staRows s streams rgb).take keep, dropped := total - keep
                          cols := if binned then w / 2 else w, x0 := (fget streams 1 0).toNat, bin := binned }
    m.onCam c (fun x => { x with ring := leftOf (x.ring ++ [e]) })

/-- The preview of a frame: the tag and the scaled rows (R290, R551). -/
def previewData (s : Sensor) (tag : CamTag) (streams : FMap Int) (rgb : Nat → Nat → List Nat) : Nat × Nat × Bytes :=
  let d := max 1 (fget streams 6 1).toNat
  let x0 := (fget streams 4 0).toNat
  let w := (fget streams 5 0).toNat / d
  let h := s.rows / d
  (w, h, tagBytes tag ++ (List.range h).flatMap (fun y => (List.range w).flatMap (fun x =>
    (blockMean rgb (x0 + d * x) (d * y) d).map byteOf)))

/-- One part of a preview with its header (R551). -/
def previewPart (sid c frameNo w h part parts : Nat) (data : Bytes) : Bytes :=
  leBytes 4 sid ++ leBytes 4 frameNo ++ leBytes 1 c ++ leBytes 1 0 ++ leBytes 2 w ++ leBytes 2 h ++ leBytes 2 part ++ leBytes 2 parts
    ++ leBytes 4 (crc32 data) ++ leBytes 4 (8192 * part) ++ leBytes 6 0 ++ data

/-- The preview goes to the sessions that subscribed to the camera, within STB_MAX_FPS (R292). -/
def Mach.sendPreview (m : Mach) (c : Nat) (tag : CamTag) (streams : FMap Int) (rgb : Nat → Nat → List Nat) : Mach :=
  let fps := max 1 (fget streams 7 1).toNat
  let waited := match (m.cam c).lastPreview with | some t => decide (1000000000 ≤ (m.now - t) * fps) | none => true
  let to_ := (m.hy.sessions.filter (fun s => match s.2.preview with | some p => bit p.1 c | none => false)).map (fun s => s.1)
  if fget streams 5 0 = 0 || !waited || to_.isEmpty then m
  else
    let (w, h, data) := previewData (m.sensor c) tag streams rgb
    let parts := divUp data.length 8192
    let m1 := m.onCam c (fun x => { x with lastPreview := some m.now })
    to_.foldl (fun acc sid => (List.range parts).foldl (fun acc i =>
      acc.sendOn (fget m.hy.sessions sid {}).net (.preview sid c tag.frameNo i (previewPart sid c tag.frameNo w h i parts (slice data (8192 * i) 8192)))) acc) m1

/-! ### Calibration frames (R597, R599, R600) -/

/-- The calibration window of a camera: column, row, width, height. -/
def Mach.calWindow (m : Mach) (c : Nat) : Nat × Nat × Nat × Nat :=
  let v := m.nat 0xE010 (c + 1) 0
  (bits v 50 14, bits v 37 13, bits v 27 10, bits v 17 10)

/-- The pixels of the calibration window. -/
def Mach.calPixels (m : Mach) (c : Nat) : List (Nat × Nat) :=
  let (x, y, w, h) := m.calWindow c
  (List.range h).flatMap (fun j => (List.range w).map (fun i => (x + i, y + j)))

/-- The black values of a dark frame, by mosaic position, rounded down. -/
def Mach.darkFrame (m : Mach) (c : Nat) (raw : Pix) : List Nat :=
  (List.range 4).map (fun q =>
    let l := ((m.calPixels c).filter (fun p => 2 * (p.2 % 2) + p.1 % 2 = q)).filterMap (fun p => raw p.1 p.2)
    sumOf l / max 1 l.length)

/-- Four black values as BLACK holds them. -/
def packBlack (l : List Nat) : Nat := sumOf ((List.range 4).map (fun q => nth l q 0 * 2 ^ (16 * q)))

/-- What a lit frame gives: whether a window pixel is at 4,095, and the sums of R, G and B after stages 1 to 4. -/
def Mach.litFrame (m : Mach) (c : Nat) (raw : Pix) : List Nat :=
  let s := m.sensor c
  let p := m.corrected c (packBlack (fget m.cal.black c [])) raw
  let px := m.calPixels c
  b2n (px.any (fun q => raw q.1 q.2 == some 4095))
    :: (List.range 3).map (fun k => sumOf (px.map (fun q => (colourOf s p k q.1 q.2).getD 0)))

/-- The gains of a camera's lit frames; a MONO port has that of G only. -/
def Mach.calGains (m : Mach) (c : Nat) : List Nat :=
  let n := 3 * (m.calPixels c).length
  let target := bits (m.calCfg c) 52 12
  (List.range 3).map (fun k =>
    let sum := sumOf ((fget m.cal.lit c []).map (fun l => nth l (k + 1) 0))
    if sum = 0 then 0x10000 else divRound (target * 4096 * n) sum)

/-- The first cause that refuses a camera's result, 0 for none (R600). -/
def Mach.calCause (m : Mach) (c : Nat) : Nat :=
  let lit := fget m.cal.lit c []
  let n := 3 * (m.calPixels c).length
  let gains := if (m.sensor c).mono then [nth (m.calGains c) 1 0] else m.calGains c
  if (fget m.cal.black c []).any (fun b => decide (1023 < b)) then 1
  else if sumOf (lit.map (fun l => nth l 2 0)) < 256 * n then 2
  else if lit.any (fun l => nth l 0 0 = 1) then 3
  else if gains.any (fun g => g < 0x400 || 0x7FFF < g) then 4
  else 0

/-- The result of a camera whose frames are complete is accepted or refused (R600). -/
def Mach.calJudge (m : Mach) (c : Nat) : Mach :=
  match m.calCause c with
  | 0 =>
    let g := m.calGains c
    let old := m.nat 0x6020 7 c
    let wb := if (m.sensor c).mono then bits old 0 16 + nth g 1 0 * 65536 + bits old 32 16 * 2 ^ 32
      else nth g 0 0 + nth g 1 0 * 65536 + nth g 2 0 * 2 ^ 32
    let black := packBlack (fget m.cal.black c [])
    let t := (m.cam c).temp.getD (-32768)
    let m1 := { m with
      cal := { m.cal with cause := fset m.cal.cause c 0, result := fset m.cal.result c [black, wb] }
      store := { m.store with camCal := fset m.store.camCal c [(black : Int), (wb : Int), t] } }
    ((m1.queueItem { kind := 2, key := c, lists := [(c, [(black : Int), (wb : Int), t])] }).onCam c
      (fun x => { x with calState := 1, calTemp := t })).calDone
  | cause => m.calFail c cause

/-- A calibration frame of a camera that takes part completes. -/
def Mach.calTake (m : Mach) (c : Nat) (short : Bool) (raw : Pix) : Mach :=
  if !m.calTakes c || m.cal.phase != 2 || (ffind m.cal.cause c).isSome then m
  else if short then
    m.calFail c (if (fget m.cal.black c []).any (fun b => decide (1023 < b)) then 1
      else if (fget m.cal.lit c []).any (fun l => nth l 0 0 = 1) then 3 else 5)
  else if (ffind m.cal.black c).isNone then { m with cal := { m.cal with black := fset m.cal.black c (m.darkFrame c raw) } }
  else
    let m1 := { m with cal := { m.cal with lit := fupd m.cal.lit c [] (· ++ [m.litFrame c raw]) } }
    if (fget m1.cal.lit c []).length = 3 then m1.calJudge c else m1

/-! ### The end of a sensor frame (R271 to R275, R298, R299, R449) -/

/-- A sensor frame's flags that its rows settle: SHORT, REJECT_IN_VIEW, STATS_VALID. -/
def Mach.settleTag (m : Mach) (c : Nat) (t : CamTag) (got : Nat) (short : Bool) : CamTag :=
  let s := m.sensor c
  let inView := t.line != noLine && (List.range s.rows).any (fun y => let w := m.rowLine c t.line y; m.rejectedIn w w)
  let t1 := tagFlag (tagFlag { t with rows := got } 0 (short || decide (got < s.rows))) 6 inView
  tagFlag t1 9 (!bit t1.flags 0 && !bit t1.flags 4 && !bit t1.flags 5)

/-- Counters and events of a completed frame. -/
def Mach.frameEvents (m : Mach) (c : Nat) (t : CamTag) (dropped : Nat) : Mach :=
  let m1 := m.camCount c 1 1
  let m2 := if bit t.flags 0 then (m1.camCount c 4 1).recordAt 0x0603 (camParam c t.rows) t.frameNo t.line else m1
  let m3 := if bit t.flags 1 then (m2.camCount c 5 1).recordAt 0x0604 c t.frameNo t.line else m2
  if bit t.flags 3 then (m3.camCount c 8 1).recordAt 0x0607 (camParam c dropped) t.frameNo t.line else m3

/-- What a module sends its peer of a sensor frame: the results, and the profiles of a band that it views whole (R449). -/
def Mach.sendStats (m : Mach) (c : Nat) (t : CamTag) (wins : List WinResult) : Mach :=
  if !m.paired || m.pair.bindFailed || t.line = noLine then m
  else
    let m1 := m.emit (.peer (.stats (.stc c t wins)))
    [m.frameFirst t.line, m.frameFirst (m.lastView c t.line)].eraseDups.foldl (fun acc f =>
      match m.bandOf f with
      | some (b0, per, b) =>
        match m.bandEntry c b0 (b0 + 16 * per - 1) with
        | some e =>
          if e.tag = t then
            let colour := (bandColour (m.rsBlob 0x7020 0 0 f) b).1
            acc.emit (.peer (.stats (.band c b0 ((List.range 16).map (fun p =>
              let x := m.phaseProfile c e b0 per p colour
              x.2 :: x.1)))))
          else acc
        | none => acc
      | none => acc) m1

/-- A sensor frame completes. -/
def Mach.frameDone (m : Mach) (c : Nat) (short : Bool) : Mach :=
  let x := m.cam c
  match x.cur with
  | none => m
  | some shot =>
    let s := m.sensor c
    let got := (x.rows.filter (fun r => r.isSome)).length
    let raw := orient s x.rows
    let t0 := m.settleTag c shot.tag got short
    let p2 := m.corrected c shot.black raw
    let t := m.tnrFlags c t0 s p2
    let p := m.temporal c t p2
    let rgb := fun x y => m.toneAt8 c shot.wb p x y
    let wins := (m.windows c t.line).map (m.windowResult c shot.wb t p)
    let binned := fun (r : Nat) => if fget shot.streams 3 0 = 1 then r / 2 else r
    let dropped := match x.dropFrom with | some r => binned s.rows - binned r | none => 0
    let m1 := (m.onCam c (fun y => { y with cur := none, rows := [], rowCount := 0, dropFrom := none, lastTag := some t })).frameEvents c
      t dropped
    if shot.cal then ((m1.sendPreview c t shot.streams rgb).keepStats c t wins).calTake c (bit t.flags 0) raw
    else
      let m2 := (m1.writeHistory c t s p).writeSta c t shot.streams x.dropFrom rgb
      let m3 := ((m2.sendPreview c t shot.streams rgb).keepStats c t wins).sendStats c t wins
      (m3.loopTake { cam := c, tag := t, wins := wins }).loopAfter c t.line

/-- A port takes a packet of a virtual channel whose header has at most one wrong bit, which its ECC corrects; others are
discarded (R259). -/
def Mach.takesPacket (m : Mach) (c vc wrong : Nat) : Bool := vc = bits (m.camCfg c) 56 2 && decide (wrong ≤ 1)

/-- CSI_FRAME_START (R273): the oldest awaited trigger gets its sensor frame. -/
def Mach.frameStart (m0 : Mach) (c : Nat) : Mach :=
  let m := m0.frameDone c true
  if (m.cam c).phase = 0 then m
  else match (m.cam c).shots with
    | [] => (m.record 0x0606 c 1).camCount c 7 1
    | s :: rest => m.onCam c (fun x => { x with
        shots := rest, cur := some s, rows := [], rowCount := 0, lastRow := m.now, dropFrom := none })

/-- CSI_FRAME_START. -/
def execCsiFrameStart (dt : Nat) (cam : CsiHead) (s : State) : Res :=
  s.actUnit dt "camera" cam.cam 4 (fun m => if m.takesPacket cam.cam cam.vc cam.wrong then m.frameStart cam.cam else m)

/-- CSI_ROW_RECEIVED (R273, R291): rows of a frame that is not awaited are discarded. -/
def Mach.rowReceived (m : Mach) (c : Nat) (pixels : List Nat) (crcOk keepsUp : Bool) : Mach :=
  let x := m.cam c
  let s := m.sensor c
  match x.cur with
  | none => m
  | some shot =>
    if s.rows ≤ x.rowCount then m.onCam c (fun y => { y.flag 1 true with lastRow := m.now })
    else
      let row := if crcOk && decide (s.width ≤ pixels.length) then some (pixels.take s.width) else none
      let writes := !shot.cal && fget shot.streams 2 0 != 0 && m.nat 0x6033 0 c != 0
      let falls := writes && (!keepsUp || bit m.mem.quarantine (8 + c)) && x.dropFrom.isNone
      let m1 := m.onCam c (fun y =>
        { ((y.flag 1 (decide (s.width < pixels.length))).flag 2 (!crcOk)).flag 3 falls with
          rows := y.rows ++ [row], rowCount := y.rowCount + 1, lastRow := m.now
          dropFrom := if falls then some y.rowCount else y.dropFrom })
      if crcOk then m1 else (m1.recordAt 0x0605 c 1 shot.tag.line).camCount c 6 1

/-- CSI_ROW_RECEIVED: a packet of another data type than the port's, embedded data, Line Start and Line End among them, does
nothing (R259). -/
def execCsiRowReceived (dt : Nat) (cam : CsiHead) (pixels : CsiRow) (crcOk writerKeepsUp : Bool) (s : State) : Res :=
  s.actUnit dt "camera" cam.cam 4 (fun m =>
    if m.takesPacket cam.cam cam.vc cam.wrong && pixels.type = 0x2A + bits (m.camCfg cam.cam) 54 2 then
      m.rowReceived cam.cam pixels.pixels crcOk writerKeepsUp
    else m)

/-- CSI_FRAME_END (R273). -/
def execCsiFrameEnd (dt : Nat) (cam : CsiHead) (s : State) : Res :=
  s.actUnit dt "camera" cam.cam 4 (fun m => if m.takesPacket cam.cam cam.vc cam.wrong then m.frameDone cam.cam false else m)

/-- FS_TIMEOUT (R273): the oldest awaited sensor frame is MISSING. -/
def Mach.fsTimeout (m : Mach) (c : Nat) : Mach :=
  match (m.cam c).shots with
  | [] => m
  | s :: rest =>
    if m.now < s.issuedAt + m.fsTimeoutNs c then m
    else
      let m1 := ((m.onCam c (fun x => { x with shots := rest })).recordAt 0x0602 c s.tag.frameNo s.tag.line).camCount c 3 1
      if s.cal then m1.calTake c true (fun _ _ => none) else m1.loopAfter c s.tag.line

/-- FS_TIMEOUT. -/
def execFsTimeout (dt cam : Nat) (s : State) : Res := s.actUnit dt "camera" cam 4 (fun m => m.fsTimeout cam)

/-- FE_TIMEOUT (R273): no Frame End within FS_TIMEOUT of the last row. -/
def execFeTimeout (dt cam : Nat) (s : State) : Res :=
  s.actUnit dt "camera" cam 4 (fun m =>
    if (m.cam cam).lastRow + m.fsTimeoutNs cam ≤ m.now then m.frameDone cam true else m)

end Sys2Proof.Machine
end

