-- ==== Sys2Proof/Machine/Safe.lean ====
section
/-! DEFINITION. Leaving a run and entering SAFE (R106, R111, R452, R619, R623, R624), and the pulses that a run leaves. -/

namespace Sys2Proof.Machine

/-! ### Leaving a run (R619 steps 2 to 5) -/

/-- Step 2: a frame that some bar has begun to fire and that is not complete at B7 is marked and closes. -/
def Mach.markUnfinished (m : Mach) : Mach :=
  let begun := fun (f : PrintFrame) =>
    !f.closed && allBars.any (fun k => decide (f.first < m.fireNext k)) && decide (m.fireNext 7 ≤ f.last)
  let l := m.comp.frames.filter begun
  let m1 := l.foldl (fun acc f =>
    acc.markFrame f.jobLine f.number (2 ^ 11) (maskOf (allBars.filter (fun k => decide (m.fireNext k ≤ f.last))))) m
  let close := fun (f : PrintFrame) => if l.any (fun g => g.jobLine = f.jobLine && g.number = f.number) then { f with closed := true } else f
  { m1 with comp := { m1.comp with framesClosed := m1.comp.framesClosed + l.length, frames := m1.comp.frames.map close } }

/-- Every output's queue is emptied and its held level goes inactive, as at every entry to SAFE (R71, R624). -/
def Mach.clearPsos (m : Mach) : Mach := forEach (List.range 16) m (fun i acc => acc.clearPso i)

/-- Step 3: every output's queue is emptied and goes inactive, and pulses that have not come are missed (R141 to R143). -/
def Mach.emptyPsos (m : Mach) : Mach :=
  let gone := m.comp.frames.filter (fun f => decide (3 ≤ f.pulse))
  let n := m.nat 0x5038 1 0
  let m1 := gone.foldl (fun acc f =>
    (acc.setFrame f.jobLine f.number (fun x => { x with pulse := 2 })).recordAt 0x0203 f.number n f.first) m
  let m2 := { m1 with comp := { m1.comp with rejectList := [] } }
  m2.clearPsos.settle

/-- Steps 4 and 5: seams end, dot stores and the reference ring are invalid, the origin is released, and the loop saves
its baselines. -/
def Mach.releaseOrigin (m : Mach) (cause : Nat) : Mach :=
  let m1 := m.endSeams cause
  Mach.saveBaselines { m1 with
    seams := { m1.seams with waiting := m1.seams.waiting.filter (fun x => x.host) }
    comp := { m1.comp with dots := [], ring := [], lastSet := [], jobStarted := none }
    enc := { m1.enc with origin := none, armed := false, overspeed := false }
    loop := { m1.loop with cycleFrom := none, computing := none, meas := [], retry := none, held := [], lastBand := none, peerBands := [] } }

/-- Steps 2 to 5 of R619. -/
def Mach.leaveRun (m : Mach) (cause : Nat) : Mach := (m.markUnfinished.emptyPsos).releaseOrigin cause

/-! ### SAFE (R623, R624, R452) -/

/-- Events whose FIRE has left and whose fire time is still to come are not fired: the hardware path stops them. -/
def Mach.cutFires (m : Mach) : Mach :=
  forEach allPorts m (fun p acc =>
    ((acc.port p).fire.fires.filter (fun x => decide (acc.linkTime < x.time))).foldl
      (fun acc x => acc.notFired p x.event (2 ^ 11)) acc)

/-- TRIG, FLASH and TILE_ARM go inactive; a calibration is aborted (R600, R624). -/
def Mach.stopCams (m : Mach) : Mach :=
  let m1 := forEach allCams m (fun c acc =>
    (acc.calFail c 6).onCam c (fun x => { x with trigEnd := none, flashAt := none, flashEnd := none }))
  if m.cal.phase = 0 then m1 else m1.calEnd

/-- An active module that enters SAFE yields (R452): on both paths, and at every endpoint. -/
def Mach.yields (m : Mach) : Mach :=
  if m.pair.role = 1 then
    let m1 := { m with pair := { m.pair with yielded := true, yieldedAt := some m.now } }
    forEach allPorts (m1.emit (.peer .giveUp)) (fun p acc => acc.releaseToken p)
  else m

/-- The module enters SAFE for a cause of R623 that concerns a unit (R624). A fault of E12 or its watchdog leaves the
run as it is: the outputs are emptied, and nothing of what was discarded is recorded. -/
def Mach.enterSafe (m : Mach) (cause unit : Nat) : Mach :=
  if m.sys.mode = .safe then m
  else
    let ran := m.printing
    let m1 := if ran then m.cutFires else m
    let m2 := m1.withStops (fun x => { x with gate := { x.gate with modeStop := true }, sys := { x.sys with holdRequested := false } })
    let m3 := Mach.setMode { m2 with sys := { m2.sys with
      safeCause := cause, safeUnit := unit, faultN := true, yielded := false, leavingSafe := false
      stationary := { m2.sys.stationary with active := false } } } .safe
    let m4 := ((m3.record 0x0E02 cause unit).stopCams).yields
    if cause = 2 || (cause = 1 && unit = 12) then m4.clearPsos
    else if ran then m4.leaveRun 2
    else m4.emptyPsos

end Sys2Proof.Machine
end

