-- ==== Sys2Proof/Machine/Memory.lean ====
section
/-! DEFINITION. Job memory's channels and the fabric: refresh, temperature, classes and ranks, lifts, the cut-off and its
consequences, and the latency guarantee (R365 to R400). -/

namespace Sys2Proof.Machine

/-- A memory channel. -/
def Mach.channel (m : Mach) (c : Nat) : Channel := fget m.mem.channels c {}

/-- Change a memory channel. -/
def Mach.onChannel (m : Mach) (c : Nat) (f : Channel → Channel) : Mach :=
  { m with mem := { m.mem with channels := fupd m.mem.channels c {} f } }

/-- Add to MEM_COUNTERS (R399). -/
def Mach.memCount (m : Mach) (k n : Nat) : Mach := { m with mem := { m.mem with counters := bump m.mem.counters k n } }

/-! ### Address maps (R365, R366, R369) -/

/-- Where a byte of job memory lies: channel, bank, row, and the byte within the row. -/
structure MemPlace where
  chan : Nat
  bank : Nat
  row : Nat
  column : Nat
  deriving DecidableEq, Repr

/-- The place of a 35-bit address under a map. -/
def memPlace (map a : Nat) : MemPlace :=
  let row := bits a 18 17
  if map = 0 then { chan := bits a 32 3, bank := bits a 11 4, row := bits a 15 17, column := bits a 0 11 }
  else if map = 1 then { chan := bits a 8 3, bank := bits a 14 4, row := row, column := bits a 11 3 * 256 + bits a 0 8 }
  else
    let column := bits a 15 3 * 256 + bits a 0 8
    if map = 2 then { chan := bits a 8 3, bank := bits a 11 4, row := row, column := column }
    else { chan := Nat.xor (bits a 8 3) (bits row 4 3), bank := Nat.xor (bits a 11 4) (bits row 0 4), row := row, column := column }

/-- The place of an address under the map in effect. -/
def Mach.placeOf (m : Mach) (a : Nat) : MemPlace := memPlace m.mem.mapInEffect a

/-! ### Choosing among what is queued (R367, R370, R371, R385, R386, R392)

The table has no command that queues an access, so what these choose never changes data or the state (R374, log entry 72). -/

/-- A read that waits in a channel's queue: its requester's class, the address, and when it entered. -/
structure QueuedRead where
  cls : Nat
  addr : Nat
  since : Nat
  deriving DecidableEq, Repr

/-- Which of two reads a channel serves first: under CLASS_AGE the older one of those past AGE_LIMIT, then the class, then a
hit of an open row, then age; under FR_FCFS a hit, then age. -/
def Mach.servedFirst (m : Mach) (open_ : MemPlace → Bool) (x y : QueuedRead) : Bool :=
  let limit := 10 * bits (m.nat 0x8001 0 0) 8 12
  let old := fun (r : QueuedRead) => b2n !(bit (m.nat 0x8001 0 0) 4 && decide (r.since + limit < m.now))
  let cls := fun (r : QueuedRead) => if old r = 0 || !bit (m.nat 0x8001 0 0) 4 then 0 else r.cls
  let hit := fun (r : QueuedRead) => if old r = 0 then 0 else b2n !open_ (m.placeOf r.addr)
  let key := fun (r : QueuedRead) => [old r, cls r, hit r, r.since]
  decide (key x ≤ key y)

/-- The read that a channel serves next. -/
def Mach.nextRead (m : Mach) (open_ : MemPlace → Bool) (l : List QueuedRead) : Option QueuedRead :=
  firstWhere (fun x => l.all (fun y => m.servedFirst open_ x y)) l

/-- A read may enter a channel's queue: classes I, H and B hold at most 8 of its 48 read entries (R367). -/
def mayQueue (cls : Nat) (l : List QueuedRead) : Bool :=
  decide (l.length < 48) && (cls = 0 || decide ((l.filter (fun r => r.cls != 0)).length < 8))

/-- A composer may fetch another run of 4 (R397): its requests in all, and those in the run's channel. -/
def Mach.mayFetch (m : Mach) (all inChannel : Nat) : Bool :=
  decide (all + 4 ≤ m.nat 0x8020 0 0) && decide (inChannel + 4 ≤ m.nat 0x8020 0 0 / 4)

/-- A channel starts to drain its writes, of which each entered at its time (R372). -/
def Mach.drainStarts (m : Mach) (pQueued : Bool) (writes : List Nat) : Bool :=
  decide ((if pQueued then 16 else 12) ≤ writes.length)
    || (bit (m.nat 0x8001 0 0) 4 && writes.any (fun t => decide (t + 10 * bits (m.nat 0x8001 0 0) 8 12 < m.now)))

/-- A drain ends: the writes done and those left (R372). -/
def drainEnds (pQueued : Bool) (done left : Nat) : Bool := if pQueued then decide (4 ≤ done) else decide (left ≤ 4)

/-- The writes that are drained before a read is served, up to the last one to its 64 bytes (R373). -/
def drainedFirst (addr : Nat) (writes : List Nat) : List Nat :=
  (writes.reverse.dropWhile (fun w => w / 64 != addr / 64)).reverse

/-! ### The guarantee (R398) -/

/-- Bits [4:1] of MEM_STATUS, in place. -/
def Mach.lostBits (m : Mach) : Nat :=
  maskOf ((if bit (m.nat 0x8001 0 0) 4 then [] else [1]) ++ (if m.mem.mapInEffect ≤ 1 then [2] else [])
    ++ (if (List.range 8).any (fun c => decide (1050 < (m.channel c).temp.getD 0)) then [3] else [])
    ++ (if 16 < m.nat 0x8020 0 0 then [4] else []))

/-- GUARANTEE_LOST when GUARANTEE falls to 0; parameter 0 holds the bits from MEM_STATUS bit 1 on. -/
def Mach.judgeGuarantee (m old : Mach) : Mach :=
  if old.lostBits = 0 && m.lostBits != 0 then m.record 0x080A (m.lostBits / 2) m.mem.mapInEffect else m

/-! ### Refresh (R375 to R380) -/

/-- The limit of the debt: 4 intervals at the 1x rate, 8 above (R376). -/
def debtLimit (rate : Nat) : Nat := if rate = 0 then 4 else 8

/-- Payback up to now: an interval's 16 per-bank refreshes take 1.44 us (R379). -/
def Channel.paid (c : Channel) (now : Nat) : Channel :=
  match c.paying with
  | none => c
  | some t =>
    let n := (now - t) / 1440
    if c.debt ≤ n then { c with debt := 0, paying := none } else { c with debt := c.debt - n, paying := some (t + n * 1440) }

/-- The debt at a change of rate (R377). -/
def rescaled (debt old new : Nat) : Nat :=
  if old = 0 && new != 0 then 2 * debt else if old != 0 && new = 0 then divUp debt 2 else debt

/-- The channel takes the rate that MR4 reports (R377, R380, R381). -/
def Mach.takeRate (m : Mach) (ch rate : Nat) : Mach :=
  let old := (m.channel ch).rate
  if old = rate then m
  else
    let m1 := (m.onChannel ch (fun c => { c with rate := rate, debt := rescaled c.debt old rate })).record 0x0804 ch rate
    if rate = 2 then (m1.record 0x0803 ch 1).enterSafe 3 ch else m1

/-- An interval falls due (R375, R378): postponed or forced while a class P read is queued; else refreshed, all banks at
once in SAFE, and behind what payback still owes. -/
def Mach.refreshDue (m0 : Mach) (ch rate : Nat) (pQueued : Bool) : Mach :=
  let m := m0.onChannel ch (fun c => c.paid m0.now)
  if pQueued then
    let m1 := (m.takeRate ch rate).onChannel ch (fun c => { c with paying := none })
    if (m1.channel ch).debt < debtLimit (m1.channel ch).rate then
      (m1.onChannel ch (fun c => { c with debt := c.debt + 1 })).memCount 1 1
    else (m1.record 0x0805 ch 1).memCount 2 1
  else if m.sys.mode = .safe then m.memCount 3 1
  else m.onChannel ch (fun c =>
    if c.paying.isSome && decide (c.debt < debtLimit c.rate) then { c with debt := c.debt + 1 } else c)

/-- REFRESH_DUE. -/
def execRefreshDue (dt ch rate : Nat) (pQueued : Bool) (s : State) : Res :=
  s.actUnit dt "channel" ch 8 (fun m => m.refreshDue ch (min rate 2) pQueued)

/-- REFRESH_PAYBACK_START (R379). -/
def execRefreshPaybackStart (dt ch : Nat) (s : State) : Res :=
  s.actUnit dt "channel" ch 8 (fun m => m.onChannel ch (fun c =>
    let c1 := c.paid m.now
    if c1.debt != 0 && c1.paying.isNone then { c1 with paying := some m.now } else c1))

/-- MR4_POLL (R380). -/
def execMr4Poll (dt ch rate : Nat) (s : State) : Res :=
  s.actUnit dt "channel" ch 8 (fun m => (m.onChannel ch (fun c => c.paid m.now)).takeRate ch (min rate 2))

/-- MEM_TEMP_READ (R381, R398). -/
def Mach.memTemp (m : Mach) (ch : Nat) (t : Int) : Mach :=
  let limit := m.num 0x8003 0 0
  let high := (m.channel ch).tempHigh
  let m1 := m.onChannel ch (fun c => { c with temp := some t })
  let m2 :=
    if !high && decide (limit ≤ t) then (m1.onChannel ch (fun c => { c with tempHigh := true })).record 0x0801 ch (p32 t)
    else if high && decide (t ≤ limit - 50) then (m1.onChannel ch (fun c => { c with tempHigh := false })).record 0x0802 ch (p32 t)
    else m1
  let m3 := m2.judgeGuarantee m
  if 1050 ≤ t && m3.sys.mode != .safe then (m3.record 0x0803 ch 0).enterSafe 3 ch else m3

/-- MEM_TEMP_READ. -/
def execMemTempRead (dt ch : Nat) (temp : Int) (s : State) : Res := s.actUnit dt "channel" ch 8 (fun m => m.memTemp ch temp)

/-! ### Reads (R370, R396, R399) -/

/-- AGE_PROMOTION (R370): a queued request passes AGE_LIMIT under CLASS_AGE; what it overtakes is timing. -/
def execAgePromotion (dt ch _k : Nat) (s : State) : Res :=
  s.actUnit dt "channel" ch 8 (fun m => if bit (m.nat 0x8001 0 0) 4 then m.memCount 5 1 else m)

/-- A class of a requester in effect (R389). -/
def Mach.classOf (m : Mach) (q : Nat) : Nat := bits (m.effNum 0x8012 (q + 1) 0).toNat 8 2

/-- A requester. -/
def Mach.requester (m : Mach) (q : Nat) : Requester := fget m.mem.reqs q { rank := bits (m.effNum 0x8012 (q + 1) 0).toNat 0 4 }

/-- Change a requester. -/
def Mach.onRequester (m : Mach) (q : Nat) (f : Requester → Requester) : Mach :=
  { m with mem := { m.mem with reqs := fset m.mem.reqs q (f (m.requester q)) } }

/-- An arbiter's order of requesters: by class, lift and rank, and of equals the one whose last grant there is oldest, one
without a grant before them all, and the lowest number (R385, R392). -/
def Mach.grantKey (m : Mach) (lastGrant : Nat → Option Nat) (q : Nat) : List Nat :=
  [m.classOf q, b2n !(m.requester q).lifted, 15 - (m.requester q).rank, ((lastGrant q).map (· + 1)).getD 0, q]

/-- The requester that an arbiter grants, of those with a request pending. -/
def Mach.winner (m : Mach) (lastGrant : Nat → Option Nat) (pending : List Nat) : Option Nat :=
  firstWhere (fun q => pending.all (fun r => decide (m.grantKey lastGrant q ≤ m.grantKey lastGrant r))) pending

/-- The turn hint (R388): what stands ahead of a class B requester's oldest request, of the queued requests of classes P, I
and H and the class B requesters with one pending. -/
def Mach.turnHint (m : Mach) (lastGrant : Nat → Option Nat) (higher : Nat) (pending : List Nat) (q : Nat) : Nat :=
  let ahead := higher + (pending.filter (fun r => decide (m.grantKey lastGrant r < m.grantKey lastGrant q))).length
  if m.classOf q != 3 then 0 else if pending.contains q then min 0xFFFF ahead else 0xFFFF

/-- A requester that loses a round rises one rank, up to its class's CEILING; class B keeps its rank (R386). -/
def Mach.lostRound (m : Mach) (q : Nat) : Mach :=
  if m.classOf q = 3 then m
  else m.onRequester q (fun r => { r with rank := min (bits (m.effNum 0x8013 (m.classOf q + 1) 0).toNat 8 4) (r.rank + 1) })

/-- A grant: a lift ends, and outside class B the rank drops to the class's FLOOR (R386, R392). -/
def Mach.granted (m : Mach) (q : Nat) : Mach :=
  m.onRequester q (fun r => { r with
    lifted := false, rank := if m.classOf q = 3 then r.rank else bits (m.effNum 0x8013 (m.classOf q + 1) 0).toNat 0 4 })

/-- MEM_READ_DONE (R396, R399): a class P read of a composer completes. -/
def Mach.readDone (m : Mach) (ch q latency : Nat) : Mach :=
  let m1 := { m.granted q with mem := { (m.granted q).mem with
    counters := fupd (m.granted q).mem.counters 6 0 (fun x => max x (min 0xFFFFFFFF latency)) } }
  if 2000 < latency then (m1.memCount 7 1).record 0x0809 (ch + 256 * q) latency else m1

/-- MEM_READ_DONE. -/
def execMemReadDone (dt ch q latency : Nat) (s : State) : Res :=
  s.actUnits dt "channel" ch 8 "composer" q 8 (fun m => m.readDone ch q latency)

/-! ### Classes and ranks (R389 to R392) -/

/-- The shadow of a requester's setting. -/
def Mach.arbReq (m : Mach) (q : Nat) : Nat := m.nat 0x8012 (q + 1) 0

/-- The shadow of a class's setting. -/
def Mach.arbClass (m : Mach) (k : Nat) : Nat := m.nat 0x8013 (k + 1) 0

/-- The shadows keep R391. -/
def Mach.arbFits (m : Mach) : Bool :=
  (List.range 4).all (fun k => k = 3 || decide (bits (m.arbClass k) 0 4 ≤ bits (m.arbClass k) 8 4))
    && (List.range 23).all (fun q =>
      let c := m.arbClass (bits (m.arbReq q) 8 2)
      let rank := bits (m.arbReq q) 0 4
      decide (bits c 0 4 ≤ rank) && (bits (m.arbReq q) 8 2 = 3 || decide (rank ≤ bits c 8 4)))

/-- Every arbiter shadow takes effect, and every current rank becomes the requester's RANK (R391); lifts are kept. -/
def Mach.arbTake (m : Mach) : Mach :=
  let old := fun q => (m.effNum 0x8012 (q + 1) 0).toNat
  let classes := maskOf ((List.range 23).filter (fun q => bits (old q) 8 2 != bits (m.arbReq q) 8 2))
  let ranks := maskOf ((List.range 23).filter (fun q => bits (old q) 0 4 != bits (m.arbReq q) 0 4))
  let eff1 := (List.range 24).foldl (fun l q => fset l (okey 0x8012 (q + 1) 0) (m.num 0x8012 (q + 1) 0)) m.dict.effNums
  let eff2 := (List.range 4).foldl (fun l k => fset l (okey 0x8013 (k + 1) 0) (m.num 0x8013 (k + 1) 0)) eff1
  let m1 := { m with dict := { m.dict with effNums := eff2 } }
  (forEach (List.range 23) m1 (fun q acc => acc.onRequester q (fun r => { r with rank := bits (m.arbReq q) 0 4 }))).record 0x0808
    classes ranks

/-- A write of ARB_COMMIT (R391). -/
def Mach.writeArbCommit (m : Mach) (w : Who) (v : Nat) : Mach :=
  m.guardedNum w 0x8010 0 v (fun m =>
    if v = 0 then m.acceptNum w 0x8010 0 0 1 v
    else if m.arbFits then m.arbTake.acceptNum w 0x8010 0 0 1 v
    else m.reply w 0x8010 0 .outOfRange)

/-- ARB_COMMIT. -/
def execArbCommit (dt sid v : Nat) (s : State) : Res := s.act dt (fun m => m.writeArbCommit (.host sid) v)

/-- A write of URGENT_LIFT (R392). -/
def Mach.writeUrgentLift (m : Mach) (w : Who) (v : Nat) : Mach :=
  m.guardedNum w 0x8011 0 v (fun m =>
    if bit m.mem.quarantine v then m.reply w 0x8011 0 .notReady
    else (m.onRequester v (fun r => { r with lifted := true })).acceptNum w 0x8011 0 0 1 v)

/-- URGENT_LIFT. -/
def execUrgentLift (dt sid v : Nat) (s : State) : Res := s.act dt (fun m => m.writeUrgentLift (.host sid) v)

/-! ### Cut-off and quarantine (R393 to R395) -/

/-- A transfer fails (R546): its handle is invalid, its buffers are released, and BULK_FAILED is recorded. -/
def Mach.failTransfer (m : Mach) (tid fail : Nat) : Mach :=
  match ffind m.hy.transfers tid with
  | none => m
  | some t =>
    if t.state != 0 then m
    else
      let m1 := m.freeBuffers t.handle
      Mach.record { m1 with
        frc := { m1.frc with objects := fdel m1.frc.objects t.handle, queue := m1.frc.queue.filter (· != t.handle) }
        hy := { m1.hy with
          counters := bump m1.hy.counters 5 1
          transfers := fset m1.hy.transfers tid { t with state := 2, fail := fail, data := [], received := [] } } }
        0x0D06 t.handle fail

/-- What a quarantined requester's unit does (R395): the causes of its failures are not stated (log entry 5). -/
def Mach.unitCut (m : Mach) (q : Nat) : Mach :=
  if q = 12 || q = 13 then
    let l := (m.hy.transfers.filter (fun t => t.2.state = 0 && t.2.net = q - 12)).map (fun t => t.1)
    l.foldl (fun acc tid => acc.drawn.failTransfer tid acc.freeNat) m
  else if q = 14 || q = 15 then
    let l := (m.frc.objects.filter (fun o => o.2.state = (if q = 14 then 3 else 4))).map (fun o => o.1)
    let m1 := l.foldl (fun (acc : Mach) h => acc.cutObject h) m
    if q = 14 then m1.startCoding else m1
  else if q = 16 || q = 17 then m.enterSafe 4 q
  else m

/-- ARB_CUTOFF (R393): a write's data stall for more than GRANT_HOLD_MAX cycles; composers never write. -/
def Mach.arbCutoff (m : Mach) (q addr cycles : Nat) : Mach :=
  if q < 8 || cycles ≤ m.nat 0x8014 0 0 || bit m.mem.quarantine q then m
  else
    let m1 := m.granted q
    (Mach.record { m1 with mem := { m1.mem with quarantine := setBit m1.mem.quarantine q true } } 0x0806 q addr).unitCut q

/-- ARB_CUTOFF. -/
def execArbCutoff (dt q addr cycles : Nat) (s : State) : Res := s.actUnit dt "requester" q 23 (fun m => m.arbCutoff q addr cycles)

/-- A write of ARB_REENABLE (R394): parameter 0 is the mask of the quarantines that end. -/
def Mach.writeArbReenable (m : Mach) (w : Who) (v : Nat) : Mach :=
  m.guardedNum w 0x8016 0 v (fun m =>
    let ended := maskOf ((setBits v 23).filter (bit m.mem.quarantine))
    let left := maskOf ((setBits m.mem.quarantine 23).filter (fun q => !bit v q))
    (Mach.record { m with mem := { m.mem with quarantine := left } } 0x0807 ended 0).acceptNum w 0x8016 0 0 4 v)

/-- ARB_REENABLE. -/
def execArbReenable (dt sid v : Nat) (s : State) : Res := s.act dt (fun m => m.writeArbReenable (.host sid) v)

end Sys2Proof.Machine
end

