-- ==== Sys2Proof/Machine/Trail.lean ====
section
/-! DEFINITION. Yarrow's audit trail (R490 to R494, R503). -/

namespace Sys2Proof.Machine

/-- The trail's time now: that of the last TICK, carried forward (R490). -/
def Mach.trailTime (m : Mach) : Nat := if m.yarrow.tick.at_ = 0 then 0 else m.yarrow.tick.time + (m.now - m.yarrow.tick.at_)

/-- A trail record as Yarrow writes it. -/
def Mach.mkTrail (m : Mach) (code p0 p1 : Nat) : Rec :=
  { m.mkRec code p0 p1 m.yarrow.tick.line true with
    agent := .yarrow, timeValid := m.yarrow.tick.at_ != 0, domain := m.yarrow.tick.domain
    time := m.trailTime % 2 ^ 64, line := m.yarrow.tick.line, lineValid := m.yarrow.tick.line != noLine }

/-- An occurrence merges into the newest trail record of its code (R585, R490). -/
def mergesTrail (window now : Nat) (x o : Rec) : Bool :=
  o.code = x.code && o.p0 = x.p0 && o.p1 = x.p1 && decide (0 < window)
    && decide (now ≤ o.time + o.spanMs * 1000000 + window * 1000000) && decide (o.repeats < 65535) && decide (o.spanMs < 65535)

/-- The trail takes a record: it stops when it is full (R492). -/
def Yarrow.trailTake (y : Yarrow) (window now : Nat) (x : Rec) : Yarrow :=
  match y.trail.getLast? with
  | some o =>
    if mergesTrail window now x o then
      { y with trail := y.trail.dropLast ++ [{ o with repeats := o.repeats + 1, spanMs := min 65535 ((now - o.time) / 1000000) }] }
    else if 4096 ≤ y.trail.length then { y with trailLost := satAdd 65535 y.trailLost 1 }
    else { y with trail := y.trail ++ [{ x with num := y.trail.length }] }
  | none => { y with trail := [{ x with num := 0 }] }

/-- A record for the trail, which the service recorder gets too (R503); TRAIL_NEAR_FULL at 4,032 records (R492). -/
def Mach.trailRec (m : Mach) (code p0 p1 : Nat) : Mach :=
  let x := m.mkTrail code p0 p1
  let m1 := Mach.recordRec { m with yarrow := m.yarrow.trailTake (m.nat 0xB001 0 0) m.trailTime x } (m.mkRec code p0 p1 m.webLine true)
  if m.yarrow.trail.length < 4032 && m1.yarrow.trail.length = 4032 then m1.record 0x0B21 4032 0 else m1

/-- The 16 flag bits of a record (R580 to R583). -/
def Rec.flags (r : Rec) : Nat :=
  r.domain + 2 * b2n r.timeValid + 4 * b2n r.lineValid + 8 * b2n r.trail + 16 * b2n r.notActive

end Sys2Proof.Machine
end

