-- ==== Sys2Proof/Machine/Engines.lean ====
section
/-! DEFINITION. The engines, the semaphores, the user engine and its mailboxes (R401 to R420). -/

namespace Sys2Proof.Machine

/-- An engine. -/
def Mach.engine (m : Mach) (n : Nat) : Engine := fget m.cpu.engines n {}

/-- Change an engine. -/
def Mach.onEngine (m : Mach) (n : Nat) (f : Engine → Engine) : Mach :=
  { m with cpu := { m.cpu with engines := fupd m.cpu.engines n {} f } }

/-- A semaphore. -/
def Mach.sem (m : Mach) (s : Nat) : Sem := fget m.cpu.sems s {}

/-- Change a semaphore. -/
def Mach.onSem (m : Mach) (s : Nat) (f : Sem → Sem) : Mach := { m with cpu := { m.cpu with sems := fupd m.cpu.sems s {} f } }

/-- Change the user engine's part. -/
def Mach.onUser (m : Mach) (f : User → User) : Mach := { m with cpu := { m.cpu with user := f m.cpu.user } }

/-- Change the debug port's part. -/
def Mach.onDbg (m : Mach) (f : Dbg → Dbg) : Mach := { m with cpu := { m.cpu with dbg := f m.cpu.dbg } }

/-! ### Semaphores (R410 to R419) -/

/-- Lease left in us (R411, R417): frozen while the owner is halted (R413). -/
def Sem.leaseLeft (x : Sem) (now : Nat) : Nat :=
  if x.state != 1 then 0 else match x.frozen with
    | some left => left / 1000
    | none => (x.leaseEnd - now) / 1000

/-- The word that TRY and WAIT read (R411). -/
def semWord (result : Nat) (x : Sem) (now : Nat) : Nat := result * 2 ^ 30 + x.owner * 2 ^ 24 + x.leaseLeft now

/-- The lease of a semaphore in ns, from its next grant (R413). -/
def Mach.leaseNs (m : Mach) (s : Nat) : Nat := m.nat 0x9011 (s + 1) 0 * 1000

/-- A read's word reaches its reader; a waiting engine runs again. -/
def Mach.semAnswer (m : Mach) (id word : Nat) : Mach :=
  if id = 15 then m.onDbg (fun d => { d with data := word, semWait := none })
  else m.onEngine id (fun e => { e with grantWord := word, waitSem := none, state := if e.state = 5 then 1 else e.state })

/-- A semaphore that is not HELD is granted to an owner (R411, R412): from ABANDONED, RECOVERING is set. -/
def Mach.semGrant (m : Mach) (s id : Nat) : Mach :=
  let wasAbandoned := (m.sem s).state = 2
  let lease := m.leaseNs s
  let halted := id != 15 && (m.engine id).state = 2
  let m1 := m.onSem s (fun x => { x with
    state := 1, recovering := wasAbandoned, owner := id, leaseEnd := m.now + lease, frozen := if halted then some lease else none })
  m1.semAnswer id (semWord (b2n wasAbandoned) (m1.sem s) m.now)

/-- The waiter that has waited longest; ties go to the lowest ID (R415). -/
def longestWaiter (l : List (Nat × Nat)) : Option (Nat × Nat) :=
  l.foldl (fun best w =>
    match best with
    | none => some w
    | some b => if w.2 < b.2 || (w.2 = b.2 && w.1 < b.1) then some w else best) none

/-- A semaphore leaves HELD for FREE or ABANDONED, and is granted at once to the longest waiter (R414, R415). -/
def Mach.semLeave (m : Mach) (s : Nat) (abandoned : Bool) : Mach :=
  let m1 := m.onSem s (fun x => { x with
    state := if abandoned then 2 else 0, recovering := false, lastOwner := x.owner, owner := 14, leaseEnd := 0, frozen := none })
  match longestWaiter (m1.sem s).waiters with
  | none => m1
  | some w => (m1.onSem s (fun x => { x with waiters := x.waiters.filter (fun y => y.1 != w.1) })).semGrant s w.1

/-- An engine waits on no semaphore any more. -/
def Mach.noLongerWaits (m : Mach) (id : Nat) : Mach :=
  forEach (List.range 64) m (fun s acc => acc.onSem s (fun x => { x with waiters := x.waiters.filter (fun y => y.1 != id) }))

/-- An owner's reset releases all it holds into ABANDONED (R414), and it waits no more. -/
def Mach.semsAbandoned (m : Mach) (id : Nat) : Mach :=
  forEach (List.range 64) (m.noLongerWaits id) (fun s acc =>
    if (acc.sem s).state = 1 && (acc.sem s).owner = id then (acc.record 0x0904 s id).semLeave s true else acc)

/-- The semaphore that an owner waits on. -/
def Mach.waitsOn (m : Mach) (id : Nat) : Option Nat := if id = 15 then m.cpu.dbg.semWait else (m.engine id).waitSem

/-- The chain of R419 from a semaphore: the owners on it, when it returns to the waiting engine. -/
def Mach.semCircle (m : Mach) (id : Nat) : Nat → Nat → List Nat → Option (List Nat)
  | 0, _, _ => none
  | k + 1, s, seen =>
    let o := (m.sem s).owner
    if (m.sem s).state != 1 then none
    else if o = id then some (o :: seen)
    else match m.waitsOn o with
      | none => none
      | some s' => Mach.semCircle m id k s' (o :: seen)

/-- A WAIT that is not granted (R411, R419): the engine stalls, and a circle is recorded. -/
def Mach.semQueue (m : Mach) (s id : Nat) : Mach :=
  let m1 := m.onSem s (fun x => { x with waiters := x.waiters ++ [(id, m.now)] })
  let m2 := if id = 15 then m1.onDbg (fun d => { d with semWait := some s })
    else m1.onEngine id (fun e => { e with state := 5, waitSem := some s, waitSince := m.now })
  match m2.semCircle id 16 s [] with
  | none => m2
  | some l => m2.record 0x0906 (maskOf l) s

/-- The owner renews in full (R411). -/
def Mach.semRefill (m : Mach) (s : Nat) : Mach :=
  m.onSem s (fun x => { x with leaseEnd := m.now + m.leaseNs s, frozen := x.frozen.map (fun _ => m.leaseNs s) })

/-- TRY and WAIT by an owner ID (R411, R412). -/
def Mach.semRead (m : Mach) (s id : Nat) (wait : Bool) : Mach :=
  let x := m.sem s
  if x.state != 1 then m.semGrant s id
  else if x.owner = id then
    let m1 := m.semRefill s
    m1.semAnswer id (semWord 3 (m1.sem s) m.now)
  else if wait then m.semQueue s id
  else m.semAnswer id (semWord 2 x m.now)

/-- A write by an ID that does not own the semaphore (R411). -/
def Mach.owned (m : Mach) (s id : Nat) (f : Mach → Mach) : Mach :=
  if (m.sem s).state = 1 && (m.sem s).owner = id then f m else m.record 0x0907 s id

/-- A release (R411, R412): while RECOVERING is set it leaves ABANDONED. -/
def Mach.semReleased (m : Mach) (s id : Nat) : Mach :=
  m.owned s id (fun m =>
    if (m.sem s).recovering then (m.record 0x0905 s id).semLeave s true else m.semLeave s false)

/-- Recovery declared done (R412). -/
def Mach.semRecovered (m : Mach) (s id : Nat) : Mach := m.owned s id (fun m => m.onSem s (fun x => { x with recovering := false }))

/-- Leases of a halted owner stand still (R413). -/
def Mach.freezeLeases (m : Mach) (n : Nat) : Mach :=
  forEach (List.range 64) m (fun s acc =>
    if (acc.sem s).state = 1 && (acc.sem s).owner = n && (acc.sem s).frozen.isNone then
      acc.onSem s (fun x => { x with frozen := some (x.leaseEnd - m.now) }) else acc)

/-- Leases of an owner that runs again go on (R413). -/
def Mach.thawLeases (m : Mach) (n : Nat) : Mach :=
  forEach (List.range 64) m (fun s acc =>
    if (acc.sem s).state = 1 && (acc.sem s).owner = n then
      acc.onSem s (fun x => { x with leaseEnd := m.now + x.frozen.getD (x.leaseEnd - m.now), frozen := none }) else acc)

/-! ### The user engine (R405 to R409) -/

/-- E13 executes: it is neither in reset, nor halted, nor in FAULT. -/
def Mach.userRuns (m : Mach) : Bool := [1, 4, 5].contains (m.engine 13).state

/-- RUN of USER_CONTROL. -/
def Mach.userRun (m : Mach) : Bool := bit (m.nat 0x9021 0 0) 0

/-- RUN set or cleared. -/
def Mach.setRun (m : Mach) (b : Bool) : Mach := m.setNum 0x9021 0 0 (setBit (m.nat 0x9021 0 0) 0 b : Nat)

/-- E13 is held in reset, and what it holds is released (R414). -/
def Mach.stopUser (m : Mach) : Mach :=
  if (m.engine 13).state = 0 then m
  else (m.semsAbandoned 13).onEngine 13 (fun e => { e with state := 0, cause := 0, waitSem := none, regs := [], ran := 0 })

/-- E13 starts (R407): the image goes to local address 0, E13 is reset, with what it holds released (R414), and execution
starts at address 0. Its window is cleared by the frame in which the command acts. -/
def Mach.startUser (m : Mach) : Mach :=
  if m.cpu.user.image.isEmpty then m
  else
    let img := m.cpu.user.image
    let code := img.take (img.length - 64)
    let m1 := (if (m.engine 13).state = 0 then m else m.semsAbandoned 13).drawn
    (m1.onEngine 13 (fun e => { e with
      state := 1, cause := 0, waitSem := none, regs := [(32, 0)], ran := m.free + 1, local_ := (List.range code.length).zip code
      })).onUser (fun u => { u with starts := u.starts + 1, wdtAt := m.now })

/-- E13 is reset after a fault (R408): its third reset within 10 s leaves it in FAULT, with RUN cleared. -/
def Mach.userFault (m : Mach) (cause : Nat) : Mach :=
  let m1 := m.semsAbandoned 13
  let m2 := m1.onEngine 13 (fun e => { e with
    state := 0, cause := cause, waitSem := none, resets := satAdd 255 e.resets 1, regs := [], ran := 0 })
  let times := (m2.cpu.user.resetTimes.filter (fun t => decide (m.now ≤ t + 10000000000))) ++ [m.now]
  let m3 := (m2.onUser (fun u => { u with resetTimes := times })).record 0x0902 cause (m2.engine 13).resets
  if 3 ≤ times.length then (m3.onEngine 13 (fun e => { e with state := 3 })).setRun false
  else if m3.userRun then m3.startUser
  else m3

/-- An engine E0 to E12 faults (R404), and waits on no semaphore any more (log entry 87). -/
def Mach.engineFaults (m : Mach) (n cause : Nat) : Mach :=
  (((m.noLongerWaits n).onEngine n (fun e => { e with state := 3, cause := cause, waitSem := none })).record 0x0901 n cause).enterSafe 1 n

/-- An engine that owns a semaphore takes a lease fault (R414); the debug port takes none. -/
def Mach.leaseFault (m : Mach) (id : Nat) : Mach :=
  if id = 13 then m.userFault 3 else if id < 13 then m.engineFaults id 3 else m

/-- A lease reaches 0 (R414 to R416). -/
def Mach.leaseExpired (m : Mach) (s : Nat) : Mach :=
  let x := m.sem s
  if x.state = 1 && x.frozen.isNone && decide (x.leaseEnd ≤ m.now) then
    Mach.leaseFault ((m.record 0x0903 s x.owner).semLeave s true) x.owner
  else m

/-- An access fault of an engine (R401, R404, R405). -/
def Mach.accessFault (m : Mach) (n : Nat) : Mach := if n = 13 then m.userFault 2 else m.engineFaults n 2

/-- An access of an engine that executes; E13 reaches SEM56 to SEM63 only (R405), and no engine a number above 63, for
which the block has no address (R401). -/
def Mach.semAccess (m : Mach) (n s : Nat) (f : Mach → Mach) : Mach :=
  if (m.engine n).state != 1 then m
  else if 64 ≤ s || (n = 13 && decide (s < 56)) then m.accessFault n
  else f m

/-- USER_WINDOW_MIB in bytes: the user window lies at a job-memory address of the module's choosing (R405). -/
def Mach.windowSize (m : Mach) : Nat := m.nat 0x9023 0 0 * 1048576

/-- Job memory after a command: the user window is cleared at every start of E13 (R407). -/
def clearWindow (old new : Mach) (mem : List Host.Cell) : List Host.Cell :=
  if old.cpu.user.starts = new.cpu.user.starts then mem
  else mem.filter (fun c => decide (c.1 < jobBase 0) || decide (jobBase 0 + new.windowSize ≤ c.1))

/-- A command that may start E13. -/
def State.actUser (s : State) (dt : Nat) (f : Mach → Mach) : Res :=
  let m0 := tick dt s.m
  let m := f m0
  .next { s with m := m, mem := clearWindow m0 m s.mem }

/-- USER_IMAGE (R407): the signature is one of the INTEGRATOR keys'. -/
def Mach.writeUserImage (m : Mach) (w : Who) (data : Bytes) : Mach :=
  m.guardedBytes w 0x9020 0 (writeLevels 0x9020 0) data (fun _ m =>
    let digest := sha256 (data.take (data.length - 64))
    let sig := data.drop (data.length - 64)
    if [5, 6, 7, 8].any (fun i => ecdsaOk (m.blob 0x1210 i 0) digest sig) then
      let m1 := (m.stopUser.setRun false).onUser (fun u => { u with image := data, digest := digest })
      let m2 := (m1.queueItem { kind := 4, key := 0, blobs := [(0, data)] }).record 0x0908 (leAt digest 0 4) data.length
      m2.accept w 0x9020 0 0 data
    else m.reply w 0x9020 0 .authFailed)

/-- USER_CONTROL (R407): RUN starts E13, and clearing it stops it (log entry 40). -/
def Mach.writeUserControl (m : Mach) (w : Who) (v : Nat) : Mach :=
  m.guardedNum w 0x9021 0 v (fun m =>
    let old := m.userRun
    let m1 := m.setNum 0x9021 0 0 v
    let m2 := if bit v 0 && (!old || (m1.engine 13).state = 0) then m1.startUser else if bit v 0 then m1 else m1.stopUser
    m2.acceptNum w 0x9021 0 0 1 v)

/-- USER_MAILBOX_IN (R409). -/
def Mach.writeUserMailbox (m : Mach) (w : Who) (msg : Bytes) : Mach :=
  m.guardedBytes w 0x9024 0 (writeLevels 0x9024 0) msg (fun _ m =>
    if 8 ≤ m.cpu.user.mailIn.length then m.reply w 0x9024 0 .busy
    else if !m.userRuns then m.reply w 0x9024 0 .notReady
    else (m.onUser (fun u => { u with mailIn := u.mailIn ++ [msg] })).accept w 0x9024 0 0 msg)

/-- AUTOSTART (R407): start-up has reached IDLE. -/
def Mach.autostart (m : Mach) : Mach := if bit (m.nat 0x9021 0 0) 1 then (m.setRun true).startUser else m

/-! ### Commands -/

/-- ENGINE_FAULT (R404): an engine that executes faults. -/
def execEngineFault (dt n cause : Nat) (s : State) : Res :=
  s.actUnit dt "engine" n 13 (fun m =>
    if [1, 4, 5].contains (m.engine n).state && decide (1 ≤ cause) && decide (cause ≤ 4) then m.engineFaults n cause else m)

/-- SUPERVISOR_WATCHDOG (R404): the watchdog of E12, which no engine restarts. -/
def execSupervisorWatchdog (dt : Nat) (s : State) : Res :=
  s.act dt (fun m =>
    if (m.engine 12).state = 0 || (m.engine 12).state = 3 then m
    else
      let m1 := (m.onEngine 12 (fun e => { e with state := 3, cause := 4 })).record 0x0901 12 4
      m1.enterSafe 2 12)

/-- USER_IMAGE (R407). -/
def execUserImage (dt sid : Nat) (image : Bytes) (s : State) : Res := s.act dt (fun m => m.writeUserImage (.host sid) image)

/-- USER_RUN (R407). -/
def execUserRun (dt sid v : Nat) (s : State) : Res := s.actUser dt (fun m => m.writeUserControl (.host sid) v)

/-- The watchdog of E13 has expired (R408). -/
def Mach.userWdtOver (m : Mach) : Bool :=
  let w := m.nat 0x9022 0 0
  w != 0 && (m.engine 13).state != 0 && (m.engine 13).state != 3 && decide (m.cpu.user.wdtAt + w * 1000000 ≤ m.now)

/-- USER_WATCHDOG (R408). -/
def execUserWatchdog (dt cause : Nat) (s : State) : Res :=
  s.actUser dt (fun m =>
    if (cause = 4 && m.userWdtOver) || ((cause = 1 || cause = 2) && (m.engine 13).state = 1) then m.userFault cause else m)

/-- USER_WDT_RESTART (R408): E13 writes its CSR 0xBC0. -/
def execUserWdtRestart (dt : Nat) (s : State) : Res :=
  s.act dt (fun m => if (m.engine 13).state = 1 then m.onUser (fun u => { u with wdtAt := m.now }) else m)

/-- USER_MAILBOX_IN (R409). -/
def execUserMailboxIn (dt sid : Nat) (msg : Bytes) (s : State) : Res := s.act dt (fun m => m.writeUserMailbox (.host sid) msg)

/-- USER_MAILBOX_POST (R409): a post to a full queue is refused, and the mailbox status register shows it. -/
def execUserMailboxPost (dt : Nat) (msg : Bytes) (s : State) : Res :=
  s.act dt (fun m =>
    if (m.engine 13).state != 1 || msg.isEmpty || decide (256 < msg.length) then m
    else if 8 ≤ m.cpu.user.mailOut.length then m.onUser (fun u => { u with mailStatus := 1 })
    else
      let m1 := m.onUser (fun u => { u with mailOut := u.mailOut ++ [(m.hy.resultSeq, msg)], mailStatus := 0 })
      { m1 with hy := { m1.hy with resultSeq := (m1.hy.resultSeq + 1) % 2 ^ 32 } })

/-- USER_MAILBOX_READ (R409): E13 takes its oldest message. -/
def execUserMailboxRead (dt : Nat) (s : State) : Res :=
  s.act dt (fun m =>
    if (m.engine 13).state != 1 then m
    else m.onUser (fun u => { u with mailRead := u.mailIn.headD [], mailIn := u.mailIn.drop 1 }))

/-- An engine's operation on a semaphore. E14 and E15 have no semaphore block (R401, R410). -/
def State.actSem (s : State) (dt n sm : Nat) (f : Mach → Mach) : Res :=
  if n < 14 then s.actUser dt (fun m => m.semAccess n sm f) else .fault (.noSuchUnit "engine" n)

/-- SEM_TRY (R411). -/
def execSemTry (dt n sm : Nat) (s : State) : Res := s.actSem dt n sm (fun m => m.semRead sm n false)

/-- SEM_WAIT (R411). -/
def execSemWait (dt n sm : Nat) (s : State) : Res := s.actSem dt n sm (fun m => m.semRead sm n true)

/-- SEM_RELEASE (R411). -/
def execSemRelease (dt n sm : Nat) (s : State) : Res := s.actSem dt n sm (fun m => m.semReleased sm n)

/-- SEM_RENEW (R411). -/
def execSemRenew (dt n sm : Nat) (s : State) : Res := s.actSem dt n sm (fun m => m.owned sm n (fun m => m.semRefill sm))

/-- SEM_DECLARE_RECOVERY (R412). -/
def execSemDeclareRecovery (dt n sm : Nat) (s : State) : Res := s.actSem dt n sm (fun m => m.semRecovered sm n)

/-- SEM_LEASE_EXPIRED (R414). -/
def execSemLeaseExpired (dt sm : Nat) (s : State) : Res :=
  if sm < 64 then s.actUser dt (fun m => m.leaseExpired sm) else .fault (.noSuchUnit "semaphore" sm)

end Sys2Proof.Machine
end

