-- ==== Sys2Proof/Machine/Debug.lean ====
section
/-! DEFINITION. The debug port (R421 to R427). -/

namespace Sys2Proof.Machine

/-! ### Lock state (R422 to R424) -/

/-- The 49 bytes of a challenge: nonce, serial and scope (R422). -/
def Mach.challengeBytes (m : Mach) (nonce : Bytes) (scope : Nat) : Bytes :=
  let serial := (m.blob 0x1018 0 0).take 16
  nonce ++ serial ++ List.replicate (16 - serial.length) 0 ++ [byteOf scope]

/-- A read of DBG_CHALLENGE makes a new nonce; it is refused on a SEALED module, while DEBUG_PERMIT is 0, and while the
port is blocked (R422, R423). -/
def Mach.dbgChallenge (m : Mach) (scope : Nat) : Mach :=
  let m0 := m.onDbg (fun d => { d with ir := 0x10, driven := 0 })
  if m.sys.debugLock != 0 || m.nat 0x9041 0 0 = 0 || m.cpu.dbg.blocked || !(scope = 1 || scope = 2) then
    m0.onDbg (fun d => { d with challenge := [] })
  else
    let nonce := m.randomBytes 32
    let c := m.challengeBytes nonce scope
    Mach.emit ((m0.drawn).onDbg (fun d => { d with nonce := nonce, challenge := c, scope := scope })) (.tap c)

/-- The key-hash slots of a scope (R635). -/
def scopeSlots (scope : Nat) : List Nat := if scope = 1 then [4, 5] else if scope = 2 then [6, 7] else []

/-- The unrevoked slot that a key's hash equals. -/
def Mach.hashSlot (m : Mach) (slots : List Nat) (key : Bytes) : Option Nat :=
  firstWhere (fun i => !bit m.sys.revoked i && nth m.sys.keyHashes i [] = sha256 key) slots

/-- A failed response: the third blocks the port (R423). -/
def Mach.dbgFailed (m : Mach) (scope : Nat) : Mach :=
  let n := m.cpu.dbg.failures + 1
  let m1 := m.onDbg (fun d => { d with failures := n })
  if 3 ≤ n then (m1.onDbg (fun d => { d with blocked := true })).record 0x090A n scope else m1

/-- A write of DBG_RESPONSE (R422, R423). -/
def Mach.dbgResponse (m : Mach) (scope : Nat) (key sig : Bytes) : Mach :=
  let d := m.cpu.dbg
  let m0 := m.onDbg (fun d => { d with ir := 0x11, driven := 0 })
  if d.blocked then m0
  else
    let slot := if d.challenge.isEmpty || m.sys.debugLock != 0 || scope != d.scope then none else m.hashSlot (scopeSlots scope) key
    match slot with
    | some i =>
      if ecdsaOk key (sha256 d.challenge) sig then
        ((m0.onDbg (fun d => { d with unlocked := scope })).record 0x0909 scope i).trailRec 0x0B0A scope i
      else m0.dbgFailed scope
    | none => m0.dbgFailed scope

/-- An engine lies in the scope of the unlock (R424). -/
def Mach.inScopeEngine (m : Mach) (n : Nat) : Bool := (m.cpu.dbg.unlocked != 0 && n = 13) || (m.cpu.dbg.unlocked = 2 && decide (n < 13))

/-- A semaphore lies in the scope of the unlock (R424). -/
def Mach.inScopeSem (m : Mach) (s : Nat) : Bool :=
  decide (s < 64) && ((m.cpu.dbg.unlocked != 0 && decide (56 ≤ s)) || m.cpu.dbg.unlocked = 2)

/-- A command's status, in bits [63:56] of DBG_DATA (R425). -/
def Mach.dbgStatus (m : Mach) (st v : Nat) : Mach := m.onDbg (fun d => { d with data := st * 2 ^ 56 + v % 2 ^ 56 })

/-- A debug command: a locked port shifts it as BYPASS (R421). No land is driven any more. -/
def Mach.dbgCommand (m : Mach) (allowed : Bool) (f : Mach → Mach) : Mach :=
  if m.cpu.dbg.unlocked = 0 then m.onDbg (fun d => { d with ir := 0xFF, driven := 0 })
  else
    let m1 := m.onDbg (fun d => { d with ir := 0x20, driven := 0, access := none })
    if allowed then f m1 else m1.dbgStatus 1 0

/-! ### Boundary scan (R421) -/

/-- EXTEST, CLAMP and HIGHZ drive the lands only when unlocked. -/
def Mach.tapDrive (m : Mach) (code how : Nat) : Mach :=
  m.onDbg (fun d => if d.unlocked = 0 then { d with ir := 0xFF, driven := 0 } else { d with ir := code, driven := how })

/-- The codes of R421 that select another instruction than BYPASS. -/
def tapCodes : List Nat := [0x00, 0x01, 0x02, 0x03, 0x04, 0x10, 0x11, 0x20, 0x21]

/-! ### Halt, step, registers and breakpoints (R425, R427) -/

/-- A halted engine's effect on firing (R427). -/
def Mach.haltPrinting (m : Mach) (n : Nat) : Mach :=
  if decide (n < 13) && m.printing then
    let m1 := m.withStops (fun x => { x with
      cpu := { x.cpu with dbg := { x.cpu.dbg with halt := true } }, sys := { x.sys with faultN := true } })
    (m1.record 0x090B n (m.webLine % 2 ^ 32)).reportStop 5 allPorts
  else m

/-- An engine that executes halts; its leases stand still (R413). -/
def Mach.haltEngine (m : Mach) (n : Nat) : Mach :=
  Mach.haltPrinting ((m.onEngine n (fun e => { e with state := 2 })).freezeLeases n) n

/-- The program of a halted engine runs again, one instruction or on: its registers become what that run leaves. -/
def Mach.engineRan (m : Mach) (n state : Nat) : Mach := (m.drawn).onEngine n (fun e => { e with state := state, regs := [], ran := m.free + 1 })

/-- A register of an engine: FABRIC_STATUS (R403) reads no request pending of a halted engine. -/
def Mach.engineReg (m : Mach) (n reg : Nat) : Nat :=
  if reg = 0x1CC0 then b2n (bit m.mem.quarantine (if n < 8 then 16 else 17)) * 2 ^ 16 + 0xFFFF
  else match ffind (m.engine n).regs reg with
    | some v => v
    | none => if (m.engine n).ran = 0 then 0 else Config.engineStep (m.engine n).ran reg % 2 ^ 32

/-- The registers that READ_REG and WRITE_REG name (R425). -/
def isReg (reg : Nat) : Bool := decide (reg ≤ 32) || (decide (0x1000 ≤ reg) && decide (reg < 0x2000))

/-- A halted engine, or FAULT. -/
def Mach.whenHalted (m : Mach) (n : Nat) (f : Mach → Mach) : Mach := if (m.engine n).state = 2 then f m else m.dbgStatus 3 0

/-- The breakpoint that SET_BP writes (R425). -/
def bpOf (data : Nat) : Breakpoint := { addr := bits data 0 32, mask := bits data 32 24, kind := bits data 56 2 }

/-! ### Memory (R426) -/

/-- A byte of local memory. -/
def Mach.localByte (m : Mach) (n a : Nat) : Byte :=
  match ffind (m.engine n).local_ a with
  | some b => b
  | none => if (m.engine n).ran = 0 then 0 else byteOf (Config.engineStep (m.engine n).ran (0x10000 + a) % 256)

/-- A byte of job memory: of a content where it lies in its buffers, else of the memory. -/
def Mach.jobByte (m : Mach) (mem : List Host.Cell) (a : Nat) : Byte :=
  match m.bufferByte a with
  | some p => nth (m.content p.1 |>.getD {}).stream p.2 0
  | none => (m.staByte a).getD (Memory.read mem a)

/-- Bytes of job memory. -/
def Mach.jobBytes (m : Mach) (mem : List Host.Cell) (a n : Nat) : Bytes := (List.range n).map (fun i => m.jobByte mem (a + i))

/-- A byte written to job memory: into a content where it lies in its buffers. -/
def jobWrite (p : Mach × List Host.Cell) (a : Nat) (b : Byte) : Mach × List Host.Cell :=
  match p.1.bufferByte a with
  | some q => (p.1.onContent q.1 (fun c => { c with stream := setNth c.stream q.2 b }), p.2)
  | none => (p.1, Memory.write p.2 a b)

/-- Bytes written to job memory. -/
def jobWriteAll (p : Mach × List Host.Cell) (a : Nat) : Bytes → Mach × List Host.Cell
  | [] => p
  | b :: bs => jobWriteAll (jobWrite p a b) (a + 1) bs

/-- The job-memory address of an engine's window at an offset (R401): each window lies where the module puts it. -/
def windowAddr (n off : Nat) : Nat := (jobBase (if n = 13 then 0 else n + 1) + off) % 2 ^ 35

/-- A debug access to job memory lies in the unlock's scope: INTEGRATOR reaches the user window only (R424). -/
def Mach.inScopeJob (m : Mach) (n off : Nat) : Bool :=
  m.inScopeEngine n && (m.cpu.dbg.unlocked = 2 || decide (off + 8 ≤ m.windowSize))

/-- Whether the address lies in the regions of R401, for 8 bytes. -/
def okOffset (addr : Nat) : Bool := if bit addr 31 then decide (bits addr 0 31 + 8 ≤ 2 ^ 31) else decide (addr + 8 ≤ 262144)

/-- Whether READ_MEM or WRITE_MEM lies in the scope. -/
def Mach.memAllowed (m : Mach) (n addr : Nat) : Bool :=
  if bit addr 31 then m.inScopeJob n (bits addr 0 31) else m.inScopeEngine n

/-- READ_MEM: 8 bytes; a quarantined Q22 gives no access (R393). -/
def Mach.dbgRead (m : Mach) (mem : List Host.Cell) (n addr : Nat) : Mach :=
  m.dbgCommand (m.memAllowed n addr) (fun m =>
    if !okOffset addr || (bit addr 31 && bit m.mem.quarantine 22) then m.dbgStatus 3 0
    else if bit addr 31 then
      (m.dbgStatus 0 (ofLe (m.jobBytes mem (windowAddr n (bits addr 0 31)) 8))).onDbg (fun d => { d with access := some (m.now, 0, []) })
    else m.dbgStatus 0 (ofLe ((List.range 8).map (fun i => m.localByte n (addr + i)))))

/-- WRITE_MEM to local memory, or refused; a job-memory write is `dbgWriteJob`. -/
def Mach.dbgWriteLocal (m : Mach) (n addr data : Nat) : Mach :=
  m.dbgCommand (m.memAllowed n addr) (fun m =>
    if !okOffset addr || bit addr 31 then m.dbgStatus 3 0
    else
      let bytes := leBytes 8 data
      let m1 := (List.range 8).foldl (fun acc i => Mach.onEngine acc n (fun e => { e with local_ := fset e.local_ (addr + i) (nth bytes i 0) })) m
      m1.dbgStatus 0 0)

/-- Whether WRITE_MEM reaches job memory. -/
def Mach.dbgReachesJob (m : Mach) (n addr : Nat) : Bool :=
  m.cpu.dbg.unlocked != 0 && bit addr 31 && m.memAllowed n addr && okOffset addr && !bit m.mem.quarantine 22

/-- WRITE_MEM to job memory; what it replaced is kept while the access may still time out (R426, log entry 41). -/
def Mach.dbgWriteJob (m : Mach) (mem : List Host.Cell) (n addr data : Nat) : Mach × List Host.Cell :=
  let a := windowAddr n (bits addr 0 31)
  let p := jobWriteAll (m, mem) a (leBytes 8 data)
  ((p.1.onDbg (fun d => { d with ir := 0x20, driven := 0, access := some (m.now, a, m.jobBytes mem a 8) })).dbgStatus 0 0, p.2)

/-- DBG_TIMEOUT (R426): an access that 1 ms has not completed wrote nothing. -/
def dbgTimedOut (m : Mach) (mem : List Host.Cell) : Mach × List Host.Cell :=
  match m.cpu.dbg.access with
  | some (t, a, old) =>
    if t + 1000000 ≤ m.now then
      let p := jobWriteAll (m, mem) a old
      ((p.1.dbgStatus 2 0).onDbg (fun d => { d with access := none }), p.2)
    else (m, mem)
  | none => (m, mem)

/-! ### Commands -/

/-- DBG_CHALLENGE (R422). -/
def execDbgChallenge (dt scope : Nat) (s : State) : Res := s.act dt (fun m => m.dbgChallenge scope)

/-- DBG_RESPONSE (R422). -/
def execDbgResponse (dt scope : Nat) (key sig : Bytes) (s : State) : Res := s.act dt (fun m => m.dbgResponse scope key sig)

/-- TAP_BYPASS (R421): the code of BYPASS, or one that the table does not have. -/
def execTapBypass (dt code : Nat) (s : State) : Res :=
  s.act dt (fun m => if tapCodes.contains code then m else m.onDbg (fun d => { d with ir := 0xFF, driven := 0 }))

/-- TAP_IDCODE (R421). -/
def execTapIdcode (dt : Nat) (s : State) : Res :=
  s.act dt (fun m => Mach.emit (m.onDbg (fun d => { d with ir := 0x01, driven := 0 })) (.tap (leBytes 4 0x1864C0A3)))

/-- TAP_SAMPLE_PRELOAD (R421). -/
def execTapSamplePreload (dt : Nat) (preload lands : Bytes) (s : State) : Res :=
  s.act dt (fun m => Mach.emit (m.onDbg (fun d => { d with ir := 0x02, driven := 0, scan := preload })) (.tap lands))

/-- TAP_EXTEST (R421). -/
def execTapExtest (dt : Nat) (s : State) : Res := s.act dt (fun m => m.tapDrive 0x00 1)

/-- TAP_CLAMP (R421). -/
def execTapClamp (dt : Nat) (s : State) : Res := s.act dt (fun m => m.tapDrive 0x03 2)

/-- TAP_HIGHZ (R421). -/
def execTapHighz (dt : Nat) (s : State) : Res := s.act dt (fun m => m.tapDrive 0x04 3)

/-- TAP_RESET (R414): IDCODE is selected, and the debug port's semaphores are released. -/
def execTapReset (dt : Nat) (s : State) : Res :=
  s.act dt (fun m => (m.semsAbandoned 15).onDbg (fun d => { d with ir := 0x01, driven := 0, semWait := none, access := none }))

/-- DBG_HALT (R425, R427). -/
def execDbgHalt (dt n : Nat) (s : State) : Res :=
  s.act dt (fun m => m.dbgCommand (m.inScopeEngine n) (fun m =>
    if (m.engine n).state = 2 then m.dbgStatus 0 0
    else if [1, 4, 5].contains (m.engine n).state then (m.haltEngine n).dbgStatus 0 0
    else m.dbgStatus 3 0))

/-- DBG_RESUME (R425). -/
def execDbgResume (dt n : Nat) (s : State) : Res :=
  s.act dt (fun m => m.dbgCommand (m.inScopeEngine n) (fun m => m.whenHalted n (fun m =>
    ((m.engineRan n (if (m.engine n).waitSem.isSome then 5 else 1)).thawLeases n).dbgStatus 0 0)))

/-- DBG_STEP (R425): one instruction, then halted again. -/
def execDbgStep (dt n : Nat) (s : State) : Res :=
  s.act dt (fun m => m.dbgCommand (m.inScopeEngine n) (fun m => m.whenHalted n (fun m =>
    (m.engineRan n 2).dbgStatus 0 0)))

/-- DBG_SET_BP (R425): bits [1:0] of the address name the breakpoint. -/
def execDbgSetBp (dt n bp data : Nat) (s : State) : Res :=
  s.act dt (fun m => m.dbgCommand (m.inScopeEngine n) (fun m =>
    (m.onEngine n (fun e => { e with bps := fset e.bps (bp % 4) (bpOf data) })).dbgStatus 0 0))

/-- DBG_CLEAR_BP (R425): bits [1:0] of the address name the breakpoint. -/
def execDbgClearBp (dt n bp : Nat) (s : State) : Res :=
  s.act dt (fun m => m.dbgCommand (m.inScopeEngine n) (fun m =>
    (m.onEngine n (fun e => { e with bps := fdel e.bps (bp % 4) })).dbgStatus 0 0))

/-- DBG_READ_REG (R425). -/
def execDbgReadReg (dt n reg : Nat) (s : State) : Res :=
  s.act dt (fun m => m.dbgCommand (m.inScopeEngine n) (fun m => m.whenHalted n (fun m =>
    if isReg reg then m.dbgStatus 0 (m.engineReg n reg) else m.dbgStatus 3 0)))

/-- DBG_WRITE_REG (R425). -/
def execDbgWriteReg (dt n reg data : Nat) (s : State) : Res :=
  s.act dt (fun m => m.dbgCommand (m.inScopeEngine n) (fun m => m.whenHalted n (fun m =>
    if isReg reg then (m.onEngine n (fun e => { e with regs := fset e.regs reg (data % 2 ^ 32) })).dbgStatus 0 0
    else m.dbgStatus 3 0)))

/-- DBG_READ_MEM (R426). -/
def execDbgReadMem (dt n addr : Nat) (s : State) : Res := s.act dt (fun m => m.dbgRead s.mem n (addr % 2 ^ 32))

/-- DBG_WRITE_MEM (R426). -/
def execDbgWriteMem (dt n addr data : Nat) (s : State) : Res :=
  let m := tick dt s.m
  let a := addr % 2 ^ 32
  if m.dbgReachesJob n a then
    let p := m.dbgWriteJob s.mem n a data
    .next { s with m := p.1, mem := p.2 }
  else s.act dt (fun m => m.dbgWriteLocal n a data)

/-- DBG_SEM_ACQUIRE (R425): as R411 with owner ID 15. -/
def execDbgSemAcquire (dt sm : Nat) (wait : Bool) (s : State) : Res :=
  s.act dt (fun m => m.dbgCommand (m.inScopeSem sm) (fun m => (m.dbgStatus 0 0).semRead sm 15 wait))

/-- DBG_SEM_RELEASE (R425). -/
def execDbgSemRelease (dt sm : Nat) (s : State) : Res :=
  s.act dt (fun m => m.dbgCommand (m.inScopeSem sm) (fun m => (m.semReleased sm 15).dbgStatus 0 0))

/-- DBG_SEM_RECOVERED (R425). -/
def execDbgSemRecovered (dt sm : Nat) (s : State) : Res :=
  s.act dt (fun m => m.dbgCommand (m.inScopeSem sm) (fun m => (m.semRecovered sm 15).dbgStatus 0 0))

/-- BREAKPOINT_HIT (R425, R427). -/
def execBreakpointHit (dt n bp : Nat) (s : State) : Res :=
  s.actUnits dt "engine" n 16 "breakpoint" bp 4 (fun m =>
    if (m.engine n).state = 1 && (ffind (m.engine n).bps bp).isSome then m.haltEngine n else m)

/-- DBG_TIMEOUT (R426). -/
def execDbgTimeout (dt : Nat) (s : State) : Res :=
  let p := dbgTimedOut (tick dt s.m) s.mem
  .next { s with m := p.1, mem := p.2 }

end Sys2Proof.Machine
end

