-- ==== Sys2Proof/Machine/Pair.lean ====
section
/-! DEFINITION. A pair's paths, tokens and takeover, and what both modules send each other at a tick (R429 to R462). The
commands that apply what the active module sends are in PairApply. -/

namespace Sys2Proof.Machine

/-- Change the pair's part. -/
def Mach.onPair (m : Mach) (f : Pair → Pair) : Mach := { m with pair := f m.pair }

/-! ### Heartbeats (R435, R436) -/

/-- A path's absence has reached 15 us (R437). -/
def Mach.absent (m : Mach) (last : Nat) : Bool := decide (last + 15000 ≤ m.now)

/-- HEARTBEAT_TIMER (R435): every 5 us; the manual gives the content, not its layout (log entry 43). -/
def Mach.heartbeat (m : Mach) : Mach :=
  if m.paired && m.sys.mode != .reset && decide (m.pair.beatAt + 5000 ≤ m.now) then
    (m.onPair (fun p => { p with beatAt := m.now })).emit (.peer (.heartbeat (leBytes 1 m.pair.role ++ leBytes 1 m.sys.mode.code
      ++ leBytes 4 m.pair.verdictNo ++ leBytes 4 m.pair.lastMirror ++ leBytes 6 (m.fireNext 0 + 2 ^ 48 - 1) ++ leBytes 8 m.linkTime)))
  else m

/-- One bit of a CRC-8 with polynomial 0x07. -/
def crc8Bit (c : Nat) : Nat := if 128 ≤ c then Nat.xor (c * 2 % 256) 7 else c * 2

/-- The CRC of a Harebell frame (R436). -/
def crc8 (l : Bytes) : Nat := l.foldl (fun c b => (List.range 8).foldl (fun c _ => crc8Bit c) (Nat.xor c b.toNat)) 0

/-- Bits [39:8] of the Harebell frame that leaves now. -/
def Mach.harebellWord (m : Mach) : Nat :=
  let ok := m.pair.heardBind && !m.pair.bindFailed && !m.absent m.pair.lastBind
  0xD5 * 2 ^ 24 + m.moduleId * 2 ^ 22 + m.pair.role * 2 ^ 19 + m.sys.mode.code * 2 ^ 15 + m.pair.hareSeq * 2 ^ 8
    + b2n ok + 2 * b2n m.pair.yielded

/-- HAREBELL_TIMER (R436): every 5 us. -/
def Mach.harebell (m : Mach) : Mach :=
  if m.paired && m.sys.mode != .reset && decide (m.pair.hareAt + 5000 ≤ m.now) then
    let w := beBytes 4 m.harebellWord
    (m.onPair (fun p => { p with hareAt := m.now, hareSeq := (p.hareSeq + 1) % 128 })).emit (.harebell (w ++ leBytes 1 (crc8 w)))
  else m

/-- HEARTBEAT_TIMER. -/
def execHeartbeatTimer (dt : Nat) (s : State) : Res := s.act dt (fun m => m.heartbeat)

/-- HAREBELL_TIMER. -/
def execHarebellTimer (dt : Nat) (s : State) : Res := s.act dt (fun m => m.harebell)

/-! ### Two holders (R451) -/

/-- Every token is released, and the module goes cold: from now on it acts as a COLD_STANDBY does (R451, R456). -/
def Mach.standDown (m : Mach) : Mach :=
  (forEach allPorts m (fun p acc => acc.releaseToken p)).onPair (fun p => { p with
    role := 3, takeover := none, declaredAt := none })

/-- The lowest-numbered port whose latest STATUS shows a holder, and whether it is this module. -/
def Mach.firstHolder (m : Mach) : Option (Nat × Bool) :=
  (firstWhere (fun p => (m.port p).link.holder != 0) m.activePorts).map (fun p => (p, (m.port p).link.holder = 1))

/-- Both modules believe that they are ACTIVE: the tokens decide. A module that has yielded claims nothing (R452). -/
def Mach.settleActive (m : Mach) (cause port : Nat) : Mach :=
  if m.pair.role != 1 || m.pair.yielded then m
  else
    let stays := match m.firstHolder with | some h => h.2 | none => decide (m.moduleId = 1)
    if stays then
      m.activePorts.foldl (fun acc p => if (acc.port p).link.holder = 0 && !(acc.port p).tx.token && (acc.port p).tx.claim.isNone then acc.claim p 2 else acc) m
    else ((m.record 0x0A06 cause port).pairCount 6 1).standDown

/-! ### Takeover (R452 to R457) -/

/-- Events of a port whose fire time lies in the switch-over window mark their frames (R454). -/
def Mach.markWindow (m : Mach) (p last : Nat) : Mach :=
  ((m.port p).fire.fires.filter (fun x => decide (m.pair.windowFrom ≤ x.time) && decide (x.event ≤ last))).foldl
    (fun acc x => acc.notFired p x.event (2 ^ 10)) m

/-- The latest STATUS of each port is judged by the new active module (R244 to R249). -/
def Mach.judgeLast (m : Mach) (p : Nat) : Mach :=
  m.judgeTemps p (if (m.port p).fire.noStatus then [(0xFF, (m.limits p).2.1)] else m.lastReadings p)

/-- Late lines of the STATUS frames that a port sent in the switch-over window (R241, R453, R454): the standby did not mark them. -/
def Mach.markLate (m : Mach) (p : Nat) : Mach :=
  ((m.port p).fire.lateSeen.filter (fun x => decide (m.pair.windowFrom ≤ x.1))).foldl (fun acc x => acc.notFired p x.2 (2 ^ 6)) m

/-- Every claim of a takeover has been answered: PAIR_TAKEOVER is recorded, with the events not fired (log entry 44). -/
def Mach.takeoverDone (m : Mach) : Mach :=
  match m.pair.takeover with
  | some kind =>
    if m.activePorts.all (fun p => (m.port p).tx.claim.isNone) then
      (m.record 0x0A03 kind m.pair.takeoverLost).onPair (fun p => { p with takeover := none })
    else m
  | none => m

/-- A partial mirror record is discarded when the active module fails (R448). -/
def Mach.discardMirror (m : Mach) : Mach :=
  match m.pair.mirrorPart with
  | some (no, parts) => ((m.record 0x0A0C no parts.length).pairCount 4 1).onPair (fun p => { p with mirrorPart := none })
  | none => m

/-- The module takes over (R453, R502): `kind` is 0 for a declaration and 1 for a yield. -/
def Mach.takeOver (m : Mach) (kind : Nat) : Mach :=
  let m0 := if m.pair.lastMirror = 0 then m
    else (m.trailRec 0x0B0F (m.pair.handLength % 2 ^ 32) (m.pair.handLength / 2 ^ 32)).trailRec 0x0B10
      (leAt m.pair.handHash 0 4) (leAt m.pair.handHash 4 4)
  let m1 := ((m0.discardMirror).onPair (fun p => { p with
    role := 1, declaredAt := some m.now, takeover := some kind, takeoverLost := 0, windowFrom := m.linkTime - 25000
    verdictQueue := [], peerStamp := none, lastTakeover := none, yielded := false, joinLine := none, resync := 0 })).pairCount 1 1
  let m2 := forEach allPorts m1 (fun p acc => acc.judgeLast p)
  let m3 := m2.activePorts.foldl (fun acc p => ((acc.cutFor p (fun x => x.claim p 1)).markWindow p noLine).markLate p) m2
  let m4 := m3.onPair (fun q => { q with claims := allPorts.foldl (fun c p => fset c p 1) q.claims })
  m4.takeoverDone

/-- PAIR_COLD_TAKEOVER (R457): a module that is not in step stops, or takes over with its own settings. -/
def Mach.coldTakeover (m : Mach) (kind : Nat) : Mach :=
  let policy := m.nat 0xA002 0 0
  let m1 := m.record 0x0A05 policy (m.webLine % 2 ^ 32)
  if policy = 0 then
    m1.withStops (fun x => { x with gate := { x.gate with coldInhibit := true }, pair := { x.pair with declaredAt := some x.now } })
  else (m1.pairFlag 1 true).takeOver kind

/-- The peer is declared failed, or has yielded (R437, R452, R458). -/
def Mach.peerFails (m : Mach) (kind : Nat) : Mach :=
  match m.pair.role with
  | 1 =>
    let m1 := (m.record 0x0A02 m.pair.peerRole 0).pairFlag 0 true
    let m2 := m1.onPair (fun p => { p with peerRole := 0xFF, sentVerdicts := [], resync := 0 })
    ((m2.releasePulses (fun _ => true)).releaseAnswers (fun _ => true)).releaseContents
  | 2 => m.takeOver kind
  | 3 => m.coldTakeover kind
  | 4 => m.coldTakeover kind
  | _ => m

/-! ### Paths (R437) -/

/-- PATH_ABSENT: a path's absence reaches 15 us; with both absent the peer is declared failed. -/
def Mach.pathAbsent (m : Mach) (path lanes : Nat) : Mach :=
  let last := if path = 0 then m.pair.lastBind else m.pair.lastHare
  let failed := if path = 0 then m.pair.bindFailed else m.pair.hareFailed
  if !m.paired || m.pair.role = 5 || failed || !m.absent last then m
  else
    let other := if path = 0 then m.pair.lastHare else m.pair.lastBind
    let otherFailed := if path = 0 then m.pair.hareFailed else m.pair.bindFailed
    if otherFailed || m.absent other then
      let m1 := (m.pairCount 2 (b2n (!m.pair.bindFailed))).pairCount 3 (b2n (!m.pair.hareFailed))
      (m1.onPair (fun p => { p with bindFailed := true, hareFailed := true })).peerFails 0
    else if path = 0 then m.bindweedFails 0 lanes
    else m.harebellFails

/-- YIELD_RECEIVED (R452). -/
def Mach.yieldReceived (m : Mach) : Mach := if m.pair.role = 2 || m.pair.role = 3 || m.pair.role = 4 then m.peerFails 1 else m

/-! ### What a heartbeat tells (R432, R434, R451, R456, R459) -/

/-- The active module begins a peer's resynchronisation: values, seams, verdicts, counters, what the PSO outputs hold, and the
content list (R72, R459); both numberings start again. -/
def Mach.sendResync (m : Mach) : Mach :=
  let fwd := fun (l : FMap Int) => l.filter (fun x => forwarded (x.1 / 2 ^ 24))
  let fwdB := fun (l : FMap Bytes) => l.filter (fun x => forwarded (x.1 / 2 ^ 24))
  let m1 := m.onPair (fun p => { p with resync := 2, verdictNo := 0, forwardNo := 0, mirrorNo := 0, lastMirror := 0, resyncAt := m.now })
  [ResyncData.values (fwd m.dict.nums) (fwd m.dict.effNums) (fwdB m.dict.blobs) (fwdB m.dict.effBlobs),
   .seams m.seams.table m.seams.vals,
   .verdicts (m.comp.frames.filter (fun f => !f.closed)),
   .counters m.comp.framesClosed m.comp.framesReject m.comp.rejectLog,
   .outputs ((List.range 16).map (fun i =>
    let x := m.pso i
    (i, x.queue, x.held, x.pulseEnd.map (fun t => ((t : Int) + m.linkOfs).toNat)))),
   .digests ((m.frc.objects.filter (fun c => c.2.state = 5)).map (fun c => (c.1, c.2.hash, c.2.streamLen)))].foldl
    (fun acc d => acc.emit (.peer (.resync d))) m1

/-- A module in SAFE that yielded hears its peer report ACTIVE within 1 ms of the yield: STOP_REQ ends (R624, R676). -/
def Mach.heardActive (m : Mach) (role : Nat) : Mach :=
  match m.pair.yieldedAt with
  | some t =>
    if role = 1 && m.sys.mode = .safe && decide (m.now ≤ t + 1000000) then { m with sys := { m.sys with yielded := true } } else m
  | none => m

/-- What the peer's role means to this module. -/
def Mach.hearRole (m0 : Mach) (role mode : Nat) (bindweed : Bool) : Mach :=
  let m := m0.heardActive role
  let old := m.pair.peerRole
  let m1 := m.onPair (fun p => { p with peerRole := role, peerMode := mode })
  if m.pair.role = 1 then
    if role = 1 && mode != Mode.safe.code then m1.settleActive 0 ((m1.firstHolder.map (fun h => h.1)).getD 0)
    else if old = 2 && role = 3 then ((m1.onPair (fun p => { p with peerRole := 2 })).peerCold 2)
    else if bindweed && role = 4 && old != 4 then m1.sendResync
    else m1
  else m1

/-- A module that is not in step resynchronises by itself while Bindweed works (R456), unless its link time differs by
more than 1 ns (R434). Stage 6 is a resynchronisation that began without a start-up. -/
def Mach.tryResync (m : Mach) (peerLink : Nat) : Mach :=
  if m.pair.role = 3 && m.pair.peerRole = 1 && !m.pair.bindFailed && !bit m.pair.flags 3 && m.pair.declaredAt.isNone
      && m.pair.peerMode != Mode.safe.code then
    if m.pair.ownTime && decide (1 < ((m.linkTime : Int) - (peerLink + m.pair.delay : Nat)).natAbs) then m.pairFlag 3 true
    else m.onPair (fun p => { p with
      role := 4, resync := 6, resyncAt := m.now, joinLine := none, joinStamp := none, peerIndex := none, verdictApplied := 0
      forwardApplied := 0, verdictQueue := [], mirrorPart := none, mirrorReady := none, lastMirror := 0 })
  else m

/-- BINDWEED_HEARTBEAT (R435, R437). -/
def Mach.bindweedHeartbeat (m : Mach) (role mode verdict mirror phi0 link : Nat) : Mach :=
  if !m.paired then m
  else
    let m1 := if m.pair.bindFailed then m.record 0x0A09 0 0 else m
    let m2 := m1.onPair (fun p => { p with
      heardBind := true, lastBind := m.now, bindFailed := false, peerPhi0 := phi0, peerLink := link, peerVerdict := verdict
      peerMirror := mirror, declaredAt := if p.role = 1 then none else p.declaredAt })
    (m2.hearRole role mode true).tryResync link

/-- HAREBELL_FRAME (R436, R437): a frame is valid when SYNC and CRC are right and its reserved bits are 0. -/
def Mach.harebellFrame (m : Mach) (v : Nat) : Mach :=
  if !m.paired || bits v 32 8 != 0xD5 || crc8 (beBytes 4 (v / 256)) != v % 256 || bits v 10 6 != 0 then m
  else
    let m1 := if m.pair.hareFailed then m.record 0x0A0B 0 0 else m
    let m2 := m1.onPair (fun p => { p with heardHare := true, lastHare := m.now, hareFailed := false, peerModule := bits v 30 2 })
    let m3 := m2.hearRole (bits v 27 3) (bits v 23 4) false
    if bit v 9 && m3.pair.declaredAt.isNone then m3.yieldReceived else m3

/-- HAREBELL_FRAME. -/
def execHarebellFrame (dt bits : Nat) (s : State) : Res := s.act dt (fun m => m.harebellFrame (bits % 2 ^ 40))

/-! ### Tokens (R207, R215, R217, R450, R451, R453) -/

/-- A claim is denied (R451). -/
def Mach.denied (m : Mach) (p kind result : Nat) : Mach :=
  let m1 := (m.record 0x0407 (p + 256 * result) m.moduleId).onTx p (fun t => { t with claim := none })
  if m.pair.role = 0 || kind != 1 then (if result = 2 then m1.settleActive 1 p else m1)
  else if result = 3 && decide ((m.port p).tx.denied < 3) then
    (m1.onTx p (fun t => { t with denied := t.denied + 1 })).claim p 1
  else if m.pair.role = 1 && m.pair.takeover.isSome then
    ((m1.record 0x0A07 p result).pairCount 6 1).standDown
  else m1

/-- Events that no module fires at a port, from the old holder's last to the new holder's first (R453). -/
def Mach.switchedOver (m : Mach) (p : Nat) (g : Grant) : Mach :=
  let last := if g.lastFired = noLine then m.enc.firstLine else g.lastFired + 1
  let coming := (m.port p).fire.fires.filter (fun x => decide (g.grantTime + 2000 ≤ x.time) && decide (last ≤ x.event))
  let first := coming.foldl (fun b x => min b x.event) (m.fireNext (barOf p))
  let lost := (List.range (first - last)).map (fun i => last + i)
  let m1 := lost.foldl (fun acc e => acc.notFired p e (2 ^ 10)) m
  let m2 := ((m1.markWindow p first).notFired p first (2 ^ 10)).pairCount 7 lost.length
  m2.onPair (fun x => { x with
    takeoverLost := x.takeoverLost + lost.length
    lastTakeover := if barOf p != 0 then x.lastTakeover else some (match x.lastTakeover with | some e => min e first | none => first) })

/-- An endpoint answers a claim: HOLDER is what it reports, granted or denied (R199, R221). -/
def Mach.tokenGrant (m0 : Mach) (p : Nat) (g : Grant) : Mach :=
  let m := m0.onLink p (fun l => { l with holder := if g.holder = 0 then 0 else if g.holder = m0.moduleId then 1 else 2 })
  match (m.port p).tx.claim with
  | none => m
  | some (kind, _, _) =>
    if g.result ≤ 1 then
      let m1 := (m.onTx p (fun t => { t with token := true, claim := none, denied := 0 })).record 0x0406 (p + 256 * g.result) (g.grantTime % 2 ^ 32)
      let m2 := if g.lastFired = noLine then m1 else { m1 with sys := { m1.sys with nNext := max m1.sys.nNext (g.lastFired + 1) } }
      (if kind = 1 && m.enc.origin.isSome then m2.switchedOver p g else m2).takeoverDone
    else (m.denied p kind g.result).takeoverDone

/-- TOKEN_GRANT_RECEIVED. -/
def execTokenGrantReceived (dt port seq : Nat) (g : Grant) (s : State) : Res :=
  s.actUnit dt "port" port 64 (fun m => if m.linkUp port then (m.received port seq).tokenGrant port g else m)

/-- TOKEN_CLAIM_TIMEOUT (R207): a claim or release without an answer after 5 us is resent, up to three times; a claim
still unanswered 21 us after its last resend counts as DENIED_TIMEOUT. -/
def Mach.tokenTimeout (m : Mach) (p : Nat) : Mach :=
  match (m.port p).tx.claim with
  | some (kind, at_, tries) =>
    let claims := fun (f : Frame) => bodyType f.body = 0x10
    if (m.port p).tx.queue.any claims then m
    else if tries < 3 && decide (at_ + 5000 ≤ m.now) then
      let f : Frame := { body := .tokenClaim kind m.moduleId, event := none, gen := 0, resend := true, applyAt := false
                         seq := (((m.port p).tx.unacked.filter (fun u => claims u.f)).getLast?.map (fun u => u.f.seq)).getD 0 }
      (m.resend p f).onTx p (fun t => { t with claim := some (kind, m.now, tries + 1) })
    else if tries = 3 && decide (at_ + 21000 ≤ m.now) then (m.denied p kind 3).takeoverDone
    else m
  | none =>
    match firstWhere (fun (x : Unacked) => x.f.body = .tokenRelease && !x.f.resend && decide (x.tries < 3) && decide (x.sentAt + 5000 ≤ m.now))
        (m.port p).tx.unacked with
    | some x =>
      let m1 := m.onTx p (fun t => { t with unacked := t.unacked.map (fun y => if y = x then { y with sentAt := m.now, tries := x.tries + 1 } else y) })
      m1.resend p x.f
    | none => m

/-- TOKEN_CLAIM_TIMEOUT. -/
def execTokenClaimTimeout (dt port : Nat) (s : State) : Res :=
  s.actUnit dt "port" port 64 (fun m => if m.linkUp port then m.tokenTimeout port else m)

/-- What a STATUS says of the token in a pair (R450, R451). -/
def Mach.statusHolder (m : Mach) (p : Nat) (st : StatusFrame) : Mach :=
  let t := (m.port p).tx
  let m1 := if st.holderThis then m else m.onTx p (fun t => { t with token := false })
  if m.pair.role != 1 || t.claim.isSome then m1
  else if st.holderOther then m1.settleActive 1 p
  else if !st.holderThis then m1.claim p 2
  else m1

/-- STATUS_RECEIVED (R200, R245, R317, R450). -/
def Mach.statusReceived (m : Mach) (p seq : Nat) (st : StatusFrame) : Mach :=
  if m.linkUp p then (((m.received p seq).status p st).loopTemps p st.temps).statusHolder p st else m

/-- STATUS_RECEIVED. -/
def execStatusReceived (dt port seq : Nat) (st : StatusFrame) (s : State) : Res :=
  s.actUnit dt "port" port 64 (fun m => m.statusReceived port seq st)

/-! ### Acknowledgements (R438, R440, R444) -/

/-- VERDICT_ACK_RECEIVED (R444): pulses that waited for the record are queued. -/
def Mach.verdictAck (m : Mach) (no : Nat) : Mach :=
  let m1 := m.onPair (fun p => { p with sentVerdicts := p.sentVerdicts.filter (fun v => v.no != no) })
  m1.releasePulses (fun f => !m1.pair.sentVerdicts.any (fun v => match v.body with
    | .frameMark job num _ _ => job = f.jobLine && num = f.number
    | .readiness job _ num _ _ _ => job = f.jobLine && num = f.number
    | _ => false))

/-- VERDICT_ACK_RECEIVED. -/
def execVerdictAckReceived (dt no : Nat) (s : State) : Res := s.act dt (fun m => m.verdictAck no)

/-- A record or a forwarded write without an acknowledgement after 20 us fails Bindweed (R437). -/
def Mach.ackTimeout (m : Mach) (lanes : Nat) : Mach :=
  if m.pair.sentVerdicts.any (fun v => decide (v.sentAt + 20000 ≤ m.now)) || m.pair.sentForwards.any (fun f => decide (f.sentAt + 20000 ≤ m.now))
  then m.bindweedFails 4 lanes else m

/-- The acknowledgement of a forwarded write (R438, R439): a standby that refused the write has gone cold. -/
def Mach.forwardAck (m : Mach) (no : Nat) (st : Status) : Mach :=
  let m1 := m.releaseAnswers (fun n => n = no)
  if st = .ok then m1 else m1.peerCold 3

/-- The standby's digest of a content (R440): it confirms the content, or the content is copied to the standby. -/
def Mach.digestReceived (m : Mach) (handle : Nat) (digest : Bytes) : Mach :=
  match m.content handle with
  | none => m
  | some c =>
    let same := digest = c.hash
    let m1 := m.onContent handle (fun x => { x with
      peerDigest := digest, ready := x.ready || (c.waitSince.isSome && same)
      doneAt := if c.waitSince.isSome && same then m.now else x.doneAt
      waitSince := if same then none else x.waitSince })
    if c.state = 5 && !same && m.inStepPeer then m1.emit (.peer (.resync (.content handle c.hash c.copy))) else m1

/-- DIGEST_RECEIVED. -/
def execDigestReceived (dt handle : Nat) (digest : Bytes) (s : State) : Res := s.act dt (fun m => m.digestReceived handle digest)

/-- INGEST_WAIT_EXPIRY (R440). -/
def Mach.ingestExpiry (m : Mach) (handle : Nat) : Mach :=
  match m.content handle with
  | none => m
  | some c => match c.waitSince with
    | some t =>
      if t + m.nat 0xA005 0 0 * 1000000 ≤ m.now then
        let m1 := m.onContent handle (fun x => { x with ready := true, waitSince := none, doneAt := m.now })
        (m1.record 0x0A10 handle ((m.now - t) / 1000000)).peerCold 1
      else m
    | none => m

/-- PEER_STATS_RECEIVED (R449, R326). -/
def Mach.peerStats (m : Mach) (p : PeerStats) : Mach :=
  if !m.paired then m
  else match p with
  | .stc c tag wins =>
    let m1 := { m with loop := { m.loop with peerStats := m.loop.peerStats + 1 } }
    (m1.loopTake { cam := c, tag := tag, wins := wins }).loopAfter c tag.line
  | .band c line profiles => { m with loop := { m.loop with peerBands := m.loop.peerBands ++ [(c, line, profiles)] } }

/-- PEER_STATS_RECEIVED. -/
def execPeerStatsReceived (dt : Nat) (p : PeerStats) (s : State) : Res := s.act dt (fun m => m.peerStats p)

/-- STOP_REPORT_RECEIVED (R442): the active module marks the frames of events that the standby's stop keeps from being
fired, as for its own stops. An ENCODER_FAULT that it records for the standby carries its own cause and raw position
(log entry 81). -/
def Mach.stopReport (m : Mach) (cause ports event : Nat) : Mach :=
  if m.pair.role != 1 then m
  else
    let bitOf := nth [9, 5] cause 11
    let m1 := (match cause with
      | 0 => m.recordPeer 0x050A (maskOf (allBars.filter (fun k => (portsOf k).any (bit ports)))) (m.webLine % 2 ^ 32)
      | 1 => m.recordPeer 0x0102 m.enc.faultCause (p32 m.enc.raw)
      | _ => m.recordPeer 0x090B 0 (m.webLine % 2 ^ 32))
    (setBits ports 64).foldl (fun acc p =>
      ((acc.port p).fire.fires.filter (fun x => decide (event ≤ x.event) && decide (acc.linkTime < x.time))).foldl
        (fun acc x => acc.notFired p x.event (2 ^ bitOf)) (if barOf p = 0 then acc.notFired p event (2 ^ bitOf) else acc)) m1

/-- STOP_REPORT_RECEIVED. -/
def execStopReportReceived (dt cause ports event : Nat) (s : State) : Res := s.act dt (fun m => m.stopReport cause ports event)

/-- The count since the origin at a link time (R441): the last count at or before it. -/
def Mach.countAt (m : Mach) (t : Nat) : Int :=
  let l := m.enc.window.filter (fun x => decide (x.1 ≤ t))
  (match l.getLast? with | some x => x.2 | none => m.enc.raw) - m.enc.origin.getD 0

/-- ORIGIN_STAMP_RECEIVED (R441): the stamp of the peer's origin, or the active module's count. -/
def Mach.originStamp (m : Mach) (isCount : Bool) (time : Nat) (count : Int) : Mach :=
  if !m.paired then m
  else if isCount then
    let d := (m.countAt time - count).natAbs
    if m.pair.role = 2 && m.enc.origin.isSome && decide (2 < d) then (m.record 0x0A0F d 1).goCold else m
  else
    let m1 := m.onPair (fun p => { p with peerStamp := some time })
    if m.enc.origin.isSome then m1.judgeStamps else m1

/-- ORIGIN_STAMP_RECEIVED. -/
def execOriginStampReceived (dt : Nat) (isCount : Bool) (time : Nat) (count : Int) (s : State) : Res :=
  s.act dt (fun m => m.originStamp isCount time count)

end Sys2Proof.Machine
end

