-- ==== Sys2Proof/Machine/Yarrow.lean ====
section
/-! DEFINITION. The Yarrow section: legal length, drops and volume, length calibration, validity, the VERIFIER's writes,
the audit trail, reports and metre marks (R463 to R503). -/

namespace Sys2Proof.Machine

/-- Change Yarrow's part. -/
def Mach.onYarrow (m : Mach) (f : Yarrow → Yarrow) : Mach := { m with yarrow := f m.yarrow }

/-! ### The trail's hashes (R490 to R493) -/

/-- The 32 bytes of a record (R580). -/
def Rec.bytes (r : Rec) : Bytes :=
  leBytes 2 r.code ++ leBytes 1 (r.agent.byte r.code) ++ leBytes 1 r.flags ++ leBytes 2 r.repeats ++ leBytes 2 r.num
    ++ leBytes 8 r.time ++ leBytes 6 r.line ++ leBytes 2 r.spanMs ++ leBytes 4 r.p0 ++ leBytes 4 r.p1

/-- H_b of a trail: the hash of the block that holds record 16 b, over the records written so far. -/
def trailHash (base : Bytes) (l : List Rec) (b : Nat) : Bytes :=
  (List.range (b + 1)).foldl (fun h i => sha256 (h ++ ((l.drop (16 * i)).take 16).flatMap Rec.bytes)) base

/-- H_-1 of the trail: 32 zero bytes for a carrier's first trail. -/
def Yarrow.base (y : Yarrow) : Bytes := if y.trailBase.isEmpty then List.replicate 32 0 else y.trailBase

/-- RUNNING_HASH: the hash of the newest block. -/
def Yarrow.runningHash (y : Yarrow) : Bytes := if y.trail.isEmpty then y.base else trailHash y.base y.trail ((y.trail.length - 1) / 16)

/-- The trail is full (R492). -/
def Yarrow.full (y : Yarrow) : Bool := decide (4096 ≤ y.trail.length)

/-- TRAIL_BLOCK of a block (R493). -/
def Yarrow.block (y : Yarrow) (b : Nat) : Bytes :=
  let recs := ((y.trail.drop (16 * b)).take 16).flatMap Rec.bytes
  recs ++ List.replicate (512 - recs.length) 0 ++ (if 16 * b < y.trail.length then trailHash y.base y.trail b else List.replicate 32 0)

/-! ### Length (R469, R470) -/

/-- P_eff in 2^-16 pm for a factor in ppb (R470). -/
def pEff (pitch : Nat) (factor : Int) : Nat :=
  (roundDiv ((pitch : Int) * (1000000000 + factor) * 65536) 1000000000).toNat

/-- P_eff now. -/
def Yarrow.pEff (y : Yarrow) : Nat := Machine.pEff y.params.nominalPitch y.factor

/-- A published length in 0.1 mm (R470). -/
def published (acc : Nat) : Nat := acc / (100000000 * 65536)

/-- A counted step that raises the highest value: at once, or held while a calibration run is in progress (R478). -/
def Yarrow.addStep (y : Yarrow) : Yarrow :=
  let job := y.job.map (fun j =>
    if !j.lengthOpen then j else if y.run.isSome then { j with pend := j.pend + 1 } else { j with acc := j.acc + y.pEff })
  if y.run.isSome then { y with pend := y.pend + 1, job := job } else { y with acc := y.acc + y.pEff, job := job }

/-- The counts that a run held are converted with the factor now in effect (R478 to R480). -/
def Yarrow.convert (y : Yarrow) : Yarrow :=
  let conv := fun (j : YrJob) => { j with acc := j.acc + j.pend * y.pEff, pend := 0 }
  { y with acc := y.acc + y.pend * y.pEff, pend := 0, run := none, job := y.job.map conv, closed := y.closed.map conv }

/-- A run is aborted (R479): the calibration stays due. -/
def Yarrow.abortRun (y : Yarrow) : Yarrow := if y.run.isSome then y.convert else y

/-! ### Causes (R482, R484) -/

/-- The causes that hold METRO_STOP: all but PARTIAL_JOB. -/
def stopCauses (causes : Nat) : Nat := setBit causes 5 false

/-- METRO_STOP is asserted while METRO_FAULT_STOP is 1 and a cause is set (R484). -/
def Mach.judgeMetro (m : Mach) : Mach :=
  if m.yarrow.params.faultStop = 1 && stopCauses m.yarrow.causes != 0 && !m.yarrow.metroStop then
    (m.withStops (fun x => x.onYarrow (fun y => { y with metroStop := true }))).trailRec 0x0B11 (stopCauses m.yarrow.causes) 0
  else m

/-- A cause arises: it marks the totaliser and the open job (R482). -/
def Mach.raiseCause (m : Mach) (i : Nat) : Mach :=
  Mach.judgeMetro (m.onYarrow (fun y => { y with
    causes := setBit y.causes i true, job := y.job.map (fun j => { j with causes := setBit j.causes i true }) }))

/-- A count at Yarrow's receivers (R469). -/
def Mach.yrCount (m : Mach) (aLeads : Bool) : Mach :=
  if !m.yarrow.up then m
  else m.onYarrow (fun y =>
    let up := aLeads != bit y.params.encConfig 8
    let count := if up then y.count + 1 else y.count - 1
    let y1 := if y.highest < count then ({ y with count := count, highest := count } : Yarrow).addStep else { y with count := count }
    match y1.run with
    | some r =>
      let high := max r.highP count
      if 4 < high - count then y1.abortRun else { y1 with run := some { r with highP := high } }
    | none => y1)

/-- YR_ENC_COUNT. -/
def execYrEncCount (dt : Nat) (aLeads : Bool) (s : State) : Res := s.act dt (fun m => m.yrCount aLeads)

/-- YR_ENC_ILLEGAL (R469): four illegal transitions in 1 ms raise ENCODER. -/
def Mach.yrIllegal (m : Mach) : Mach :=
  if !m.yarrow.up then m
  else
    let times := m.yarrow.illegalTimes.filter (fun t => decide (m.now < t + 1000000)) ++ [m.now]
    let m1 := m.onYarrow (fun y => { y with illegalTimes := times })
    if times.length = 4 then ((m1.onYarrow Yarrow.abortRun).trailRec 0x0B09 0 0).raiseCause 6 else m1

/-- YR_ENC_ILLEGAL. -/
def execYrEncIllegal (dt : Nat) (s : State) : Res := s.act dt (fun m => m.yrIllegal)

/-- YR_OPEN_LINE (R35, R469, R479): an open line of ENC_P raises ENCODER; one of ENC_X aborts a run. -/
def Mach.yrOpenLine (m : Mach) (input : EncInput) (line : EncLine) (opens : Bool) : Mach :=
  let change := fun (l : List EncLine) => if opens then (if l.contains line then l else l ++ [line]) else l.filter (· != line)
  if !m.yarrow.up then m
  else match input with
  | .encP =>
    let m1 := m.onYarrow (fun y => { y with openP := change y.openP })
    if opens then ((m1.onYarrow Yarrow.abortRun).trailRec 0x0B09 1 0).raiseCause 6 else m1
  | .encX =>
    let m1 := m.onYarrow (fun y => { y with openX := change y.openX, xPresent := (change y.openX).isEmpty })
    if opens && m.yarrow.run.isSome then (m1.onYarrow Yarrow.abortRun).trailRec 0x0B09 1 1 else m1

/-- YR_OPEN_LINE. -/
def execYrOpenLine (dt : Nat) (input : EncInput) (line : EncLine) (opens : Bool) (s : State) : Res :=
  s.act dt (fun m => m.yrOpenLine input line opens)

/-! ### Jobs and drops (R471 to R476) -/

/-- A job's length ends: it joins the closed jobs, of which the 64 newest are kept (R471, R497). -/
def Yarrow.endLength (y : Yarrow) : Yarrow :=
  match y.job with
  | some j => { y with job := none, closed := ({ j with lengthOpen := false } :: y.closed).take 64 }
  | none => y

/-- A closed job whose drop figures are still open gets the line of Phi7 at which they close (R475). -/
def closesAt (line : Nat) (j : YrJob) : YrJob := if j.openUntil.isNone then { j with openUntil := some (line + 170) } else j

/-- Whether a job's drop figures are open. -/
def YrJob.open_ (j : YrJob) (now : Nat) : Bool := match j.closeAt with | some t => decide (now < t) | none => true

/-- 24 counts with a block's drops added for a bar (R474). -/
def addDrops (l : List Nat) (bar : Nat) (b : StatusBlock) : List Nat :=
  (List.range 24).map (fun i =>
    nth l i 0 + (if i / 3 = bar then (if i % 3 = 0 then b.drops1 else if i % 3 = 1 then b.drops2 else b.drops3) else 0))

/-- The last job at or before a line: true for the job in effect. -/
def Yarrow.jobAt (y : Yarrow) (line : Nat) : Option (Bool × YrJob) :=
  match y.job with
  | some j => if j.line ≤ line then some (true, j) else (firstWhere (fun (c : YrJob) => decide (c.line ≤ line)) y.closed).map (fun c => (false, c))
  | none => (firstWhere (fun (c : YrJob) => decide (c.line ≤ line)) y.closed).map (fun c => (false, c))

/-- A closed block is counted (R474, R475). -/
def Mach.yrBlock (m : Mach) (p : Nat) (b : StatusBlock) : Mach :=
  let y := m.yarrow
  let seen := match ffind y.lastBlock p with | some l => decide (b.firstEvent ≤ l) | none => false
  if b.isOpen || seen then m
  else
    let m1 := m.onYarrow (fun y => { y with lastBlock := fset y.lastBlock p b.firstEvent, drops := addDrops y.drops (barOf p) b })
    match y.jobAt b.firstEvent with
    | some (true, _) => m1.onYarrow (fun y => { y with job := y.job.map (fun j => { j with drops := addDrops j.drops (barOf p) b }) })
    | some (false, j) =>
      if j.open_ m.now then m1.onYarrow (fun y => { y with closed := y.closed.map (fun c =>
        if c.line = j.line && c.jobId = j.jobId then { c with drops := addDrops c.drops (barOf p) b } else c) })
      else m1.record 0x0B22 p (b.firstEvent % 2 ^ 32)
    | none => m1

/-- A record of the drop-report link has arrived (R472, R473): a number that is missing raises DROP_GAP. -/
def Mach.yrSeq (m : Mach) (seq : Nat) : Mach :=
  let m1 := match m.yarrow.expect with
    | some e => if e = seq then m else (m.trailRec 0x0B08 e seq).raiseCause 2
    | none => m
  m1.onYarrow (fun y => { y with expect := some ((seq + 1) % 2 ^ 32) })

/-- JOB_END, or the return to IDLE: a job whose start Yarrow did not see is a PARTIAL_JOB (R471, R482). -/
def Mach.yrEnds (m : Mach) : Mach :=
  m.onYarrow (fun y => if y.job.isSome then y.endLength
    else
      let job : YrJob := { jobId := 0, line := noLine, channels := 0, increment := 0, lengthOpen := false, causes := 2 ^ 5 }
      { y with closed := (job :: y.closed).take 64 })

/-- What a record of the drop-report link does once its number is checked. -/
def Mach.yrDo (m : Mach) (i : Instr) : Mach :=
  match i with
  | .yrJobStart _ _ _ jobId line channels increment =>
    m.onYarrow (fun y =>
      let y1 := y.endLength
      let job : YrJob := { jobId := jobId, line := line, channels := channels, increment := increment }
      { y1 with job := some job, closed := y1.closed.map (closesAt line), tick := { y1.tick with jobAcc := 0 } })
  | .yrJobEnd _ _ _ => m.yrEnds
  | .yrIdle _ _ _ => if m.yarrow.job.isSome then m.yrEnds else m
  | .yrOrigin _ _ _ => m.onYarrow (fun y => { y with lastBlock := [] })
  | .yrTick _ _ _ time domain line phi7 =>
    m.onYarrow (fun y => { y with
      tick := { time := time, domain := domain, line := line, phi7 := phi7, at_ := m.now, jobAcc := (y.job.map (fun j => j.acc)).getD 0 }
      closed := y.closed.map (fun j => match j.openUntil with
        | some w => if j.closeAt.isNone && phi7 != noLine && decide (w ≤ phi7) then { j with closeAt := some (m.now + 2000000) } else j
        | none => j) })
  | .yrGap _ seq _ _ => (m.trailRec 0x0B08 seq seq).raiseCause 2
  | .yrDropBlock _ _ _ p b => m.yrBlock p b
  | _ => m

/-- A record with its number: a bad check makes it a missing one (R473). -/
def Mach.yrTakeIn (m : Mach) (i : Instr) (seq : Nat) (good : Bool) : Mach := if good then (m.yrSeq seq).yrDo i else m

/-- A record arrives; 4,096 are kept while E14 and E15 restart (R473). -/
def Mach.yrTake (m : Mach) (i : Instr) (seq : Nat) (good : Bool) : Mach :=
  if !m.yarrow.up then m
  else if m.yarrow.restarting || !m.yarrow.ready then
    m.onYarrow (fun y => if y.buffer.length < 4096 then { y with buffer := y.buffer ++ [i] } else y)
  else m.yrTakeIn i seq good

/-- YR_JOB_START. -/
def execYrJobStart (dt seq : Nat) (good : Bool) (jobId line channels increment : Nat) (s : State) : Res :=
  s.act dt (fun m => m.yrTake (.yrJobStart 0 seq good jobId line channels increment) seq good)

/-- YR_JOB_END. -/
def execYrJobEnd (dt seq : Nat) (good : Bool) (s : State) : Res := s.act dt (fun m => m.yrTake (.yrJobEnd 0 seq good) seq good)

/-- YR_ORIGIN. -/
def execYrOrigin (dt seq : Nat) (good : Bool) (s : State) : Res := s.act dt (fun m => m.yrTake (.yrOrigin 0 seq good) seq good)

/-- YR_IDLE. -/
def execYrIdle (dt seq : Nat) (good : Bool) (s : State) : Res := s.act dt (fun m => m.yrTake (.yrIdle 0 seq good) seq good)

/-- YR_TICK. -/
def execYrTick (dt seq : Nat) (good : Bool) (time domain line phi7 : Nat) (s : State) : Res :=
  s.act dt (fun m => m.yrTake (.yrTick 0 seq good time domain line phi7) seq good)

/-- YR_GAP (R473): a GAP record, or a restart of the link, which raises DROP_GAP in ARMED, PRINT and HOLD only. -/
def execYrGap (dt seq : Nat) (good restart : Bool) (s : State) : Res :=
  s.act dt (fun m =>
    if !restart then m.yrTake (.yrGap 0 seq good false) seq good
    else if !m.yarrow.up then m
    else
      let m1 := if m.printing then (m.trailRec 0x0B08 (m.yarrow.expect.getD 0) seq).raiseCause 2 else m
      m1.onYarrow (fun y => { y with expect := none }))

/-- YR_DROP_BLOCK. -/
def execYrDropBlock (dt seq : Nat) (good : Bool) (port : Nat) (b : StatusBlock) (s : State) : Res :=
  s.actUnit dt "port" port 64 (fun m => m.yrTake (.yrDropBlock 0 seq good port b) seq good)

/-- The ink volume of a bar in nL (R476). -/
def volumeOf (pl drops : List Nat) (k : Nat) : Nat :=
  sumOf ((List.range 3).map (fun l => nth drops (3 * k + l) 0 * nth pl (3 * k + l) 0)) / 100000

/-- TOTALS_SAVE (R466): every 1 s. -/
def Mach.saveTotals (m : Mach) (clean : Bool) : Mach :=
  m.onYarrow (fun y => { y with saved := {
    acc := y.acc, highest := y.highest, drops := y.drops, causes := y.causes, savedAt := m.now, clean := clean } })

/-- TOTALS_SAVE. -/
def execTotalsSave (dt : Nat) (s : State) : Res :=
  s.act dt (fun m =>
    if m.yarrow.up && m.yarrow.ready && !m.yarrow.restarting && decide (m.yarrow.saved.savedAt + 1000000000 ≤ m.now) then m.saveTotals false else m)

/-! ### Length calibration (R477 to R481) -/

/-- The roller's temperature in 0.01 degC. -/
def Yarrow.roller (y : Yarrow) : Option Int := nth y.temps y.params.rollerInput none

/-- A temperature as a record parameter and a register: 0x8000 for no reading. -/
def temp16 (t : Option Int) : Int := t.getD (-32768)

/-- A calibration falls due (R477, R481). -/
def Mach.calDue (m : Mach) (cause : Nat) : Mach :=
  if m.yarrow.calDue then m
  else (m.onYarrow (fun y => { y with calDue := true })).record 0x0B20 (if m.yarrow.xPresent then cause else 3) (p32 (temp16 m.yarrow.roller))

/-- A reading outside -50 to 200 degC is no reading (R662). -/
def tempReading (t : Option Int) : Option Int := t.filter (fun x => decide (-5000 ≤ x) && decide (x ≤ 20000))

/-- YR_TEMP_READ (R477, R481). -/
def Mach.yrTemps (m : Mach) (temps : List (Option Int)) : Mach :=
  if !(m.yarrow.up && m.yarrow.ready && !m.yarrow.restarting) then m
  else
    let m1 := m.onYarrow (fun y => { y with temps := temps.map tempReading })
    match m1.yarrow.roller with
    | none => m1.calDue 2
    | some t =>
      let moved := (t - m1.yarrow.refTemp).natAbs
      let m2 := if m1.yarrow.params.calDt < moved then m1.calDue 0 else m1
      if 2 * m1.yarrow.params.calDt < moved && !bit m2.yarrow.causes 3 then
        (m2.trailRec 0x0B04 (p32 t) (p32 m2.yarrow.refTemp)).raiseCause 3
      else m2

/-- YR_TEMP_READ. -/
def execYrTempRead (dt : Nat) (temps : List (Option Int)) (s : State) : Res := s.act dt (fun m => m.yrTemps temps)

/-- ENC_X counts of a run (R478): 2.0 m. -/
def Yarrow.runLength (y : Yarrow) : Nat := 2000000000000 / y.params.refPitch

/-- The factor that a run measures in ppb (R480), rounded to the nearest; over no count it is not stated. -/
def Mach.measured (m : Mach) (p : Int) : Int :=
  let x : Int := ((m.yarrow.runLength * m.yarrow.params.refPitch : Nat) : Int)
  let y : Int := p * m.yarrow.params.nominalPitch
  if y ≤ 0 then Config.freeInt m.free else roundDiv ((x - y) * 1000000000) y.toNat

/-- The end of a run (R480). -/
def Mach.runEnds (m : Mach) (startP : Int) : Mach :=
  let y := m.yarrow
  let p := y.count - startP
  let f := m.measured p
  let m0 := if p * y.params.nominalPitch ≤ 0 then m.drawn else m
  let step := (f - y.factor).natAbs
  if y.params.calMaxStep < step then (m0.onYarrow Yarrow.convert).trailRec 0x0B03 (p32sat f) (min step (2 ^ 32 - 1))
  else
    let enrolled := y.verifierKeys.any (fun k => k.any (fun b => b != 0))
    let m1 := m0.onYarrow (fun y => ({ y with
      factor := f, generation := y.generation + 1, refTemp := (y.roller.getD y.refTemp), calDue := false, requested := false
      causes := setBit (if enrolled then setBit y.causes 4 false else y.causes) 3 false } : Yarrow).convert)
    m1.trailRec 0x0B02 (p32sat f) m1.yarrow.generation

/-- A run may be made (R478, R492). -/
def Yarrow.mayRun (y : Yarrow) : Bool := y.calDue && (y.params.calAuto = 1 || y.requested) && y.xPresent && !y.full

/-- ENC_X_COUNT (R478 to R480). -/
def Mach.encXCount (m : Mach) (aLeads : Bool) : Mach :=
  if !m.yarrow.up then m
  else
    let up := aLeads != bit m.yarrow.params.encConfig 9
    let m1 := m.onYarrow (fun y => { y with xPresent := y.openX.isEmpty })
    let y := m1.yarrow
    match y.run with
    | none =>
      if up && y.mayRun && y.ready && !y.restarting then
        m1.onYarrow (fun y => { y with run := some { startP := y.count, countX := 0, highX := 0, highP := y.count } })
      else m1
    | some r =>
      let c := if up then r.countX + 1 else r.countX - 1
      let high := max r.highX c
      if 4 < high - c then m1.onYarrow Yarrow.abortRun
      else
        let m2 := m1.onYarrow (fun y => { y with run := some { r with countX := c, highX := high } })
        if (y.runLength : Int) ≤ c then m2.runEnds r.startP else m2

/-- ENC_X_COUNT. -/
def execEncXCount (dt : Nat) (aLeads : Bool) (s : State) : Res := s.act dt (fun m => m.encXCount aLeads)

/-- E11 relays an access to Yarrow; without an answer it is NOT_READY (R464). -/
def Mach.yarrowAnswers (m : Mach) : Bool := m.yarrow.up && m.yarrow.ready && !m.yarrow.restarting

/-- A write of CAL_LEN_START (R477). -/
def Mach.writeCalLenStart (m : Mach) (w : Who) (v : Nat) : Mach :=
  m.guardedNum w 0xC021 0 v (fun m =>
    if !m.yarrowAnswers then m.reply w 0xC021 0 .notReady
    else if v = 0 then m.acceptNum w 0xC021 0 0 1 v
    else ((m.onYarrow (fun y => { y with requested := true })).calDue 1).acceptNum w 0xC021 0 0 1 v)

/-- CAL_LEN_START. -/
def execCalLenStart (dt sid v : Nat) (s : State) : Res := s.act dt (fun m => m.writeCalLenStart (.host sid) v)

/-! ### The seal and E14 with E15 (R483, R485) -/

/-- SEAL_CHECK (R485). -/
def Mach.sealCheck (m : Mach) (loopClosed : Bool) : Mach :=
  if !m.yarrow.up || loopClosed = m.yarrow.sealClosed then m
  else if loopClosed then
    (m.onYarrow (fun y => { y with sealClosed := true })).trailRec 0x0B06 ((m.now - m.yarrow.sealOpenedAt) / 1000000) 0
  else (((m.onYarrow (fun y => { y.abortRun with sealClosed := false, sealOpenedAt := m.now })).trailRec 0x0B05 0 0)).raiseCause 0

/-- SEAL_CHECK. -/
def execSealCheck (dt : Nat) (loopClosed : Bool) (s : State) : Res := s.act dt (fun m => m.sealCheck loopClosed)

/-- E14 and E15 restart from the saved state; the counters keep what they counted (R463, R483; log entry 50). -/
def Yarrow.restart (y : Yarrow) (now : Nat) : Yarrow :=
  let c := y.abortRun
  { c with
    restarting := true, answerAt := now, nonce := none, pendingReport := none, drops := c.saved.drops
    acc := c.saved.acc + (c.highest - c.saved.highest).toNat * c.pEff }

/-- LOCKSTEP_MISMATCH (R482, R483). -/
def Mach.lockstep (m : Mach) : Mach :=
  if !(m.yarrow.up && m.yarrow.ready) then m
  else
    let n := m.yarrow.lockRestarts + 1
    let m1 := ((m.onYarrow (fun y => { y with lockRestarts := n })).trailRec 0x0B07 n 0).raiseCause 1
    m1.onYarrow (fun y => y.restart m.now)

/-- LOCKSTEP_MISMATCH. -/
def execLockstepMismatch (dt : Nat) (s : State) : Res := s.act dt (fun m => m.lockstep)

/-- The sequence number and check of a buffered record. -/
def yrSeqOf (i : Instr) : Nat × Bool :=
  match i with
  | .yrJobStart _ seq good _ _ _ _ => (seq, good)
  | .yrJobEnd _ seq good => (seq, good)
  | .yrOrigin _ seq good => (seq, good)
  | .yrIdle _ seq good => (seq, good)
  | .yrTick _ seq good _ _ _ _ => (seq, good)
  | .yrGap _ seq good _ => (seq, good)
  | .yrDropBlock _ seq good _ _ => (seq, good)
  | _ => (0, false)

/-- The records that waited are taken in order (R473). -/
def Mach.yrReplay (m : Mach) : Mach :=
  m.yarrow.buffer.foldl (fun acc i => acc.yrTakeIn i (yrSeqOf i).1 (yrSeqOf i).2) (m.onYarrow (fun y => { y with buffer := [] }))

/-- YR_RESTART_DONE (R473, R483). -/
def execYrRestartDone (dt : Nat) (s : State) : Res :=
  s.act dt (fun m => if m.yarrow.restarting then (m.onYarrow (fun y => { y with restarting := false, answerAt := m.now })).yrReplay else m)

/-- YARROW_SELF_TEST_DONE (R466 to R468): 0 valid items, 1 a foreign region, 2 an empty one. -/
def Mach.selfTestDone (m : Mach) (region : Nat) (foreignKey foreignHash : Bytes) : Mach :=
  if !m.yarrow.up || m.yarrow.ready then m
  else
    let m1 := m.onYarrow (fun y =>
      let y1 := { y with ready := true, answerAt := m.now }
      if region = 0 then { y1 with acc := y.saved.acc, drops := y.saved.drops, causes := y.saved.causes, saved := { y.saved with highest := y.highest } }
      else if region = 1 then { y1 with foreign := true, foreignKey := foreignKey, foreignHash := foreignHash, causes := setBit y.causes 4 true }
      else { y1 with causes := setBit y.causes 4 true })
    let m2 := if region = 0 && !m.yarrow.saved.clean && m.yarrow.saved.savedAt != 0 then
      m1.trailRec 0x0B0E (published m.yarrow.saved.acc % 2 ^ 32) 0 else m1
    (m2.judgeMetro).yrReplay

/-- YARROW_SELF_TEST_DONE. -/
def execYarrowSelfTestDone (dt region : Nat) (foreignKey foreignHash : Bytes) (s : State) : Res :=
  s.act dt (fun m => m.selfTestDone region foreignKey foreignHash)

/-- YARROW_SILENT (R503): the control channel has not answered for 100 ms. -/
def execYarrowSilent (dt : Nat) (s : State) : Res :=
  s.act dt (fun m =>
    if !m.yarrowAnswers && decide (m.yarrow.answerAt + 100000000 ≤ m.now) && m.sys.mode != .reset then
      m.record 0x0B24 ((m.now - m.yarrow.answerAt) / 1000000) 0
    else m)

/-! ### The VERIFIER (R486 to R489, R494) -/

/-- METRO_NONCE (R487): each read makes a new nonce. -/
def Mach.readNonce (m : Mach) (w : Who) : Mach :=
  if !m.answers w then m
  else if !m.yarrowAnswers then m.reply w 0xC019 0 .notReady
  else
    let n := m.randomBytes 16
    ((m.drawn).onYarrow (fun y => { y with nonce := some (n, m.now) })).emit (.value w 0xC019 0 n 0)

/-- METRO_NONCE. -/
def execMetroNonce (dt sid : Nat) (s : State) : Res := s.act dt (fun m => m.readNonce (.host sid))

/-- NONCE_EXPIRY (R487): a nonce lasts 60 s. -/
def execNonceExpiry (dt : Nat) (s : State) : Res :=
  s.act dt (fun m => match m.yarrow.nonce with
    | some (_, t) => if t + 60000000000 ≤ m.now then m.onYarrow (fun y => { y with nonce := none }) else m
    | none => m)

/-- The nonce is the one in force. -/
def Mach.nonceOk (m : Mach) (n : Bytes) : Bool :=
  match m.yarrow.nonce with
  | some (x, t) => x = n && decide (m.now < t + 60000000000)
  | none => false

/-- A slot holds a key's hash. -/
def filled (k : Bytes) : Bool := k.any (fun b => b != 0)

/-- The slot, from 1, whose hash a key has. -/
def Mach.keySlot (m : Mach) (key : Bytes) : Option Nat :=
  (firstWhere (fun i => filled (nth m.yarrow.verifierKeys i []) && nth m.yarrow.verifierKeys i [] = sha256 key) (List.range 4)).map (· + 1)

/-- Who signed a METRO_WRITE (R487, R488): an enrolled key's slot, or 0 for the service key at the first enrolment. -/
def Mach.metroSigner (m : Mach) (idx : Nat) (key : Bytes) : Option Nat :=
  match m.keySlot key with
  | some s => some s
  | none => if idx = 0xC01B && m.yarrow.verifierKeys.all (fun k => !filled k) && sha256 key = m.yarrow.serviceHash then some 0 else none

/-- The mark's text length in characters (R500). -/
def markChars (format : Nat) : Nat := if format = 0 then 11 else 20

/-- The mark fits inside L7's rectangle, and its bars inside L7's (R500). -/
def Mach.markFits (m : Mach) (k : MarkConfig) : Bool :=
  let g := fun sub => m.jobInEffect 0x5010 sub 7
  decide (g 5 ≤ k.x) && decide (k.x + markChars k.format * 6 * k.dot ≤ g 5 + g 7)
    && decide (g 6 ≤ k.y) && decide (k.y + 7 * k.dot ≤ g 6 + g 8)
    && (List.range 8).all (fun b => !bit k.bars b || bit (g 4) b)

/-- METRO_PARAMS with one field replaced. -/
def MetroParams.put (p : MetroParams) (sub : Nat) (v : Bytes) : MetroParams :=
  let n := ofLe v
  match sub with
  | 1 => { p with nominalPitch := n } | 2 => { p with refPitch := n } | 3 => { p with encConfig := n }
  | 4 => { p with calDt := n } | 5 => { p with calAuto := n } | 6 => { p with calMaxStep := n }
  | 7 => { p with rollerInput := n } | 8 => { p with pl := (List.range 24).map (fun i => leAt v (2 * i) 2) }
  | _ => { p with faultStop := n }

/-- MARK_CONFIG with one field replaced. -/
def MarkConfig.put (k : MarkConfig) (sub : Nat) (v : Bytes) : MarkConfig :=
  let n := ofLe v
  match sub with
  | 1 => { k with format := n } | 2 => { k with bars := n } | 3 => { k with x := n } | 4 => { k with y := n }
  | 5 => { k with dot := n } | 6 => { k with level := n } | _ => { k with every := n }

/-- The value fits its field (R487 order 4). -/
def Mach.metroValueOk (m : Mach) (idx sub : Nat) (v : Bytes) : Bool :=
  if idx = 0xC01B then
    decide (1 ≤ sub) && decide (sub ≤ 4)
      && (v.length = 32 || (v.length = 64 && m.yarrow.foreign && m.yarrow.verifierKeys.all (fun k => !filled k)))
  else match (findObj idx).bind (fun o => o.fld sub) with
    | some f => (idx = 0xC018 || idx = 0xC030) && f.okLength v && f.okValue v
        && (idx != 0xC030 || m.markFits (m.yarrow.mark.put sub v))
    | none => false

/-- The first enrolment beside a foreign region carries the hash of its running hash (R488). -/
def Mach.foreignProof (m : Mach) (idx : Nat) (v : Bytes) : Bool :=
  idx != 0xC01B || !m.yarrow.foreign || m.yarrow.verifierKeys.any filled || v.drop 32 = sha256 m.yarrow.foreignHash

/-- The accepted value takes effect (R486 to R488, R500). -/
def Mach.metroPut (m : Mach) (idx sub signer : Nat) (v : Bytes) : Mach :=
  let first := m.yarrow.verifierKeys.all (fun k => !filled k)
  let m1 := m.onYarrow (fun y =>
    let y1 := y.abortRun
    if idx = 0xC018 then { y1 with params := y1.params.put sub v }
    else if idx = 0xC030 then { y1 with mark := y1.mark.put sub v }
    else { y1 with
      verifierKeys := setNth y1.verifierKeys (sub - 1) (v.take 32), foreign := y1.foreign && !first
      foreignKey := if first then [] else y1.foreignKey, foreignHash := if first then [] else y1.foreignHash })
  let m2 := m1.trailRec 0x0B01 (idx + 65536 * sub) signer
  let m3 := if idx = 0xC01B && filled (v.take 32) then m2.trailRec 0x0B0D sub (leAt v 0 4) else m2
  (if idx = 0xC01B && first && filled (v.take 32) then m3.calDue 1 else m3).judgeMetro

/-- METRO_WRITE (R487): its checks in order. -/
def Mach.writeMetro (m : Mach) (w : Who) (data key : Bytes) : Mach :=
  m.guardedBytes w 0xC01A 0 4 data (fun _ m =>
    let idx := leAt data 0 2
    let sub := leAt data 2 1
    let n := leAt data 20 4
    let v := slice data 24 (data.length - 88)
    if !m.yarrowAnswers || m.yarrow.full then m.reply w 0xC01A 0 .notReady
    else if !m.nonceOk (slice data 4 16) then m.reply w 0xC01A 0 .authFailed
    else match m.metroSigner idx key with
      | none => m.reply w 0xC01A 0 .authFailed
      | some slot =>
        if !ecdsaOk key (sha256 (data.take (data.length - 64))) (data.drop (data.length - 64)) then m.reply w 0xC01A 0 .authFailed
        else if leAt data 3 1 != 0 || n + 88 != data.length || !m.metroValueOk idx sub v then m.reply w 0xC01A 0 .outOfRange
        else if !m.foreignProof idx v then m.reply w 0xC01A 0 .outOfRange
        else (m.metroPut idx sub slot v).accept w 0xC01A 0 0 data)

/-- METRO_WRITE. -/
def execMetroWrite (dt sid : Nat) (data key : Bytes) (s : State) : Res := s.act dt (fun m => m.writeMetro (.host sid) data key)

/-- METRO_STOP_CLEAR (R484). -/
def Mach.writeMetroStopClear (m : Mach) (w : Who) (v : Nat) : Mach :=
  m.guardedNum w 0xC050 0 v (fun m =>
    if v = 0 then m.acceptNum w 0xC050 0 0 1 v
    else if stopCauses m.yarrow.causes != 0 then m.reply w 0xC050 0 .notReady
    else (m.withStops (fun x => x.onYarrow (fun y => { y with metroStop := false }))).acceptNum w 0xC050 0 0 1 v)

/-- METRO_STOP_CLEAR. -/
def execMetroStopClear (dt sid v : Nat) (s : State) : Res := s.act dt (fun m => m.writeMetroStopClear (.host sid) v)

/-- YR_FW_IMAGE (R489). -/
def Mach.writeYrFirmware (m : Mach) (w : Who) (image sig key : Bytes) : Mach :=
  m.guardedBytes w 0xC051 0 4 image (fun _ m =>
    if !m.yarrowAnswers || m.yarrow.full then m.reply w 0xC051 0 .notReady
    else if sha256 key != m.yarrow.fwHash || !ecdsaOk key (sha256 image) sig then m.reply w 0xC051 0 .authFailed
    else
      let d := sha256 image
      let m1 := m.trailRec 0x0B0B (leAt d 0 4) (leAt m.yarrow.fwDigest 0 4)
      (m1.onYarrow (fun y => { (y.restart m.now) with fwDigest := d })).accept w 0xC051 0 0 image)

/-- YR_FW_IMAGE. -/
def execYrFwImage (dt sid : Nat) (image sig key : Bytes) (s : State) : Res := s.act dt (fun m => m.writeYrFirmware (.host sid) image sig key)

/-- TRAIL_RENEW (R494): the seal, the signature, and the hash that the reader read. -/
def Mach.writeTrailRenew (m : Mach) (w : Who) (data key : Bytes) : Mach :=
  m.guardedBytes w 0xC04B 0 4 data (fun _ m =>
    if !m.yarrowAnswers || !m.yarrow.sealClosed then m.reply w 0xC04B 0 .notReady
    else if !m.nonceOk (slice data 0 16) then m.reply w 0xC04B 0 .authFailed
    else match m.keySlot key with
      | none => m.reply w 0xC04B 0 .authFailed
      | some slot =>
        if !ecdsaOk key (sha256 (data.take 48)) (data.drop 48) then m.reply w 0xC04B 0 .authFailed
        else if slice data 16 32 != m.yarrow.runningHash then m.reply w 0xC04B 0 .commitRejected
        else
          let m1 := m.onYarrow (fun y => { y with
            trailBase := y.runningHash, trail := [], trailLost := 0, renewals := y.renewals + 1, lockRestarts := 0
            causes := setBit (setBit (setBit (setBit y.causes 0 false) 1 false) 2 false) 6 false })
          (m1.trailRec 0x0B0C m1.yarrow.renewals slot).accept w 0xC04B 0 0 data)

/-- TRAIL_RENEW. -/
def execTrailRenew (dt sid : Nat) (data key : Bytes) (s : State) : Res := s.act dt (fun m => m.writeTrailRenew (.host sid) data key)

/-! ### Figures and reports (R495 to R498) -/

/-- YR_STATUS (R498). -/
def Yarrow.status (y : Yarrow) : Nat :=
  y.causes * 65536 + (match y.job with | some j => j.causes | none => 0) * 256 + 128 * b2n y.xPresent + 64 * b2n y.foreign
    + 32 * b2n y.metroStop + 16 * b2n (decide (4032 ≤ y.trail.length)) + 8 * b2n y.full + 4 * b2n y.run.isSome + 2 * b2n y.calDue
    + b2n (!bit y.causes 4)

/-- The job that METRO_JOB_SELECT names: 0 the one in effect, n the n-th most recently closed (R497). -/
def Yarrow.jobOf (y : Yarrow) (sel : Nat) : Option YrJob := if sel = 0 then y.job else y.closed[sel - 1]?

/-- 24 drop counts as bytes. -/
def dropBytes (l : List Nat) : Bytes := (List.range 24).flatMap (fun i => leBytes 8 (nth l i 0))

/-- 8 volumes as bytes. -/
def volumeBytes (pl l : List Nat) : Bytes := (List.range 8).flatMap (fun k => leBytes 8 (volumeOf pl l k))

/-- SERIAL, SEAL_ID, FW_ID and PUBLIC_KEY of YR_IDENTITY: Yarrow's OTP (R495; log entry 3). -/
def yrSerial : Bytes := (List.range 16).map (fun i => byteOf (0x20 + (Config.otpByte (128 + i)).toNat % 95))
/-- SEAL_ID. -/
def yrSealId : Nat := ofLe ((List.range 8).map (fun i => Config.otpByte (144 + i)))
/-- FW_ID. -/
def yrFwId : Bytes := (List.range 16).map (fun i => byteOf (0x20 + (Config.otpByte (160 + i)).toNat % 95))
/-- PUBLIC_KEY. -/
def yrPublicKey : Bytes := (List.range 64).map (fun i => Config.otpByte (192 + i))

/-- FW_DIGEST. -/
def Yarrow.digest (y : Yarrow) : Bytes :=
  if y.fwDigest.isEmpty then (List.range 32).map (fun i => Config.otpByte (320 + i)) else y.fwDigest

/-- Bytes 0 to 431 of a report (R496), every figure of one instant. -/
def Mach.reportBody (m : Mach) (nonce : Bytes) (kind sel no : Nat) : Bytes :=
  let y := m.yarrow
  let job := if kind = 1 then y.jobOf sel else none
  let acc := if kind = 1 then (match job with | some j => j.acc | none => 0) else y.acc
  let drops := if kind = 1 then (match job with | some j => j.drops | none => []) else y.drops
  let validity := if kind = 1 then y.status - bits y.status 8 8 * 256 + (match job with | some j => j.causes | none => 0) * 256 else y.status
  leBytes 2 1 ++ leBytes 2 kind ++ leBytes 4 no ++ yrSerial ++ leBytes 8 yrSealId ++ y.digest ++ nonce ++ leBytes 8 m.trailTime
    ++ leBytes 4 (match job with | some j => j.jobId | none => 0) ++ leBytes 4 validity ++ leBytes 8 (published acc)
    ++ dropBytes drops ++ volumeBytes y.params.pl drops ++ leBytes 8 (match job with | some j => j.channels | none => 0)
    ++ leBytes 4 y.generation ++ leBytes 4 (p32 y.factor) ++ y.runningHash ++ leBytes 2 y.trail.length ++ leBytes 2 y.trailLost ++ leBytes 4 0

/-- REPORT_REQUEST (R496). -/
def Mach.writeReportRequest (m : Mach) (w : Who) (data : Bytes) : Mach :=
  m.guardedBytes w 0xC040 0 15 data (fun _ m =>
    if !m.yarrowAnswers then m.reply w 0xC040 0 .notReady
    else if 1 < leAt data 32 1 || 64 < leAt data 33 1 || leAt data 34 6 != 0 then m.reply w 0xC040 0 .outOfRange
    else
      let no := m.yarrow.reportNo + 1
      let body := m.reportBody (slice data 0 32) (leAt data 32 1) (leAt data 33 1) no
      (m.onYarrow (fun y => { y with reportNo := no, pendingReport := some (body, m.now) })).accept w 0xC040 0 0 data)

/-- REPORT_REQUEST. -/
def execReportRequest (dt sid : Nat) (data : Bytes) (s : State) : Res := s.act dt (fun m => m.writeReportRequest (.host sid) data)

/-- REPORT_READY (R496): the signature of the device key, which never leaves the die, is a free value. -/
def execReportReady (dt : Nat) (s : State) : Res :=
  s.act dt (fun m => match m.yarrow.pendingReport with
    | some (body, _) =>
      if m.yarrowAnswers then
        let m1 := m.drawn.onYarrow (fun y => { y with report := some (body ++ m.randomBytes 64, m.hy.resultSeq), pendingReport := none })
        { m1 with hy := { m1.hy with resultSeq := (m1.hy.resultSeq + 1) % 2 ^ 32 } }
      else m
    | none => m)

/-! ### Metre marks (R500, R501) -/

/-- The decimal digits of a number, n of them. -/
def decimals (n v : Nat) : Bytes := (List.range n).map (fun i => byteOf (0x30 + v / 10 ^ (n - 1 - i) % 10))

/-- A hexadecimal digit. -/
def hexDigit (v : Nat) : Byte := if v < 10 then byteOf (0x30 + v) else byteOf (0x37 + v)

/-- The predicted length in 0.1 mm of the job at a frame's first line (R501; log entry 51): the job's length at the latest
TICK, and the lines since that TICK or the job's start. -/
def Mach.markLength (m : Mach) (frame first : Nat) : Nat :=
  match m.yarrow.job with
  | some j =>
    if frame = 0 then 0
    else
      let from_ := if m.yarrow.tick.line = noLine then j.line else max m.yarrow.tick.line j.line
      published (m.yarrow.tick.jobAcc + (first - from_) * j.increment * m.yarrow.pEff / 2 ^ 32)
  | none => 0

/-- The mark's characters. -/
def markText (format jobId frame len : Nat) : Bytes :=
  let metres := decimals 7 (len / 10000) ++ [0x2E] ++ decimals 1 (len / 1000) ++ [0x20, 0x6D]
  let check := (sha256 (yrSerial ++ leBytes 4 jobId ++ leBytes 4 frame ++ leBytes 8 len)).take 4
  if format = 0 then metres else metres ++ [0x20] ++ check.flatMap (fun b => [hexDigit (b.toNat / 16), hexDigit (b.toNat % 16)])

/-- The level of a dot of the text: cells are 6 by 7 dots, glyphs 5 by 7. -/
def markDot (text : Bytes) (dot level n y : Nat) : Nat :=
  let col := n / dot
  let ch := (nth text (col / 6) 0x20).toNat
  if col % 6 < 5 && ch != 0x20 && Config.glyph ch (col % 6) (y / dot) then level else 0

/-- L7's content of a frame as Yarrow renders it. -/
def Mach.markContent (m : Mach) (jobId frame : Nat) : Content :=
  let k := m.yarrow.mark
  let shown := frame % max 1 k.every = 0
  let first := (m.jobStartOf jobId).getD 0 + frame * max 1 (m.jobInEffect 0x5001 2 0)
  let text := if shown then markText k.format jobId frame (m.markLength frame first) else []
  let w := markChars k.format * 6 * k.dot
  let h := 7 * k.dot
  let c : Content :=
    { kind := 1, mask := k.bars, x := k.x, y := k.y, w := w, h := h, state := 5, ready := true, doneAt := m.now,
      bufferKib := m.nat 0x8101 0 0 }
  let line := fun (y : Nat) => (List.range c.dropLine).map (fun i =>
    byteOf (sumOf ((List.range 4).map (fun j =>
      if 4 * i + j < w then markDot text k.dot k.level (4 * i + j) y * 4 ^ j else 0))))
  let plane := (List.range h).flatMap line
  let tile := fun (tx : Nat) => text.isEmpty = false && (List.range text.length).any (fun i =>
    let a := k.x + 6 * k.dot * i
    nth text i 0x20 != 0x20 && decide (a < 512 * (tx + 1)) && decide (512 * tx < a + 5 * k.dot))
  let entries := (List.range c.nty).flatMap (fun _ => (List.range c.ns).map (fun i => b2n (tile (c.tx0 + i))))
  let map := (List.range c.mapLen).map (fun b => byteOf (sumOf ((List.range 4).map (fun j => nth entries (4 * b + j) 0 * 4 ^ j))))
  let stream := c.bars.flatMap (fun _ => plane)
  { c with stream := stream, hash := sha256 stream, maps := c.bars.foldl (fun l b => fset l b map) [] }

/-- MARK_RENDER_DONE (R500, R502): the content is posted, and copied to a standby; its handle is one that Yarrow keeps for marks
(log entry 51). -/
def Mach.markDone (m : Mach) : Mach :=
  match m.yarrow.markFrame with
  | none => m
  | some (jobId, frame, _) =>
    if !m.yarrowAnswers || m.pair.role = 2 || m.pair.role = 4 then m
    else
      let h := 0xFF000000 + frame % 256
      let m1 := m.freeBuffers h
      let m2 := { m1 with frc := { m1.frc with objects := fset m1.frc.objects h (m.markContent jobId frame) } }
      let p := m2.takeBuffers h
      if p.2 then ((p.1.onYarrow (fun y => { y with markFrame := none })).shareContent h).enterPost 7 jobId frame h
      else m.onYarrow (fun y => { y with markFrame := none })

/-- MARK_RENDER_DONE. -/
def execMarkRenderDone (dt : Nat) (s : State) : Res := s.act dt (fun m => m.markDone)

end Sys2Proof.Machine
end

