-- ==== Sys2Proof/Machine/Clock.lean ====
section
/-! DEFINITION. The network ports, the PTP domains and output time (R504 to R527). -/

namespace Sys2Proof.Machine

/-- A domain. -/
def Mach.domain (m : Mach) (d : Nat) : TimeDomain := if d = 0 then m.time.tdA else m.time.tdB

/-- Change a domain. -/
def Mach.onDomain (m : Mach) (d : Nat) (f : TimeDomain → TimeDomain) : Mach :=
  { m with time := if d = 0 then { m.time with tdA := f m.time.tdA } else { m.time with tdB := f m.time.tdB } }

/-- NET_CONFIG of a port. -/
def Mach.netCfg (m : Mach) (p : Nat) : Nat := m.nat 0xD001 (p + 1) 0

/-- TD_CONFIG of a domain. -/
def Mach.tdCfg (m : Mach) (d : Nat) : Nat := m.nat 0xD020 (d + 1) 0

/-- ENABLE, PORT, DELAY, TRANSPORT and DOMAIN_NUMBER of TD_CONFIG (R514). -/
def Mach.tdOn (m : Mach) (d : Nat) : Bool := bit (m.tdCfg d) 0

/-- A domain is carried on a port. -/
def Mach.carries (m : Mach) (d p : Nat) : Bool := bits (m.tdCfg d) 2 2 = 2 || bits (m.tdCfg d) 2 2 = p

/-- The domain measures the peer delay. -/
def Mach.p2p (m : Mach) (d : Nat) : Bool := bit (m.tdCfg d) 9

/-! ### The network ports (R504 to R509) -/

/-- MAC address of a port (R505): the base address of main-die OTP, and the next one (log entry 3). -/
def macOf (p : Nat) : Nat := (ofLe ((List.range 6).map (fun i => Config.otpByte (512 + i))) + p) % 2 ^ 48

/-- The multicast group of INGEST_CONFIG as a destination address: the last four bytes of an IPv6 group's or the last
three, without the top bit, of an IPv4 one's. -/
def groupMac (g : Bytes) : Nat :=
  if (g.take 12).all (fun b => b = 0) || (slice g 10 2 = [0xFF, 0xFF] && (g.take 10).all (fun b => b = 0)) then
    0x01005E000000 + ofBe (slice g 13 3) % 2 ^ 23
  else 0x333300000000 + ofBe (slice g 12 4)

/-- A port takes a frame's destination (R505): its own address, ARP broadcast, the groups it has joined, and the PTP
groups of the domains it carries. -/
def Mach.takesDst (m : Mach) (p : Nat) (f : NetFrame) : Bool :=
  f.dst = macOf p || (f.dst = 0xFFFFFFFFFFFF && f.kind = 1)
    || ((f.kind = 2 || f.kind = 4) && (m.blob 0x1220 2 0).any (fun b => b != 0) && f.dst = groupMac (m.blob 0x1220 2 0))
    || (f.kind = 4 && (f.dst = 0x333300000001 || decide (0x3333FF000000 ≤ f.dst) && decide (f.dst < 0x333400000000)))
    || ([0, 1].any (fun d => m.tdOn d && m.carries d p)
        && [0x01005E000181, 0x01005E00006B, 0x333300000181, 0x33330000006B, 0x011B19000000, 0x0180C200000E].contains f.dst)

/-- A frame's tag is what NET_CONFIG asks for (R504, R506). -/
def Mach.tagOk (m : Mach) (p : Nat) (f : NetFrame) : Bool :=
  let v := bits (m.netCfg p) 16 12
  match f.vlan with | none => v = 0 | some x => v != 0 && x = v

/-- The port has an address of the frame's family: IPv6 always has its link-local one (R504, R508). -/
def Mach.hasAddress (m : Mach) (p : Nat) (f : NetFrame) : Bool := f.kind = 4 || decide (bits (m.nat 0xD002 (p + 1) 0) 32 6 != 0)

/-- A question about addresses, groups or reachability that concerns the port is answered (R504; log entry 88). -/
def Mach.netReply (m : Mach) (p : Nat) (f : NetFrame) : Mach :=
  let joined := (m.blob 0x1220 2 0).any (fun b => b != 0)
  if m.hasAddress p f && (f.asks = 1 && (f.kind = 1 || f.kind = 4) || f.asks = 2 && (f.kind = 2 || f.kind = 4)
      || f.asks = 3 && joined && (f.kind = 2 || f.kind = 4)) then m.sendOn p (.net p (4 + f.asks) 0 [f.kind])
  else m

/-- NET_FRAME_RECEIVED (R504, R505): what the port counts of a frame, and what it discards. -/
def Mach.netFrame (m : Mach) (p : Nat) (f : NetFrame) : Mach :=
  if !(m.netPort p).linkUp || !bit (m.netCfg p) 0 then m
  else if !f.fcsOk then m.netCount p 3
  else if !m.takesDst p f || !m.tagOk p f || decide (f.length < 64) || decide (9216 < f.length) || f.kind = 7 then m.netCount p 5
  else if 262144 < f.buffered + f.length then (m.netCount p 4).record 0x0C03 p 1
  else
    let m1 := (m.netCount p 1).netReply p f
    let ptp := f.kind = 6 || ((f.kind = 2 || f.kind = 4) && f.checksumOk && (f.udpPort = 319 || f.udpPort = 320))
    if ptp then (m1.netCount p 6).onNet p (fun n => { n with ptpRxAt := some m.now }) else m1

/-- NET_FRAME_RECEIVED. -/
def execNetFrameReceived (dt port : Nat) (f : NetFrame) (s : State) : Res :=
  s.actUnit dt "network port" port 2 (fun m => m.netFrame port f)

/-- NET_LINK_UP (R507): the port passes frames, at the speed of NET_CONFIG. -/
def Mach.netUp (m : Mach) (p : Nat) : Mach :=
  if !bit (m.netCfg p) 0 || (m.netPort p).linkUp || m.sys.mode = .reset then m
  else
    let sp := bits (m.netCfg p) 1 1
    (m.onNet p (fun n => { n with
      linkUp := true, blockLock := true, fecLock := bit (m.netCfg p) 2, remoteFault := false, speedNow := sp })).record 0x0C01 p sp

/-- NET_LINK_UP. -/
def execNetLinkUp (dt port : Nat) (s : State) : Res := s.actUnit dt "network port" port 2 (fun m => m.netUp port)

/-- NET_LINK_DOWN (R507, R509, R527). -/
def Mach.netDown (m : Mach) (p cause : Nat) : Mach :=
  if !(m.netPort p).linkUp then m
  else ((m.onNet p (fun n => { n with
    linkUp := false, blockLock := n.blockLock && cause != 0, fecLock := n.fecLock && cause != 0, remoteFault := decide (cause = 1) })).netCount
      p 7).record 0x0C02 p cause

/-- NET_LINK_DOWN. -/
def execNetLinkDown (dt port cause : Nat) (s : State) : Res :=
  s.actUnit dt "network port" port 2 (fun m => m.netDown port cause)

/-- A write of NET_CONFIG (R506): answered first, and then the port's link restarts. -/
def Mach.writeNetConfig (m : Mach) (w : Who) (p v : Nat) : Mach :=
  m.guardedNum w 0xD001 (p + 1) v (fun m =>
    if bit v 2 && !bit v 1 then m.reply w 0xD001 (p + 1) .outOfRange
    else ((m.setNum 0xD001 (p + 1) 0 v).acceptNum w 0xD001 (p + 1) 0 4 v).netDown p 2)

/-- NET_CONFIG_WRITE. -/
def execNetConfigWrite (dt sid port v : Nat) (s : State) : Res :=
  s.act dt (fun m => m.writeNetConfig (.host sid) port v)

/-! ### Domain time (R511, R515 to R519) -/

/-- E at a counter value, in 2^-40 ns (R511). -/
def TimeDomain.eAt (d : TimeDomain) (c : Nat) : Int := d.eBase + ((c : Int) - d.cBase) * d.rate

/-- A write of RATE at a counter value makes no jump (R511). -/
def TimeDomain.setRate (d : TimeDomain) (c : Nat) (r : Int) : TimeDomain :=
  { d with eBase := d.eAt c, cBase := c, rate := clampI (-10995116277) 10995116277 r }

/-- Output time now follows another domain (R521 to R523): K takes up a difference below 1 us. -/
def Mach.switchTo (m : Mach) (d : Nat) : Mach :=
  let c := m.linkTime
  let diff := m.outputTime - (m.domain d).at_ c
  if diff.natAbs < 1000 then
    Mach.record { m with time := { m.time with sel := d, k := diff, slewFrom := if diff = 0 then none else some c } } 0x0C07 d (p32sat diff)
  else Mach.record { m with time := { m.time with sel := d, k := 0, slewFrom := none } } 0x0C08 d (p32sat (-diff))

/-- A domain's QUALITY changes (R517, R527). -/
def Mach.setQuality (m : Mach) (d q : Nat) : Mach :=
  if (m.domain d).quality = q then m
  else
    let m1 := m.onDomain d (fun t => { t with quality := q, good := 0, lockedSince := if q = 2 then m.linkTime else t.lockedSince })
    let m2 := m1.record 0x0C05 (d + 256 * q) (p32sat (m.domain d).masterOffset)
    let m3 := m2.onDomain d (fun t => if q = 2 then { t with everLocked := true } else t)
    if q = 3 && m.time.sel = d && bit (m.nat 0xD030 0 0) 1 && (m.domain (1 - d)).quality = 2 then
      (m3.setNum 0xD030 0 0 (2 + (1 - d : Nat) : Nat)).switchTo (1 - d)
    else m3

/-- An adjustment of OFFSET (R511). -/
def Mach.adjust (m : Mach) (d : Nat) (a : Int) : Mach := m.onDomain d (fun t => { t with offset := t.offset + a })

/-- The PTP limits of RATE around the frequency estimate (R515): 100 ppm in 2^-40 ns per tick. -/
def rateSpan : Int := 109951163

/-- A filtered offset from the master (R515, R517): a step above 1 us, else a change of RATE. -/
def Mach.servo (m : Mach) (d : Nat) (off : Int) : Mach :=
  let t := m.domain d
  let m1 := m.onDomain d (fun t => { t with masterOffset := clampI (-2147483648) 2147483647 off })
  let m2 :=
    if 1000 < off.natAbs then ((m1.adjust d (-off)).onDomain d (fun t => { t with samples := [] })).record 0x0C06 d (p32sat (-off))
    else
      let want := Config.servoFilter 1 (off :: t.freq :: t.samples)
      m1.onDomain d (fun t => t.setRate m.linkTime (clampI (t.freq - rateSpan) (t.freq + rateSpan) want))
  let limit := m.nat 0xD025 1 0
  if t.quality = 2 then (if 4 * limit < off.natAbs then m2.setQuality d 1 else m2)
  else if t.quality = 1 then
    if off.natAbs ≤ limit then
      let m3 := m2.onDomain d (fun t => { t with good := t.good + 1 })
      if m.nat 0xD025 2 0 ≤ (m3.domain d).good then m3.setQuality d 2 else m3
    else m2.onDomain d (fun t => { t with good := 0 })
  else m2

/-- A valid Sync gives an offset (R515): the filter and the frequency estimate are E11's own (log entry 31). -/
def Mach.syncDone (m : Mach) (d port : Nat) (master slave : Int) : Mach :=
  let t := m.domain d
  let delay : Nat := if m.p2p d then fget t.pdDelay port 0 else t.pathDelay
  let raw := (m.domain d).at_ slave.toNat - master - delay
  let samples := (t.samples ++ [raw]).drop (t.samples.length + 1 - 8)
  let m1 := m.onDomain d (fun t => { t with
    samples := samples, freq := Config.servoFilter 2 (t.freq :: samples), lastSync := m.now, syncPair := some (master, slave), twoStep := none })
  let m2 := if (m1.domain d).quality = 3 then m1.setQuality d 1 else m1
  m2.servo d (if 1000 < raw.natAbs then raw else Config.servoFilter 0 samples)

/-! ### PTP messages (R513, R525) -/

/-- The receive timestamp at the MDI (R525, R526), in ns: RX_FACTORY rounded to 1 ns, RX_USER in 1/16 ns. -/
def Mach.rxStamp (m : Mach) (port stamp : Nat) : Int :=
  let cfg := m.netCfg port
  let factory : Int := if bit cfg 2 then 1283 else if bit cfg 1 then 215 else 352
  (stamp : Int) - (factory * 16 + 10 * toInt 16 (bits (m.nat 0xD010 (port + 1) 0) 0 16)) / 160

/-- The transmit timestamp at the MDI. -/
def Mach.txStamp (m : Mach) (port : Nat) : Int :=
  let cfg := m.netCfg port
  let factory : Int := if bit cfg 2 then 712 else if bit cfg 1 then 168 else 284
  (m.linkTime : Int) + (factory * 16 + 10 * toInt 16 (bits (m.nat 0xD010 (port + 1) 0) 16 16)) / 160

/-- A message of the chosen master on the port that carries the domain. -/
def Mach.fromMaster (m : Mach) (d port sender : Nat) : Bool :=
  m.tdOn d && m.carries d port && (m.netPort port).linkUp && (m.domain d).master = some sender && (m.domain d).portNow = port

/-- 2^n intervals of one second in ns, for -7 to 7. -/
def intervalNs (log : Int) : Nat :=
  if 0 ≤ log then 1000000000 * 2 ^ (min 7 log.toNat) else 1000000000 / 2 ^ (min 30 (-log).toNat)

/-- PTP_SYNC. -/
def Mach.ptpSync (m : Mach) (d port sender seq : Nat) (twoStep : Bool) (origin : Nat) (corr : Int) (stamp : Nat) (log : Int) : Mach :=
  if !m.fromMaster d port sender then m
  else
    let m1 := m.onDomain d (fun t => { t with syncInterval := intervalNs log })
    let rx := m.rxStamp port stamp
    if twoStep then m1.onDomain d (fun t => { t with twoStep := some (seq, sender, rx, corr) })
    else m1.syncDone d port ((origin : Int) + corr) rx

/-- PTP_SYNC. -/
def execPtpSync (dt dom port sender seq : Nat) (twoStep : Bool) (origin : Nat) (corr : Int) (stamp : Nat) (logInterval : Int)
    (s : State) : Res :=
  s.actUnits dt "time domain" dom 2 "network port" port 2 (fun m => m.ptpSync dom port sender seq twoStep origin corr stamp logInterval)

/-- PTP_FOLLOW_UP: the master's time of the Sync it follows. -/
def execPtpFollowUp (dt dom port sender seq origin : Nat) (corr : Int) (s : State) : Res :=
  s.actUnits dt "time domain" dom 2 "network port" port 2 (fun m =>
    match (m.domain dom).twoStep with
    | some (q, from_, rx, c) =>
      if m.fromMaster dom port sender && q = seq && from_ = sender then m.syncDone dom port ((origin : Int) + corr + c) rx else m
    | none => m)

/-- One dataset is better than another (the best master clock algorithm, R513): grandmaster quality in order, then its
identity, then the steps, then the port. -/
def betterQuality : List Nat → List Nat → Option Bool
  | a :: as, b :: bs => if a < b then some true else if b < a then some false else betterQuality as bs
  | _, _ => none

/-- The comparison of two Announces with their ports. -/
def betterMaster (a b : Announce × Nat × Nat) : Bool :=
  match betterQuality a.1.quality b.1.quality with
  | some r => r
  | none =>
    if a.1.gm != b.1.gm then decide (a.1.gm < b.1.gm)
    else if a.1.steps != b.1.steps then decide (a.1.steps < b.1.steps)
    else if a.1.sender != b.1.sender then decide (a.1.sender < b.1.sender)
    else decide (a.2.1 < b.2.1)

/-- The chosen master of the datasets heard within three of their intervals. -/
def chooseMaster (now : Nat) (l : List (Announce × Nat × Nat)) : Option (Announce × Nat × Nat) :=
  (l.filter (fun x => decide (now < x.2.2 + 3 * intervalNs x.1.logInterval))).foldl (fun best x =>
    match best with
    | none => some x
    | some b => if betterMaster x b then some x else some b) none

/-- The domain follows the chosen master (R513, R517). -/
def Mach.follow (m : Mach) (d : Nat) : Mach :=
  let t := m.domain d
  match chooseMaster m.now t.foreigns with
  | none => m
  | some (a, port, at_) =>
    let m1 := m.onDomain d (fun t => { t with
      gm := a.gm, steps := a.steps, portNow := port, master := some a.sender, lastAnnounce := at_, announceInterval := intervalNs a.logInterval })
    let changed := t.master != some a.sender || t.gm != a.gm || t.portNow != port
    let m2 := if changed then (m1.onDomain d (fun t => { t with
      samples := [], twoStep := none, syncPair := none, reqSent := none, lastSync := m.now })).record 0x0C04 d (a.gm % 2 ^ 32) else m1
    if t.quality = 0 || (t.quality = 3 && changed) then m2.setQuality d 1 else m2

/-- PTP_ANNOUNCE (R513). -/
def execPtpAnnounce (dt dom port : Nat) (a : Announce) (s : State) : Res :=
  s.actUnits dt "time domain" dom 2 "network port" port 2 (fun m =>
    if m.tdOn dom && m.carries dom port && (m.netPort port).linkUp && decide (a.steps < 255) then
      (m.onDomain dom (fun t => { t with
        foreigns := t.foreigns.filter (fun x => !(x.1.sender = a.sender && x.2.1 = port)) ++ [(a, port, m.now)] })).follow dom
    else m)

/-- DELAY_REQ_TIMER (R513): a Delay_Req at the master's interval. -/
def Mach.delayReq (m : Mach) (d : Nat) : Mach :=
  let t := m.domain d
  let due := match t.reqSent with | some (at_, _) => decide (at_ + t.reqInterval ≤ m.now) | none => true
  if m.tdOn d && !m.p2p d && t.master.isSome && (m.netPort t.portNow).linkUp && due then
    ((m.onDomain d (fun t => { t with reqSeq := (t.reqSeq + 1) % 65536, reqSent := some (m.now, m.txStamp t.portNow) })).netCount
      t.portNow 2).emit (.net t.portNow 1 d [(t.reqSeq + 1) % 65536])
  else m

/-- DELAY_REQ_TIMER. -/
def execDelayReqTimer (dt dom : Nat) (s : State) : Res := s.actUnit dt "time domain" dom 2 (fun m => m.delayReq dom)

/-- PTP_DELAY_RESP: the mean path delay from both directions (R513). -/
def Mach.delayResp (m : Mach) (d port sender seq time : Nat) (corr logMin : Int) : Mach :=
  let t := m.domain d
  if !m.fromMaster d port sender || m.p2p d || seq != t.reqSeq then m
  else match t.reqSent, t.syncPair with
    | some (_, t3), some (t1, t2) =>
      let delay := ((m.domain d).at_ t2.toNat - t1 + ((time : Int) - corr - (m.domain d).at_ t3.toNat)) / 2
      m.onDomain d (fun t => { t with pathDelay := min (2 ^ 32 - 1) delay.toNat, reqInterval := intervalNs logMin })
    | _, _ => m.onDomain d (fun t => { t with reqInterval := intervalNs logMin })

/-- PTP_DELAY_RESP. -/
def execPtpDelayResp (dt dom port sender seq time : Nat) (corr logMin : Int) (s : State) : Res :=
  s.actUnits dt "time domain" dom 2 "network port" port 2 (fun m => m.delayResp dom port sender seq time corr logMin)

/-- PDELAY_REQ_TIMER (R513): a Pdelay_Req every 1 s on every port that carries a P2P domain. -/
def Mach.pdelayReq (m : Mach) (d port : Nat) : Mach :=
  let t := m.domain d
  let due := match ffind t.pdSent port with | some x => decide (x.1 + 1000000000 ≤ m.now) | none => true
  if m.tdOn d && m.p2p d && m.carries d port && (m.netPort port).linkUp && due then
    let seq := (fget t.pdSeq port 0 + 1) % 65536
    ((m.onDomain d (fun t => { t with pdSeq := fset t.pdSeq port seq, pdSent := fset t.pdSent port (m.now, m.txStamp port), pdGot := fdel t.pdGot port })).netCount
      port 2).emit (.net port 2 d [seq])
  else m

/-- PDELAY_REQ_TIMER. -/
def execPdelayReqTimer (dt dom port : Nat) (s : State) : Res :=
  s.actUnits dt "time domain" dom 2 "network port" port 2 (fun m => m.pdelayReq dom port)

/-- PTP_PDELAY_REQ: answered two-step on every port that carries a P2P domain (R513). -/
def Mach.pdelayAnswer (m : Mach) (d port sender seq stamp : Nat) : Mach :=
  if m.tdOn d && m.p2p d && m.carries d port && (m.netPort port).linkUp then
    ((((m.netCount port 2).netCount port 2).emit (.net port 3 d [sender, seq, ((m.domain d).at_ (m.rxStamp port stamp).toNat).toNat]))).emit
      (.net port 4 d [sender, seq, ((m.domain d).at_ (m.txStamp port).toNat).toNat])
  else m

/-- PTP_PDELAY_REQ. -/
def execPtpPdelayReq (dt dom port sender seq stamp : Nat) (s : State) : Res :=
  s.actUnits dt "time domain" dom 2 "network port" port 2 (fun m => m.pdelayAnswer dom port sender seq stamp)

/-- PTP_PDELAY_RESP: t2 with the receive stamp, then t3 of the follow-up gives the peer delay (R513). -/
def Mach.pdelayResp (m : Mach) (d port seq : Nat) (followUp : Bool) (time : Nat) (corr : Int) (stamp : Nat) : Mach :=
  let t := m.domain d
  if !(m.tdOn d && m.p2p d && m.carries d port) || seq != fget t.pdSeq port 0 then m
  else if !followUp then m.onDomain d (fun t => { t with pdGot := fset t.pdGot port ((time : Int), m.rxStamp port stamp, corr) })
  else match ffind t.pdSent port, ffind t.pdGot port with
    | some (_, t1), some (t2, t4, c) =>
      let delay := (((t4 - t1) - ((time : Int) - t2)) - corr - c) / 2
      m.onDomain d (fun t => { t with
        pdDelay := fset t.pdDelay port delay.toNat, pathDelay := min (2 ^ 32 - 1) delay.toNat, pdGot := fdel t.pdGot port })
    | _, _ => m

/-- PTP_PDELAY_RESP. -/
def execPtpPdelayResp (dt dom port _sender seq : Nat) (followUp : Bool) (time : Nat) (corr : Int) (stamp : Nat) (s : State) : Res :=
  s.actUnits dt "time domain" dom 2 "network port" port 2 (fun m => m.pdelayResp dom port seq followUp time corr stamp)

/-- PTP_HOLDOVER (R517): no valid Sync for HOLDOVER_SYNCS intervals, or the announce timeout; a domain that never locked
waits for a master again. -/
def Mach.holdover (m : Mach) (d : Nat) : Mach :=
  let t := m.domain d
  let silent := decide (t.lastSync + m.nat 0xD025 3 0 * t.syncInterval ≤ m.now) || decide (t.lastAnnounce + 3 * t.announceInterval ≤ m.now)
  if m.tdOn d && t.master.isSome && t.lockedSince != 0 && silent && (t.quality = 1 || t.quality = 2) then m.setQuality d 3 else m

/-- PTP_HOLDOVER. -/
def execPtpHoldover (dt dom : Nat) (s : State) : Res := s.actUnit dt "time domain" dom 2 (fun m => m.holdover dom)

/-- A write of TD_CONFIG (R514): the servo restarts, and the time does not change. -/
def Mach.writeTdConfig (m : Mach) (w : Who) (d v : Nat) : Mach :=
  m.guardedNum w 0xD020 (d + 1) v (fun m =>
    let m1 := m.setNum 0xD020 (d + 1) 0 v
    if bits (m1.tdCfg 0) 16 8 = bits (m1.tdCfg 1) 16 8 && [0, 1].any (fun p => m1.carries 0 p && m1.carries 1 p) then
      m.reply w 0xD020 (d + 1) .outOfRange
    else
      let m2 := m1.onDomain d (fun t => { t with
        master := none, foreigns := [], gm := 0, steps := 0, portNow := 0xFF, samples := [], freq := 0, good := 0, twoStep := none, syncPair := none
        reqSent := none, pdGot := [] })
      let m3 := if bit v 0 then m2 else m2.onDomain d (fun t => t.setRate m.linkTime 0)
      (m3.setQuality d (if bit v 0 then 1 else 4)).acceptNum w 0xD020 (d + 1) 0 4 v)

/-- TD_CONFIG_WRITE. -/
def execTdConfigWrite (dt sid dom v : Nat) (s : State) : Res :=
  s.act dt (fun m => m.writeTdConfig (.host sid) dom v)

/-- A write of TD_SET (R519). -/
def Mach.writeTdSet (m : Mach) (w : Who) (d v : Nat) : Mach :=
  m.guardedNum w 0xD023 (d + 1) v (fun m =>
    if m.tdOn d then m.reply w 0xD023 (d + 1) .notReady
    else
      let a := (v : Int) - (m.domain d).at_ m.linkTime
      let m1 := (m.adjust d a).onDomain d (fun t => { t with everLocked := true })
      let m2 := m1.record 0x0C09 d (p32sat a)
      let m3 := if m.time.sel = d then m2.record 0x0C06 d (p32sat a) else m2
      m3.acceptNum w 0xD023 (d + 1) 0 8 v)

/-- TD_SET. -/
def execTdSet (dt sid dom v : Nat) (s : State) : Res := s.act dt (fun m => m.writeTdSet (.host sid) dom v)

/-- A write of TIME_SELECT (R522). -/
def Mach.writeTimeSelect (m : Mach) (w : Who) (v : Nat) : Mach :=
  m.guardedNum w 0xD030 0 v (fun m =>
    let d := bits v 0 1
    if d = m.time.sel then (m.setNum 0xD030 0 0 v).acceptNum w 0xD030 0 0 1 v
    else if (m.domain d).quality ≤ 1 then m.reply w 0xD030 0 .notReady
    else ((m.setNum 0xD030 0 0 v).switchTo d).acceptNum w 0xD030 0 0 1 v)

/-- TIME_SELECT_WRITE. -/
def execTimeSelectWrite (dt sid v : Nat) (s : State) : Res := s.act dt (fun m => m.writeTimeSelect (.host sid) v)

/-- SLEW_END (R523): K has reached 0. -/
def execSlewEnd (dt : Nat) (s : State) : Res :=
  s.act dt (fun m =>
    if m.time.slewFrom.isSome && m.time.kAt m.linkTime = 0 then { m with time := { m.time with k := 0, slewFrom := none } } else m)

end Sys2Proof.Machine
end

