-- ==== Sys2Proof/Machine/Store.lean ====
section
/-! DEFINITION. The recorder's areas, clear, flush and start; the settings store's saves, writes and load; link-delay
requests (R584 to R610). -/

namespace Sys2Proof.Machine

/-! ### The recorder (R587 to R596) -/

/-- RECORD_WINDOW_CLOSE (R587): the record's window has passed without a merge. -/
def Mach.windowClose (m : Mach) (k : Nat) : Mach :=
  match m.recorder.openRecs[k]? with
  | some o =>
    if decide (o.lastAt + m.nat 0xB001 0 0 * 1000000 < m.now) then { m with recorder := m.recorder.closeAt k } else m
  | none => m

/-- RECORD_WINDOW_CLOSE. -/
def execRecordWindowClose (dt k : Nat) (s : State) : Res := s.act dt (fun m => m.windowClose k)

/-- The first area: open records belong to it as well (R588). -/
def Recorder.firstView (r : Recorder) : List Rec :=
  if r.layout = 1 then []
  else (r.openRecs.filter (fun o => decide (o.r.num < 1024))).foldl (fun l o => insertRec l o.r) r.first

/-- The last area, oldest first, and the ring index of its oldest record (R588, R592). -/
def Recorder.lastView (r : Recorder) : List Rec × Nat :=
  if r.layout = 1 then ([], 0)
  else
    let l := (r.openRecs.filter (fun o => decide (1024 ≤ o.r.num))).foldl (fun l o => insertRec l o.r) r.last
    (l.drop (l.length - 7168), (r.lastBase + (l.length - 7168)) % 7168)

/-- A write of RECORDER_CLEAR (R593). -/
def Mach.writeRecorderClear (m : Mach) (w : Who) (v : Nat) : Mach :=
  m.guardedNum w 0xB020 0 v (fun m =>
    if v = 0 then m.acceptNum w 0xB020 0 0 1 v
    else
      let r := m.recorder
      let m1 := if r.layout = 1 then ({ m with recorder := { r with fore := [], areaFull := false } }).record 0x0F0A r.fore.length 1
        else ({ m with recorder := { r with
          last := [], lastBase := 0, areaFull := false
          openRecs := r.openRecs.filter (fun o => decide (o.r.num < 1024)) } }).record 0x0F0A r.lastView.1.length 0
      m1.acceptNum w 0xB020 0 0 1 v)

/-- RECORDER_CLEAR. -/
def execRecorderClear (dt sid v : Nat) (s : State) : Res := s.act dt (fun m => m.writeRecorderClear (.host sid) v)

/-- Close the open records, oldest first. -/
def Recorder.closeAll : Nat → Recorder → Recorder
  | 0, r => r
  | n + 1, r => Recorder.closeAll n (r.closeAt 0)

/-- The flush (R594): every open record is closed and written, and RECORDER_FLUSHED follows. How long it took is open. -/
def Mach.flushRecorder (m : Mach) : Mach :=
  if m.recorder.flushed then m
  else
    let n := m.recorder.openRecs.length
    let m1 := ({ m with recorder := Recorder.closeAll n m.recorder }).drawn
    let (m2, _) := m1.recordQuiet (m1.mkRec 0x0F09 n (m.freeNat % 1801) m1.webLine false)
    { m2 with recorder := { Recorder.closeAll m2.recorder.openRecs.length m2.recorder with flushed := true } }

/-- The newest record that the store holds in the areas of the layout in effect. -/
def Recorder.newest (r : Recorder) : Option Rec :=
  (if r.layout = 1 then r.fore else r.first ++ r.last).foldl (fun (b : Option Rec) x =>
    match b with
    | none => some x
    | some y => if y.num < x.num then some x else some y) none

/-- The start of the recorder (R584, R590, R596): numbers go on from the highest in the store; what was open is gone. -/
def Mach.recorderStart (m : Mach) (layout : Nat) : Mach :=
  let r0 := { m.recorder with openRecs := [], layout := layout, lost := 0, flushed := false, starts := satAdd 0xFFFFFFFF m.recorder.starts 1 }
  let made := maxOf 0 ((r0.first ++ r0.last ++ r0.fore).map (fun x => x.num + 1))
  let p1 := match r0.newest with
    | none => 2
    | some x => if x.code = 0x0F09 then 0 else 1
  ({ m with recorder := { r0 with made := made, unclean := p1 = 1 } }).record 0x0F08 r0.starts p1

/-! ### The settings store (R605 to R610) -/

/-- Values with a reset of their own, which the store does not keep (log entry 2). -/
def storeKeeps (idx : Nat) : Bool := !([0x2104, 0x2105, 0x2131, 0x3102, 0x8102, 0xC011, 0xC049].contains idx)

/-- The values of the configuration set (R608). -/
def Mach.configItem (m : Mach) : StoreItem :=
  { kind := 1, key := 0
    nums := m.dict.nums.filter (fun x => storeKeeps (x.1 / 2 ^ 24))
    blobs := m.dict.blobs.filter (fun x => storeKeeps (x.1 / 2 ^ 24)) }

/-- A write of STORE_SAVE (R608): the answer follows the save. -/
def Mach.writeStoreSave (m : Mach) (w : Who) (v : Nat) : Mach :=
  m.guardedNum w 0xE001 0 v (fun m =>
    if v = 0 then m.acceptNum w 0xE001 0 0 1 v
    else if m.store.saver.isSome then m.reply w 0xE001 0 .busy
    else
      let m1 := m.queueItem m.configItem
      { m1 with store := { m1.store with saver := some w } })

/-- STORE_SAVE. -/
def execStoreSave (dt sid v : Nat) (s : State) : Res := s.act dt (fun m => m.writeStoreSave (.host sid) v)

/-- The copies of an item after a new one: the two newest, in two banks or slots (R607). -/
def keepCopies (l : List StoreItem) (x : StoreItem) : List StoreItem :=
  let same := l.filter (fun y => y.kind = x.kind && y.key = x.key)
  l.filter (fun y => !(y.kind = x.kind && y.key = x.key)) ++ same.drop (same.length - 1) ++ [x]

/-- The save that a session waits for has ended; a save that failed twice has changed nothing. -/
def Mach.saveEnds (m : Mach) (x : StoreItem) (good : Bool) : Mach :=
  if x.kind != 1 then m
  else
    let m1 := { m with store := { m.store with saver := none } }
    let m2 := if good then
        Mach.record { m1 with store := { m1.store with configGen := x.gen } } 0x0F06 (Config.itemId 1 % 65536) x.gen
      else m1
    match m.store.saver with
    | some w => if good then m2.acceptNum w 0xE001 0 0 1 1 else m2.reply w 0xE001 0 .notReady
    | none => m2

/-- STORE_WRITE_DONE (R609): the oldest write is read back; a failed one is retried once. How often its sector has been
erased is open. -/
def Mach.storeWritten (m0 : Mach) (good : Bool) : Mach :=
  match m0.store.writes with
  | [] => m0
  | (x, retry) :: rest =>
    let m := { m0.drawn with store := { m0.store with erasesMax := max m0.store.erasesMax (m0.freeNat % 2 ^ 32) } }
    if good then
      ({ m with store := { m.store with writes := rest, items := keepCopies m.store.items x } }).saveEnds x true
    else if !retry then { m with store := { m.store with writes := (x, true) :: rest } }
    else
      let m1 := m.drawn
      ((({ m1 with store := { m1.store with writes := rest } }).record 0x0F07 (Config.itemId x.kind % 65536) (m.freeNat % 0x4000000)).saveEnds
        x false)

/-- Writes in progress complete (R629). -/
def Mach.finishWrites (m : Mach) : Mach :=
  { m with store := { m.store with writes := [], items := m.store.writes.foldl (fun l x => keepCopies l x.1) m.store.items } }

/-- The newest valid copy of an item (R607). -/
def Store.copyOf (s : Store) (bad : List (Nat × Nat × Nat)) (kind key : Nat) : Option StoreItem :=
  ((s.items.filter (fun x => x.kind = kind && x.key = key && !bad.contains (Config.itemId kind % 65536, key, x.gen))).foldl
    (fun (b : Option StoreItem) x => match b with
      | none => some x
      | some y => if y.gen < x.gen then some x else some y) none)

/-- The values in effect at the end of BOOT: the stored ones of every RS object. -/
def rsPart {α : Type} (l : FMap α) : FMap α := l.filter (fun x => isRs (x.1 / 2 ^ 24) || x.1 / 2 ^ 24 = 0x8012 || x.1 / 2 ^ 24 = 0x8013)

/-- The baselines of a kind by key, each in its newest valid copy (R327, R607). -/
def Store.baselines (s : Store) (bad : List (Nat × Nat × Nat)) (kind : Nat) : FMap (List Int) :=
  (((s.items.filter (fun x => x.kind = kind)).map (fun x => x.key)).eraseDups).filterMap (fun key =>
    (s.copyOf bad kind key).map (fun x => (key, fget x.lists 0 [])))

/-- The store is loaded (R607): each item's newest valid copy; failed copies are recorded, and items without one take
their factory value. -/
def Mach.loadStore (m : Mach) (bad : List (Nat × Nat × Nat)) (missing : Nat) : Mach :=
  let get := fun kind key => m.store.copyOf bad kind key
  let nums := match get 1 0 with | some x => x.nums | none => []
  let blobs := match get 1 0 with | some x => x.blobs | none => []
  let cams := (List.range 4).foldl (fun (l : FMap (List Int)) c => match get 2 c with
    | some x => fset l c (fget x.lists c [])
    | none => l) []
  let image := match get 4 0 with | some x => fget x.blobs 0 [] | none => []
  let m1 := { m with
    dict := { nums := nums, blobs := blobs, effNums := rsPart nums, effBlobs := rsPart blobs }
    store := { m.store with
      configGen := (match get 1 0 with | some x => x.gen | none => 0), badItems := bad.length
      camCal := cams, zoneBase := m.store.baselines bad 3, nozzleBase := m.store.baselines bad 5
      badKeys := bad.map (fun b => (if b.1 = Config.itemId 3 % 65536 then 3 else if b.1 = Config.itemId 5 % 65536 then 5 else 0, b.2.1)) }
    cams := (List.range 4).foldl (fun (l : FMap Cam) c => match ffind cams c with
      | some v => fset l c { fget l c {} with calState := 1, calTemp := nth v 2 (-32768) }
      | none => l) m.cams
    cpu := { m.cpu with user := { m.cpu.user with
      image := image, digest := if image.isEmpty then [] else sha256 (image.take (image.length - 64)) } } }
  let m2 := (List.range 4).foldl (fun (acc : Mach) c => match ffind cams c with
    | some v => (acc.setNum 0x6020 1 c (nth v 0 0)).setNum 0x6020 7 c (nth v 1 0)
    | none => acc) m1
  let m3 := bad.foldl (fun acc b => acc.record 0x0F04 b.1 b.2.2) m2
  if missing = 0 then m3 else m3.record 0x0F05 missing 0

/-! ### Link-delay calibration (R604) -/

/-- A port becomes due for a measurement; ports that are not ACTIVE are not. -/
def Mach.portDue (m : Mach) (p : Nat) : Mach :=
  if m.linkUp p then m.onLink p (fun l => { l with due := true }) else m

/-- A write of CAL_LINK_MEASURE (R604): bits of ports that are not ACTIVE are ignored. -/
def Mach.writeLinkMeasure (m : Mach) (w : Who) (v : Nat) : Mach :=
  m.guardedNum w 0xE020 0 v (fun m =>
    ((forEach (setBits v 64) m (fun p acc => acc.portDue p)).nextMeasure).acceptNum w 0xE020 0 0 8 v)

/-- CAL_LINK_MEASURE. -/
def execCalLinkMeasure (dt sid v : Nat) (s : State) : Res := s.act dt (fun m => m.writeLinkMeasure (.host sid) v)

end Sys2Proof.Machine
end

