-- ==== Sys2Proof/Machine/Modes.lean ====
section
/-! DEFINITION. Modes, start-up, firmware slots, OTP and stationary firing (chapter 19, and R219, R264, R432 where they
end a start-up). -/

namespace Sys2Proof.Machine

/-! ### OTP and firmware slots (R631 to R639) -/

/-- A configuration generation as OTP holds it: 128 bytes, all zero when empty (R635, R637). -/
def Sys.otpGen (s : Sys) (g : Nat) : Bytes :=
  let b := nth s.otpConfig g []
  if b.isEmpty then List.replicate 128 0 else b

/-- A generation is empty. -/
def otpEmpty (b : Bytes) : Bool := b.all (· == 0)

/-- A generation is valid (R636, R637): MAGIC, CHECK and every reserved byte are right. -/
def otpValid (b : Bytes) : Bool :=
  b.length = 128 && leAt b 0 2 = 0x4F43 && leAt b 124 4 = crc32 (b.take 124) && decide (leAt b 4 1 < 8)
    && (slice b 5 3).all (· == 0) && (slice b 40 84).all (· == 0)

/-- The generation that the boot ROM uses: the valid one with the highest number. -/
def Sys.otpNewest (s : Sys) : Option Nat := ((List.range 4).filter (fun g => otpValid (s.otpGen g))).getLast?

/-- The bytes of the generation in effect; every field reads 0 when there is none. -/
def Sys.otpBlock (s : Sys) : Bytes :=
  match s.inEffect with
  | some g => s.otpGen g
  | none => List.replicate 128 0

/-- OTP_FLAGS in effect (R636). -/
def Sys.otpFlags (s : Sys) : Nat := leAt s.otpBlock 4 1

/-- The bytes of a firmware slot. -/
def Sys.slotBytes (s : Sys) (i : Nat) : Bytes := nth s.slots i []

/-- The slot still holds the factory's firmware (log entry 3). -/
def Sys.isFactory (s : Sys) (i : Nat) : Bool := nth s.factory i false

/-- A key-hash slot is set: the factory firmware's key hash is slot 0 (log entry 3). -/
def Sys.hashSet (s : Sys) (i : Nat) : Bool := i = 0 || (nth s.keyHashes i []).any (· != 0)

/-- The firmware key-hash slot of a firmware slot's key. -/
def Sys.slotKey (s : Sys) (i : Nat) : Option Nat :=
  if s.isFactory i then some 0
  else firstWhere (fun k => (nth s.keyHashes k []).any (· != 0) && nth s.keyHashes k [] = sha256 (slice (s.slotBytes i) 48 64)) [0, 1, 2, 3]

/-- The largest image of a slot (R630, R631). -/
def slotRoom (i : Nat) : Nat := (if i = 2 then 8257536 else 8388608) - 256

/-- The first check that a slot fails, 1 to 6 (R631); none verifies. -/
def Sys.slotCheck (s : Sys) (i : Nat) : Option Nat :=
  let b := s.slotBytes i
  let keyed := match s.slotKey i with | some k => !bit s.revoked k | none => false
  if s.isFactory i then (if !keyed then some 2 else if 0 < s.secMin then some 3 else none)
  else if leAt b 0 4 != 0x46574C54 then some 1
  else if !keyed then some 2
  else if leAt b 8 4 < s.secMin || 63 < leAt b 8 4 then some 3
  else if slotRoom i < leAt b 12 4 then some 4
  else if !ecdsaOk (slice b 48 64) (sha256 (b.take 128)) (slice b 128 64) then some 5
  else if b.length < 256 + leAt b 12 4 || sha256 (slice b 256 (leAt b 12 4)) != slice b 16 32 then some 6
  else none

/-- FW_VERSION of a slot; the factory's firmware is major version 2 (R1, log entry 3). -/
def Sys.slotVersion (s : Sys) (i : Nat) : Nat := if s.isFactory i then 0x02000000 else leAt (s.slotBytes i) 4 4

/-- SEC_VERSION of a slot. -/
def Sys.slotSec (s : Sys) (i : Nat) : Nat := if s.isFactory i then 0 else leAt (s.slotBytes i) 8 4

/-- The boot record's trial (R632): a trial that did not confirm gives way to the confirmed slot. -/
def Mach.takeTrial (m : Mach) : Mach :=
  if !m.sys.trial then m
  else if 1 ≤ m.sys.tries then
    Mach.record { m with sys := { m.sys with bootNext := m.sys.confirmed, trial := false } } 0x0E07 m.sys.bootNext 0
  else { m with sys := { m.sys with tries := 1 } }

/-- The boot ROM tries slots in order until one verifies (R632); none holds the main die with FAULT_N asserted. -/
def Mach.trySlots (m : Mach) : List Nat → Mach
  | [] => { m with sys := { m.sys with step := 0, running := 3, faultN := true } }
  | i :: rest =>
    match m.sys.slotCheck i with
    | none => { m with sys := { m.sys with running := i } }
    | some c => (m.record 0x0E06 i c).trySlots rest

/-- The main die starts (R627 step 2): the recorder, the OTP generation, and the firmware slot. -/
def Mach.boot (m : Mach) : Mach :=
  let s0 := { m.sys with
    mode := .boot, previous := .reset, enteredAt := 0, step := 2, group := 0, powerGoodAt := m.now, revoked := m.sys.otpRevoked
    inEffect := m.sys.otpNewest }
  let s := { s0 with psoSafe := leAt s0.otpBlock 2 2, otpRead := true }
  let layout := match m.store.copyOf [] 1 0 with | some x => (fget x.nums (okey 0xB002 0 0) 0).toNat | none => 0
  let m1 := ({ m with linkOfs := -(m.now : Int), sys := s }).recorderStart layout
  let m2 := match m1.power.tripped with
    | some (who, t) => ({ m1 with power := { m1.power with tripped := none } }).record 0x0E26 who (p32 t)
    | none => m1
  let m3 := m2.takeTrial
  let n := m3.sys.bootNext
  m3.trySlots ([n, 1 - n] ++ (if bit m3.sys.otpFlags 1 then [] else [2]))

/-- The main die goes into reset (R629, R640, R647): what the always-on domain, the store, OTP and Yarrow hold stays,
and REFOUT goes off. -/
def Mach.mainReset (m : Mach) : Mach :=
  { now := m.now, linkOfs := -(m.now : Int), out := m.out ++ (if m.sys.mode = .reset || m.sys.mode = .boot || m.refOutputs = 0 then [] else [.refOut 0]), free := m.free
    recorder := { m.recorder with openRecs := [] }
    hy := { nextSid := m.hy.nextSid }
    sys := {
      slots := m.sys.slots, factory := m.sys.factory, bootNext := m.sys.bootNext, confirmed := m.sys.confirmed
      trial := m.sys.trial, tries := m.sys.tries, confirmDue := m.sys.confirmDue, keyHashes := m.sys.keyHashes
      otpRevoked := m.sys.otpRevoked, revoked := m.sys.revoked, secMin := m.sys.secMin, debugLock := m.sys.debugLock
      otpConfig := m.sys.otpConfig, inEffect := m.sys.inEffect, psoSafe := m.sys.psoSafe, otpRead := m.sys.otpRead
      startupMs := m.sys.startupMs }
    store := { items := m.store.items, erasesMax := m.store.erasesMax }
    cpu := { dbg := { m.cpu.dbg with
      nonce := [], challenge := [], scope := 0, unlocked := 0, halt := false, data := 0, access := none, semWait := none } }
    yarrow := { m.yarrow with dropSeq := 0, markFrame := none }
    power := m.power }

/-! ### Firmware and OTP objects (R633, R634, R638, R639) -/

/-- A slot is confirmed (R634). -/
def Mach.confirmSlot (m : Mach) : Mach :=
  let i := m.sys.running
  let sec := m.sys.slotSec i
  Mach.record { m with sys := { m.sys with confirmed := i, trial := false, confirmDue := false, secMin := max m.sys.secMin sec } } 0x0E09 i sec

/-- The slot that FW_IMAGE writes (R633): of A and B the one that does not run; under recovery A, unless only A verifies. -/
def Mach.imageSlot (m : Mach) : Nat :=
  if m.sys.running = 0 then 1
  else if m.sys.running = 1 then 0
  else if (m.sys.slotCheck 0).isNone && (m.sys.slotCheck 1).isSome then 1 else 0

/-- The reserved bytes of an image's header are 0 (R14, R631). -/
def headerReserved (b : Bytes) : Bool := (slice b 112 16 ++ slice b 192 64).all (fun x => x = 0)

/-- A write of FW_IMAGE (R634): the image is checked as at boot; a failed check erases the slot. -/
def Mach.writeFwImage (m : Mach) (w : Who) (data : Bytes) : Mach :=
  m.guardedBytes w 0x2030 0 (writeLevels 0x2030 0) data (fun _ m =>
    if !headerReserved data then m.reply w 0x2030 0 .outOfRange else
    let i := m.imageSlot
    let put := fun (b : Bytes) => { m with sys := { m.sys with
      slots := (List.range 3).map (fun k => if k = i then b else m.sys.slotBytes k)
      factory := (List.range 3).map (fun k => k != i && m.sys.isFactory k) } }
    let m1 := put data
    match m1.sys.slotCheck i with
    | some c => ((put []).record 0x0E06 i c).reply w 0x2030 0 .authFailed
    | none => (m1.record 0x0E08 i (m1.sys.slotVersion i)).accept w 0x2030 0 0 data)

/-- FW_IMAGE. -/
def execFwImage (dt sid : Nat) (data : Bytes) (s : State) : Res := s.act dt (fun m => m.writeFwImage (.host sid) data)

/-- A write of FW_ACTIVATE (R634). -/
def Mach.writeFwActivate (m : Mach) (w : Who) (v : Nat) : Mach :=
  m.guardedNum w 0x2032 0 v (fun m =>
    if (m.sys.slotCheck v).isSome then m.reply w 0x2032 0 .outOfRange
    else
      let s := if bit m.sys.otpFlags 0 then { m.sys with bootNext := v, trial := true, tries := 0 }
        else { m.sys with bootNext := v, confirmed := v, trial := false, confirmDue := true }
      ({ m with sys := s }).acceptNum w 0x2032 0 0 1 v)

/-- FW_ACTIVATE. -/
def execFwActivate (dt sid slot : Nat) (s : State) : Res := s.act dt (fun m => m.writeFwActivate (.host sid) slot)

/-- A write of FW_CONFIRM (R634): only while a trial slot runs in IDLE. -/
def Mach.writeFwConfirm (m : Mach) (w : Who) (v : Nat) : Mach :=
  m.guardedNum w 0x2033 0 v (fun m =>
    if v = 0 then m.acceptNum w 0x2033 0 0 1 v
    else if m.sys.mode != .idle || !m.sys.trial || m.sys.running != m.sys.bootNext then m.reply w 0x2033 0 .notReady
    else m.confirmSlot.acceptNum w 0x2033 0 0 1 v)

/-- FW_CONFIRM. -/
def execFwConfirm (dt sid v : Nat) (s : State) : Res := s.act dt (fun m => m.writeFwConfirm (.host sid) v)

/-- A block whose read-back failed: neither empty nor valid (R637, R639). -/
def spentBlock (b : Bytes) : Bytes := b.take 124 ++ (slice b 124 4).map (fun x => ~~~x)

/-- A write of OTP_CONFIG_WRITE (R639). -/
def Mach.writeOtpConfig (m : Mach) (w : Who) (block : Bytes) (good : Bool) : Mach :=
  m.guardedBytes w 0xF003 0 (writeLevels 0xF003 0) block (fun _ m =>
    if !otpValid block then m.reply w 0xF003 0 .outOfRange
    else match firstWhere (fun g => otpEmpty (m.sys.otpGen g)) (List.range 4) with
      | none => m.reply w 0xF003 0 .commitRejected
      | some g =>
        let put := fun b => { m with sys := { m.sys with otpConfig := (List.range 4).map (fun k => if k = g then b else m.sys.otpGen k) } }
        (if good then (put block).record 0x0E0A g 0 else (put (spentBlock block)).record 0x0E0B g 0).accept w 0xF003 0 0 block)

/-- OTP_CONFIG_WRITE. -/
def execOtpConfigWrite (dt sid : Nat) (block : Bytes) (good : Bool) (s : State) : Res :=
  s.act dt (fun m => m.writeOtpConfig (.host sid) block good)

/-- A write of OTP_REVOKE (R639). -/
def Mach.writeOtpRevoke (m : Mach) (w : Who) (slot : Nat) (good : Bool) : Mach :=
  m.guardedNum w 0xF005 0 slot (fun m =>
    let after := setBit m.sys.otpRevoked slot true
    let left := [0, 1, 2, 3].any (fun k => m.sys.hashSet k && !bit after k)
    if m.sys.slotKey m.sys.running = some slot || !left then m.reply w 0xF005 0 .commitRejected
    else if good then ({ m with sys := { m.sys with otpRevoked := after } }).acceptNum w 0xF005 0 0 1 slot
    else (m.record 0x0E0B (0x10 + slot) 0).acceptNum w 0xF005 0 0 1 slot)

/-- OTP_REVOKE. -/
def execOtpRevoke (dt sid slot : Nat) (good : Bool) (s : State) : Res := s.act dt (fun m => m.writeOtpRevoke (.host sid) slot good)

/-! ### Stationary firing (R620, R621) -/

/-- Stationary firing starts with STATIONARY_FIRE as it is. -/
def Mach.startStationary (m : Mach) : Mach :=
  { m with sys := { m.sys with stationary := {
      active := true, ports := m.nat 0x2024 1 0, pattern := m.nat 0x2024 2 0, level := m.nat 0x2024 3 0
      period := m.nat 0x2024 4 0 * 1000, left := if m.nat 0x2024 5 0 = 0 then none else some (m.nat 0x2024 5 0)
      dueAt := m.now, lineNo := 0 } } }

/-- Stationary firing stops. -/
def Mach.stopStationary (m : Mach) : Mach := { m with sys := { m.sys with stationary := { m.sys.stationary with active := false } } }

/-- A write of STATIONARY_START (R621). -/
def Mach.writeStationaryStart (m : Mach) (w : Who) (v : Nat) : Mach :=
  m.guardedNum w 0x2025 0 v (fun m =>
    if v = 0 then m.stopStationary.acceptNum w 0x2025 0 0 1 v
    else if m.sys.mode != .prime && m.sys.mode != .service then m.reply w 0x2025 0 .modeLocked
    else if (setBits (m.nat 0x2024 1 0) 64).any (fun p => decide (m.nat 0x2024 4 0 * 1000 < m.tMin p 0)) then m.reply w 0x2025 0 .outOfRange
    else m.startStationary.acceptNum w 0x2025 0 0 1 v)

/-- STATIONARY_START. -/
def execStationaryStart (dt sid v : Nat) (s : State) : Res := s.act dt (fun m => m.writeStationaryStart (.host sid) v)

/-- The level of each entry of a port's payload on a stationary line: every nozzle covered and not MASKED, or those of the
line's phase; under the level cap 3 is sent as 2. -/
def Mach.stationaryLevels (m : Mach) (p line : Nat) : List Nat :=
  let st := m.sys.stationary
  let map := m.rsBlob 0x7101 0 (barOf p) noLine
  (m.slotsOn p).flatMap (fun v => (List.range (slotNozzles v)).map (fun h =>
    let n := 12288 * (p % 8) + slotPos v h
    let on := stateOf map n != 3 && (st.pattern = 0 || n % 16 = line % 16)
    if on then (if (m.port p).fire.tempCap && st.level = 3 then 2 else st.level) else 0))

/-- A port takes part in a stationary line, unless a stop holds it back (R207, R675): its LINE and its FIRE are queued, the
fire time 20 us after. T_gap and the latch deadline hold as in printing (R234, R240); no frame is marked (R621). -/
def Mach.stationaryPort (m : Mach) (p e : Nat) : Mach :=
  if !(m.linkUp p && m.portUsed p) then m
  else if m.heldBack p then
    (if (m.stops p).contains 0 then m.fireCount p 6 1 else m).onFire p (fun f => { f with firing := false, overspeed := false })
  else
    let t := m.linkTime + 20000
    let gen := m.genOf p e
    let l : LineRec := { event := e, gen := gen, doneAt := 0, resent := false, lost := false }
    let m1 := (m.onFire p (fun f => { f with lines := f.lines.filter (fun x => decide (e ≤ x.event + 16)) ++ [l] })).sendFrame
      p (.line (padTo 4 (packLevels (m.stationaryLevels p e)))) (some e) gen false false
    let tooSoon := match (m.port p).fire.lastFired with | some t0 => decide (t < t0 + m.tGap p e) | none => false
    if tooSoon then
      ((((m1.recordAt 0x0503 p m.enc.lineRate e).fireCount p 3 1).sendFire p e t true)).onFire p (fun f => { f with overspeed := true })
    else if m1.lineInTime p e (t - m1.tLatch p) then m1.sendFire p e t false
    else (((m1.recordAt 0x0501 p e e).fireCount p 2 1).onFire p (fun f => { f with excused := f.excused ++ [e] })).sendFire p e t true

/-- STATIONARY_LINE: the next line is a new event at every port that takes part (R621). -/
def Mach.stationaryLine (m : Mach) : Mach :=
  let st := m.sys.stationary
  if st.active && (m.sys.mode = .prime || m.sys.mode = .service) && (m.pair.role = 0 || m.pair.role = 1)
      && decide (st.dueAt ≤ m.now) && st.left != some 0 then
    let e := m.sys.nNext
    let m1 := forEach (setBits st.ports 64) m (fun p acc => acc.stationaryPort p e)
    let left := st.left.map (fun n => n - 1)
    { m1 with sys := { m1.sys with
        nNext := e + 1
        stationary := { st with dueAt := m.now + st.period, left := left, lineNo := st.lineNo + 1, active := left != some 0 } } }
  else m

/-- STATIONARY_LINE. -/
def execStationaryLine (dt : Nat) (s : State) : Res := s.act dt (fun m => m.stationaryLine)

/-! ### Entering modes (R187, R613 to R622, R675) -/

/-- The module enters IDLE: what lasts until the next return to IDLE ends (R457), Yarrow is told (R471), and ports go to
sleep where LINK_SLEEP says so (R187). -/
def Mach.toIdle (m : Mach) : Mach :=
  let m1 := (m.stopStationary).setMode .idle
  let m2 := (m1.withStops (fun x => { x with gate := { x.gate with coldInhibit := false } })).pairFlag 1 false
  let m3 := (m2.onPair (fun p => { p with declaredAt := none })).toYarrow 4 []
  if m3.sleeps then m3.sleepPorts else m3

/-- A mode that fires is entered: the stop of the modes that do not fire ends (R619). -/
def Mach.mayFire (m : Mach) : Mach := m.withStops (fun x => { x with gate := { x.gate with modeStop := false } })

/-- The mark of frame 0 is due where L7 prints Yarrow's marks (R500). -/
def Mach.armMark (m : Mach) : Mach :=
  if m.jobInEffect 0x5010 1 7 != 0 && m.jobInEffect 0x5010 13 7 = 0 then m.markDue (m.jobInEffect 0x5001 1 0) 0 else m

/-- The origin's source is taken at entry to ARMED (R45). -/
def Mach.armAt (m : Mach) (source : Nat) : Mach :=
  let m1 := { m with enc := { m.enc with armed := true, armSource := source } }
  if source = 0 then m1.captureOrigin.capturedJoin else m1

/-- The module enters ARMED (R45, R500): the origin is captured at once, or at its source. -/
def Mach.enterArmed (m : Mach) : Mach := Mach.armAt (((m.wakePorts.mayFire).setMode .armed).armMark) (m.nat 0x2111 0 0)

/-- What a change of mode does, by request or by a MODE record. -/
def Mach.applyMode (m : Mach) (target : Mode) (line : Nat) : Mach :=
  match target with
  | .idle =>
    if m.printing then
      ((m.withStops (fun x => { x with
        gate := { x.gate with modeStop := true }, sys := { x.sys with holdRequested := false } })).leaveRun 1).toIdle
    else m.toIdle
  | .prime => ((m.wakePorts.mayFire).setMode .prime).startStationary
  | .service => (m.wakePorts.mayFire).setMode .service
  | .calibrate => (m.wakePorts).setMode .calibrate
  | .verify => ((m.wakePorts).withStops (fun x => { x with gate := { x.gate with modeStop := true } })).setMode .verify
  | .armed => Mach.enterArmed { m with sys := { m.sys with nNext := line } }
  | .hold => (m.withStops (fun x => { x with sys := { x.sys with holdRequested := true } })).setMode .hold
  | .print =>
    let m1 := m.withStops (fun x => { x with sys := { x.sys with holdRequested := false } })
    if m1.enc.speedState = 2 then m1.setMode .print else m1
  | _ => m

/-- A request for ARMED is refused with OUT_OF_RANGE (R91, R148, R175, R219, R432, R614, R617). -/
def Mach.armRefused (m : Mach) : Bool :=
  let used := allPorts.filter m.portUsed
  let cams := allCams.filter m.camEnabled
  let offset := maxOf 0 (cams.map (fun c => m.nat 0x6004 1 c))
  let zeroRow := fun k => (portsOf k).any (fun p => (m.slotsOn p).any (fun v => (List.range (slotRows v)).any (fun r => slotRowLines v r = 0)))
  (List.range 7).any (fun k => decide (m.barOffset (k + 1) < m.barOffset k))
    || decide (m.ringDepth (m.jobInEffect 0x5001 4 0) < m.barOffset 7 + offset + 16384)
    || allBars.any (fun k => (portsOf k).any m.portUsed && !zeroRow k)
    || allPorts.any (fun p => m.linkUp p && (m.port p).tx.mismatch)
    || m.pair.role = 5 || bit m.pair.flags 2
    || m.jobInEffect 0x5001 1 0 = 0
    || used.any (fun p => !m.linkUp p && (m.port p).link.phase != .sleep)
    || (m.paired && (List.range 16).any (fun n => m.psoMode n != 0 && bit m.sys.psoSafe n != bit (m.psoCfg n) 2))
    || decide (0x0000FFFF00000000 < m.sys.nNext)

/-- The cause of SAFE has cleared (R626, R651). -/
def Mach.safeCleared (m : Mach) : Bool :=
  !m.cpu.dbg.halt && (match m.sys.safeCause with
    | 3 => (List.range 8).all (fun c => match (m.channel c).temp with
        | some t => decide (t + 50 ≤ m.num 0x8003 0 0)
        | none => true)
    | 4 => !bit m.mem.quarantine 16 && !bit m.mem.quarantine 17
    | 5 => m.power.conditions = 0
    | 6 => true
    | _ => false)

/-- A port is enumerated anew (R219, R626). -/
def Mach.enumerate (m : Mach) (p : Nat) : Mach :=
  (m.onTx p (fun t => { t with enumerated := false })).cfgAdd p
    ((0, none, none) :: m.slotEntries p ++ m.firingEntries p)

/-- The module leaves SAFE through ASSEMBLE (R626). -/
def Mach.leaveSafe (m : Mach) : Mach :=
  let m1 := m.record 0x0E03 m.sys.safeCause ((m.linkTime - m.sys.enteredAt) / 1000000)
  let paired := bit m.pair.cfg 0
  let m2 := Mach.setMode { m1 with sys := { m1.sys with
    safeCause := 0, safeUnit := 0, faultN := false, yielded := false, leavingSafe := true, group := 8, step := if paired then 8 else 10 } } .assemble
  let m3 := if paired then m2.onPair (fun p => { p with
      role := 5, yielded := false, yieldedAt := none, heardBind := false, heardHare := false, secondWait := false, discoveryAt := m.now, resync := 0 }) else m2
  let m4 := forEach allPorts m3 (fun p acc =>
    if acc.linkUp p then acc.enumerate p else (acc.onLink p (fun l => { l with failures := 0 })).startTraining p)
  forEach allCams m4 (fun c acc => acc.camRestart c)

/-! ### Start-up reaches IDLE (R626 to R628) -/

/-- A port has come up and been enumerated, or stays DOWN after three attempts. -/
def Mach.portSettled (m : Mach) (p : Nat) : Bool :=
  let x := m.port p
  (x.link.phase = .active && x.tx.enumerated && x.tx.cfgQueue.isEmpty) || (x.link.phase = .down && decide (3 ≤ x.link.failures))

/-- Start-up ends (R628, R634): its time, and the confirmation of a slot that needs no trial. -/
def Mach.startupDone (m : Mach) : Mach :=
  let ms := (m.now - m.sys.powerGoodAt) / 1000000
  let down := (allPorts.filter (fun p => (m.port p).link.phase = .down)).length
  let m1 := Mach.record { m with sys := { m.sys with startupMs := min 65535 ms } } 0x0E04 ms down
  let m2 := if m.sys.powerGoodAt + 800000000 < m.now then m1.record 0x0E05 14 ms else m1
  if m2.sys.confirmDue && m2.sys.running = m2.sys.bootNext then m2.confirmSlot else m2

/-- ASSEMBLE ends when every camera and every port has settled and roles are taken. -/
def Mach.tryReady (m : Mach) : Mach :=
  if m.sys.mode = .assemble && decide (10 ≤ m.sys.step) && m.sys.group = 8 && allPorts.all m.portSettled
      && allCams.all (fun c => !m.camEnabled c || decide (2 ≤ (m.cam c).phase)) then
    if m.sys.running = 2 then (Mach.enterSafe { m with sys := { m.sys with leavingSafe := false, step := 14 } } 7 0)
    else
      let started := !m.sys.leavingSafe
      let m1 := { m with sys := { m.sys with leavingSafe := false, step := 14 } }
      let m2 := m1.loadBaselines
      let m3 := if started then m2.autostart else m2
      if started then m3.toIdle.startupDone else m3.toIdle
  else m

/-- TIME_SYNC_TIMER (R192); a camera start that ended with a pause of its script lets start-up go on. -/
def execTimeSyncTimer (dt : Nat) (s : State) : Res := s.actUser dt (fun m => (m.timeSync).tryReady)

/-- TRAIN_TIMEOUT (R189, R627). -/
def execTrainTimeout (dt port : Nat) (s : State) : Res :=
  if port < 64 then s.actUser dt (fun m => (m.trainTimeout port).tryReady) else .fault (.noSuchUnit "port" port)

/-- CAM_BUS_TRANSFER_DONE (R260, R627). -/
def execCamBusTransferDone (dt cam : Nat) (acked : Bool) (s : State) : Res :=
  if cam < 4 then s.actUser dt (fun m => (m.camBusTransfer cam acked).tryReady) else .fault (.noSuchUnit "camera" cam)

/-- A changed serial that an enumeration finds while the module prints (R328). -/
def Mach.serialsChanged (m old : Mach) (p : Nat) : Mach :=
  if !m.printing then m
  else
    let now_ := (m.port p).tx.slotSerials
    let before := (old.port p).tx.slotSerials
    ((List.range 8).filter (fun s => slotOn (m.slot p s) && nth now_ s [] != nth before s [])).foldl (fun acc s => acc.slotChanged p s) m

/-- CFG_REPLY_RECEIVED (R219, R328, R627). -/
def Mach.cfgReplyReceived (m : Mach) (p seq : Nat) (write : Bool) (addr result : Nat) (data : Bytes) : Mach :=
  if m.linkUp p then (((m.received p seq).cfgReply p write addr result data).serialsChanged m p).tryReady else m

/-- CFG_REPLY_RECEIVED. -/
def execCfgReplyReceived (dt port seq : Nat) (write : Bool) (addr result : Nat) (data : Bytes) (s : State) : Res :=
  if port < 64 then s.actUser dt (fun m => m.cfgReplyReceived port seq write addr result data) else .fault (.noSuchUnit "port" port)

/-! ### Mode requests (R576, R613 to R626) -/

/-- The levels that may request a target from a mode (R576), as in WRITE_LEVELS. -/
def modeLevels (mode target : Mode) : Nat :=
  if target = .safe then 15
  else if mode = .verify then 14
  else if mode = .safe then 10
  else match target with
    | .calibrate | .service | .reset => 10
    | .verify => 4
    | .boot | .assemble => 15
    | _ => 11

/-- The targets by request from a mode (R613). -/
def modeTargets : Mode → List Mode
  | .idle => [.prime, .armed, .calibrate, .service, .verify, .reset, .safe]
  | .prime | .calibrate | .service => [.idle, .reset, .safe]
  | .armed => [.idle, .safe]
  | .print => [.hold, .idle, .safe]
  | .hold => [.print, .idle, .safe]
  | .verify => [.idle, .safe]
  | .safe => [.idle, .reset]
  | _ => []

/-- The module sends the mode to the standby, takes it, and answers (R443, R576). -/
def Mach.changeMode (m : Mach) (w : Who) (target : Mode) (line : Nat) : Mach :=
  ((m.sendVerdict (.mode target line)).applyMode target line).reply w 0x1011 0 .ok

/-- An accepted request. Out of IDLE every one wakes the ports that sleep (R187); the claims are queued as the mode is taken
(log entry 84). -/
def Mach.takeMode (m : Mach) (w : Who) (target : Mode) : Mach :=
  match target with
  | .safe => ((if m.sys.mode = .idle then m.wakePorts else m).enterSafe 6 0).reply w 0x1011 0 .ok
  | .reset => (((((if m.sys.mode = .idle then m.wakePorts else m)).reply w 0x1011 0 .ok).flushRecorder).finishWrites).mainReset
  | .armed =>
    if m.armRefused then m.reply w 0x1011 0 .outOfRange
    else if m.enc.fault then m.reply w 0x1011 0 .notReady
    else m.changeMode w .armed m.sys.nNext
  | .idle =>
    if m.sys.mode = .safe then
      if m.safeCleared then (m.reply w 0x1011 0 .ok).leaveSafe else m.reply w 0x1011 0 .notReady
    else m.changeMode w .idle m.webLine
  | t => m.changeMode w t m.webLine

/-- A write of MODE_REQUEST: checks in the order of R558, with R613's refusals. -/
def Mach.writeMode (m : Mach) (w : Who) (target : Mode) : Mach :=
  let say := fun st => m.reply w 0x1011 0 st
  let mode := m.sys.mode
  if !m.answers w then m
  else if m.pairRefuses w 0x1011 || !levelHas (m.level w) (modeLevels mode target) then say .accessDenied
  else if mode = .boot || mode = .assemble then say (if m.sys.leavingSafe then .busy else .modeLocked)
  else if target != mode && !(modeTargets mode).contains target then say .outOfRange
  else if m.power.failAt.isSome then say .busy
  else if target = mode then say .ok
  else m.takeMode w target

/-- MODE_REQUEST_IDLE (R619, R626). -/
def execModeRequestIdle (dt sid : Nat) (s : State) : Res := s.act dt (fun m => m.writeMode (.host sid) .idle)

/-- MODE_REQUEST_PRIME (R621). -/
def execModeRequestPrime (dt sid : Nat) (s : State) : Res := s.act dt (fun m => m.writeMode (.host sid) .prime)

/-- MODE_REQUEST_ARMED (R614). -/
def execModeRequestArmed (dt sid : Nat) (s : State) : Res := s.act dt (fun m => m.writeMode (.host sid) .armed)

/-- MODE_REQUEST_PRINT (R618). -/
def execModeRequestPrint (dt sid : Nat) (s : State) : Res := s.act dt (fun m => m.writeMode (.host sid) .print)

/-- MODE_REQUEST_HOLD (R618). -/
def execModeRequestHold (dt sid : Nat) (s : State) : Res := s.act dt (fun m => m.writeMode (.host sid) .hold)

/-- MODE_REQUEST_CALIBRATE (R613). -/
def execModeRequestCalibrate (dt sid : Nat) (s : State) : Res := s.act dt (fun m => m.writeMode (.host sid) .calibrate)

/-- MODE_REQUEST_SERVICE (R613). -/
def execModeRequestService (dt sid : Nat) (s : State) : Res := s.act dt (fun m => m.writeMode (.host sid) .service)

/-- MODE_REQUEST_VERIFY (R622). -/
def execModeRequestVerify (dt sid : Nat) (s : State) : Res := s.act dt (fun m => m.writeMode (.host sid) .verify)

/-- MODE_REQUEST_RESET (R629). -/
def execModeRequestReset (dt sid : Nat) (s : State) : Res := s.act dt (fun m => m.writeMode (.host sid) .reset)

/-- MODE_REQUEST_SAFE (R624). -/
def execModeRequestSafe (dt sid : Nat) (s : State) : Res := s.act dt (fun m => m.writeMode (.host sid) .safe)

/-! ### Start-up (R627, R629) -/

/-- POWER_GOOD (R645): the main die starts; Yarrow, unless it kept running, starts its self-test. -/
def Mach.starts (m : Mach) : Mach :=
  let m1 := if m.yarrow.up then m else { m with yarrow := { m.yarrow with up := true, ready := false } }
  Mach.boot { m1 with power := { m1.power with rails := 0x1FF } }

/-- POWER_GOOD. -/
def execPowerGood (dt : Nat) (s : State) : Res :=
  s.act dt (fun m => if m.sys.mode = .reset && m.power.alwaysOn && !m.power.held && m.power.tripped.isNone && m.power.failAt.isNone then m.starts else m)

/-- RESET_RELEASE (R629): the main die starts again from BOOT. -/
def execResetRelease (dt : Nat) (s : State) : Res :=
  s.act dt (fun m => if m.sys.mode = .reset && m.power.alwaysOn && !m.power.held && m.power.tripped.isNone && m.power.failAt.isNone then m.starts else m)

/-- FW_VERIFY_DONE (R627 step 4): the engines start, and so read RUNNING before BOOT ends (R420 gives RESET as what
ENGINE_STATE holds at reset; log entry 39). -/
def execFwVerifyDone (dt : Nat) (s : State) : Res :=
  s.act dt (fun m =>
    if m.sys.mode = .boot && m.sys.step = 2 then
      forEach (List.range 13) { m with sys := { m.sys with step := 4 } } (fun n acc => acc.onEngine n (fun e => { e with state := 1 }))
    else m)

/-- DRAM_TRAINING_DONE (R627 step 5). -/
def execDramTrainingDone (dt : Nat) (s : State) : Res :=
  s.act dt (fun m => if m.sys.mode = .boot && m.sys.step = 4 then { m with sys := { m.sys with step := 5 } } else m)

/-- The end of BOOT: what the store gives, ranks of requesters, PAIR_CONFIG, time, and the supply's extremes (R392, R431, R512,
R522, R653). -/
def Mach.endBoot (m : Mach) : Mach :=
  let m1 := forEach (List.range 23) m (fun q acc => acc.onRequester q (fun r => { r with rank := bits (m.arbReq q) 0 4 }))
  let quality := fun (d : Nat) => if m.tdOn d then 0 else 4
  let sel := m.nat 0xD030 0 0 % 2
  { m1 with
    mem := { m1.mem with mapInEffect := bits (m.nat 0x8001 0 0) 0 2 }
    time := { m1.time with tdA := { quality := quality 0 }, tdB := { quality := quality 1 }, sel := sel }
    power := { m1.power with vinMin := m1.power.vin, vinMax := m1.power.vin, tjMax := m1.power.tjMain }
    pair := { m1.pair with cfg := m.nat 0xA001 0 0 }
    sys := { m1.sys with step := 6, group := 0, groupDue := m.now } }

/-- STORE_LOAD_DONE (R183, R607, R627 step 6): BOOT ends, the REFOUT outputs follow REF_CONFIG, ASSEMBLE begins, the cameras start, and pair discovery begins where
PAIR_EN is set. -/
def Mach.storeLoaded (m : Mach) (bad : List (Nat × Nat × Nat)) (missing : Nat) : Mach :=
  if m.sys.mode = .boot && m.sys.step = 5 then
    let m0 := ((m.loadStore bad missing).endBoot).setMode .assemble
    let m1 := m0.emit (.refOut m0.refOutputs)
    let m2 := if bit m1.pair.cfg 0 then
        m1.onPair (fun p => { p with role := 5, discoveryAt := m.now, heardBind := false, heardHare := false, lastBind := m.now, lastHare := m.now })
      else m1
    forEach allCams m2 (fun c acc => acc.camRestart c)
  else m

/-- STORE_LOAD_DONE. -/
def execStoreLoadDone (dt : Nat) (bad : List (Nat × Nat × Nat)) (missing : Nat) (s : State) : Res :=
  s.act dt (fun m => m.storeLoaded bad missing)

/-- The next group of eight ports begins to train, 5 ms after the one before (R627 steps 10 and 11). -/
def Mach.trainGroup (m : Mach) : Mach :=
  let g := m.sys.group
  let m1 := forEach (portsOf g) m (fun p acc => acc.startTraining p)
  { m1 with sys := { m1.sys with group := g + 1, groupDue := m.now + 5000000, step := max 10 m1.sys.step } }

/-- PORT_GROUP_TRAIN: the stagger has passed; a single module begins with group 0 of its own. -/
def execPortGroupTrain (dt : Nat) (s : State) : Res :=
  s.act dt (fun m =>
    if m.sys.mode = .assemble && decide (m.sys.group < 8) && decide (m.sys.groupDue ≤ m.now)
        && (decide (10 ≤ m.sys.step) || (m.sys.step = 6 && m.pair.role = 0)) then m.trainGroup else m)

end Sys2Proof.Machine
end

