-- ==== Sys2Proof/Machine/Power.lean ====
section
/-! DEFINITION. Supply and temperatures (chapter 20), and RESET_N (R629). -/

namespace Sys2Proof.Machine

/-- Change the supply's state. -/
def Mach.onPower (m : Mach) (f : Power → Power) : Mach := { m with power := f m.power }

/-- A reading of VIN, with its extremes since BOOT ended (R653). -/
def Mach.readVin (m : Mach) (vin : Nat) : Mach :=
  m.onPower (fun p => { p with vin := vin, vinMin := min p.vinMin vin, vinMax := max p.vinMax vin })

/-- The higher of two readings. -/
def hotter (a b : Option Int) : Option Int :=
  match a, b with
  | none, x => x
  | x, none => x
  | some x, some y => some (max x y)

/-- A reading is at or above a level. -/
def atLeast (t : Option Int) (level : Int) : Bool := match t with | some x => decide (level ≤ x) | none => false

/-- Condition row r of R651 holds: it is recorded, and the module enters SAFE. -/
def Mach.thermalSafe (m : Mach) (r value : Nat) : Mach :=
  if bit m.power.conditions r || m.sys.mode = .reset then m
  else ((m.onPower (fun p => { p with conditions := setBit p.conditions r true })).record 0x0E25 r value).enterSafe 5 0

/-- Condition row r has returned below its clear level (R651). -/
def Mach.thermalClear (m : Mach) (r : Nat) : Mach := m.onPower (fun p => { p with conditions := setBit p.conditions r false })

/-- A temperature condition of R651 against its levels. -/
def Mach.judgeRow (m : Mach) (r : Nat) (t : Option Int) (enter leave : Int) : Mach :=
  if atLeast t enter then m.thermalSafe r (p32 (t.getD 0)) else if atLeast t leave then m else m.thermalClear r

/-- A warning of R655 with its flag: it clears 5 K below its threshold. Flag 2 is the Yarrow junction's. -/
def Mach.judgeWarn (m : Mach) (flag code p0 : Nat) (t : Option Int) (limit : Int) : Mach :=
  if !bit m.power.flags flag && atLeast t limit then
    (m.onPower (fun p => { p with flags := setBit p.flags flag true })).record code p0 (p32 (t.getD 0))
  else if bit m.power.flags flag && !atLeast t (limit - 49) then m.onPower (fun p => { p with flags := setBit p.flags flag false })
  else m

/-- Steps 1 to 4 of R647: every port stops, Yarrow saves, and the recorder flushes. What was being written to the store keeps
its older generation (R595). -/
def Mach.failSequence (m : Mach) : Mach :=
  let m0 := m.withStops (fun x => x.onPower (fun p => { p with failAt := some x.now }))
  let m1 := { m0 with store := { m0.store with writes := [] } }
  (if m1.yarrowAnswers then m1.saveTotals true else m1).flushRecorder

/-- A thermal trip (R652): the sequence runs, and the main die stays in reset after it. -/
def Mach.trip (m : Mach) (who : Nat) (t : Int) : Mach :=
  if m.power.failAt.isSome || m.power.tripped.isSome || m.sys.mode = .reset then m
  else (m.onPower (fun p => { p with tripped := some (who, t), belowSince := none })).failSequence

/-- Whether a thermal trip's temperatures are below their clear levels, and since when (R652). -/
def Mach.coolSince (m : Mach) (main dcdc : Option Int) : Mach :=
  m.onPower (fun p => { p with
    belowSince := if p.tripped.isNone || atLeast main 1400 || atLeast dcdc 1150 then none else some (p.belowSince.getD m.now) })

/-- Ports whose last measurement lies 10 K away fall due (R604). -/
def Mach.driftDue (m : Mach) (main : Option Int) : Mach :=
  match main with
  | none => m
  | some t => (forEach allPorts m (fun p acc => if 100 ≤ (t - (acc.port p).link.temp).natAbs then acc.portDue p else acc)).nextMeasure

/-- JUNCTION_TEMP_READ (R604, R651, R652, R655): the sensors and the supply are read. -/
def Mach.junctionRead (m : Mach) (main yarrow dcdc : Option Int) (vin iin pin : Nat) : Mach :=
  if !m.power.alwaysOn then m
  else
    let m1 := ((m.onPower (fun p => { p with
      tjMain := main, tjYarrow := yarrow, dcdc := dcdc, tjMax := hotter p.tjMax main, iin := iin, pin := pin })).readVin vin).coolSince main dcdc
    if m1.sys.mode = .reset then m1
    else
      let m2 := ((m1.driftDue main).judgeWarn 0 0x0E23 0 main (m.num 0xF012 1 0)).judgeWarn 2 0x0E23 1 yarrow (m.num 0xF012 1 0)
      let m3 := m2.judgeWarn 1 0x0E24 0 dcdc (m.num 0xF012 2 0)
      let m4 := (m3.judgeRow 0 (hotter main yarrow) 1500 1400).judgeRow 1 dcdc 1250 1150
      let m5 := if vin < 7500 then m4.thermalClear 2 else m4
      if atLeast main 1600 then m5.trip 0 (main.getD 0) else if atLeast dcdc 1350 then m5.trip 1 (dcdc.getD 0) else m5

/-- JUNCTION_TEMP_READ. -/
def execJunctionTempRead (dt : Nat) (main yarrow dcdc : Option Int) (vin iin pin : Nat) (s : State) : Res :=
  s.act dt (fun m => m.junctionRead main yarrow dcdc vin iin pin)

/-- A thermal trip's reset may be released (R652). -/
def Power.cool (p : Power) (now : Nat) : Bool :=
  p.tripped.isNone || (match p.belowSince with | some t => decide (t + 1000000000 ≤ now) | none => false)

/-- THERMAL_TRIP_RELEASE (R652). -/
def execThermalTripRelease (dt : Nat) (s : State) : Res :=
  s.act dt (fun m =>
    if m.sys.mode = .reset && m.power.tripped.isSome && m.power.failAt.isNone && !m.power.held && m.power.cool m.now then m.starts else m)

/-- VIN_HIGH (R651): above 78 V for 10 ms. -/
def execVinHigh (dt vin : Nat) (s : State) : Res :=
  s.act dt (fun m => if m.power.alwaysOn && decide (7800 < vin) then (m.readVin vin).thermalSafe 2 vin else m)

/-- RAIL_FAULT (R651): the monitor's view of the rails; all in regulation ends the condition. -/
def Mach.railFault (m : Mach) (rails : Nat) : Mach :=
  if !m.power.alwaysOn || m.power.failAt.isSome || m.sys.mode = .reset then m
  else
    let r := bits rails 0 9
    let m1 := m.onPower (fun p => { p with rails := r })
    if r = 0x1FF then m1.thermalClear 3
    else if bit m.power.conditions 3 then m1
    else (m1.record 0x0E22 r 0).thermalSafe 3 0

/-- RAIL_FAULT. -/
def execRailFault (dt rails : Nat) (s : State) : Res := s.act dt (fun m => m.railFault rails)

/-- POWER_FAIL (R646, R647): accepted; one sequence runs at a time. -/
def Mach.powerFail (m : Mach) (source vin : Nat) : Mach :=
  if !m.power.alwaysOn || m.power.held then m
  else
    let m1 := (m.readVin vin).onPower (fun p => { p with held := true, fails := satAdd 0xFFFFFFFF p.fails 1 })
    if m1.power.failAt.isSome then m1 else (m1.record 0x0E20 source vin).failSequence

/-- POWER_FAIL. -/
def execPowerFail (dt source vin : Nat) (s : State) : Res := s.act dt (fun m => m.powerFail source vin)

/-- POWER_FAIL_HOLD_END (R647 step 5): the main die is held in reset. -/
def execPowerFailHoldEnd (dt : Nat) (s : State) : Res :=
  s.act dt (fun m => match m.power.failAt with
    | some t => if t + 2000000 ≤ m.now then Mach.onPower m.mainReset (fun p => { p with failAt := none }) else m
    | none => m)

/-- POWER_RESTORED (R648): VIN and PWR_FAIL_N have stayed good for 100 ms. -/
def execPowerRestored (dt : Nat) (s : State) : Res :=
  s.act dt (fun m =>
    if m.power.held && m.power.failAt.isNone && m.sys.mode = .reset then
      let m1 := m.onPower (fun p => { p with held := false })
      if m1.power.cool m1.now then m1.starts else m1
    else m)

/-- What Yarrow keeps without its supply (R466). -/
def Yarrow.unpowered (y : Yarrow) : Yarrow :=
  { y with
    up := false, ready := false, restarting := false, count := 0, highest := 0, illegalTimes := [], openP := [], openX := []
    pend := 0, nonce := none, lastBlock := [], expect := none, buffer := [], tick := {}, run := none, temps := [], requested := false
    pendingReport := none, answerAt := 0, dropSeq := 0, markFrame := none }

/-- VIN_BROWNOUT (R643, R647 step 6): every part of the module is off. -/
def Mach.brownout (m : Mach) : Mach :=
  let m1 := m.mainReset
  { m1 with
    sys := { m1.sys with otpRead := false }, cpu := {}, yarrow := m.yarrow.unpowered, power := { fails := m.power.fails } }

/-- VIN_BROWNOUT. -/
def execVinBrownout (dt : Nat) (s : State) : Res := s.act dt (fun m => m.brownout)

/-- VIN_START_THRESHOLD (R645): the always-on domain starts. -/
def execVinStartThreshold (dt vin : Nat) (s : State) : Res :=
  s.act dt (fun m => if m.power.alwaysOn then m else m.onPower (fun p => { p with alwaysOn := true, repeater := true, rails := 0x100, vin := vin }))

/-- VIN_OUT_OF_RANGE (R673). -/
def execVinOutOfRange (dt side vin : Nat) (s : State) : Res :=
  s.act dt (fun m => if m.power.alwaysOn && m.power.failAt.isNone then (m.readVin vin).record 0x0E21 side vin else m)

/-- RESET_N (R629, R646): the main die is reset; during a power failure's sequence only its end does so. -/
def execResetN (dt : Nat) (s : State) : Res :=
  s.act dt (fun m => if m.sys.mode = .reset || m.power.failAt.isSome then m else m.mainReset)

end Sys2Proof.Machine
end

