-- ==== Sys2Proof/Machine/Flags.lean ====
section
/-! DEFINITION. What every status object, flag word and counter reads as: each is computed from the state (chapters 01
to 20). -/

namespace Sys2Proof.Machine

/-- Numbers as the fields of an object, in order of sub-index. -/
def nums (l : List Int) : List Val := l.map Val.num

/-- Natural numbers as fields. -/
def nats (l : List Nat) : List Val := l.map (fun (n : Nat) => Val.num n)

/-- The first n counters of a map, from key 1. -/
def counted (l : FMap Nat) (n : Nat) : List Val := nats ((List.range n).map (fun i => fget l (i + 1) 0))

/-- A temperature as an I16: 0x8000 for no reading. -/
def asTemp (t : Option Int) : Int := t.getD (-32768)

/-- The low 16 bits of an integer. -/
def u16 (i : Int) : Nat := ofInt 16 i

/-! ### Seams, modes, position and gating -/

/-- The line before the next one of a bar; all ones before its first (log entry 9). -/
def Mach.frontier (m : Mach) (next : Nat) : Nat := if m.enc.firstLine < next then next - 1 else noLine

/-- SEAM_STATUS (R84) of the seam that who asks has selected. -/
def Mach.seamStatusOf (m : Mach) (id : Nat) : List Val :=
  match m.seamEntry id with
  | none => nats [0, 0, 0, 0, 0, 0, 0, 0, 0, 0]
  | some x => nats [x.state, x.outcome, x.target, x.applied.getD noLine, x.slip, x.composed, x.fired, x.time, x.scope, x.squashed]

/-- SEAM_LIST (R578). -/
def Mach.seamList (m : Mach) : Bytes :=
  m.seams.table.flatMap (fun x => leBytes 2 x.id ++ leBytes 1 x.state ++ leBytes 1 x.outcome)

/-- ENC_P_STATUS (R42). -/
def Mach.encStatus (m : Mach) : Nat :=
  m.enc.illegalTotal * 65536 + min 255 m.illegalNow * 256 + m.enc.faultCause * 64 + b2n m.enc.indexSeen * 16
    + b2n (!m.enc.openLines.isEmpty) * 8 + b2n m.enc.fault * 4 + b2n m.enc.dirNoticed * 2 + b2n m.enc.dirDown

/-- SPEED_EST (R64). -/
def Mach.speedEst (m : Mach) : List Val :=
  nums [(m.enc.speedState : Nat), clampI (-2147483648) 2147483647 m.enc.speed, clampI (-2147483648) 2147483647 m.enc.accel,
    (min 0xFFFFFFFF m.enc.lineRate : Nat), (min 65535 m.enc.events : Nat)]

/-- FW_SLOTS (R633): a slot that does not verify reads version 0. -/
def Mach.fwSlots (m : Mach) : List Val :=
  let ok := fun i => (m.sys.slotCheck i).isNone
  let v := fun i => if ok i then m.sys.slotVersion i else 0
  let sec := fun i => if ok i then m.sys.slotSec i else 0
  nats [m.sys.running, m.sys.confirmed, b2n m.sys.trial, v 0, v 1, v 2, sec 0, sec 1]

/-- Objects 0x1000 to 0x1FFF and 0x2000 to 0x2FFF. -/
def Mach.status12 (m : Mach) (w : Who) (idx : Nat) : Option (List Val) :=
  if idx = 0x1001 then some (nats [8, 64, 16, 32, 4, 1200])
  else if idx = 0x1008 then some [.blob (ascii "Losum Tirquerex")]
  else if idx = 0x100A then some (nats [m.sys.slotVersion m.sys.running])
  else if idx = 0x1010 then some (nats [m.sys.mode.code])
  else if idx = 0x1012 then some (nats [m.pair.role])
  else if idx = 0x1018 then some [.blob ((List.range 16).map (fun i => byteOf (0x20 + (Config.otpByte (64 + i)).toNat % 95)))]
  else if idx = 0x1202 then some [.blob ((List.range 64).map Config.otpByte)]
  else if idx = 0x1221 then some (nats [(m.hy.sessions.filter (fun x => x.2.authed)).length])
  else if idx = 0x1222 then some (counted m.hy.counters 6)
  else if idx = 0x2001 then some (m.seamStatusOf (m.locals w).seamSel)
  else if idx = 0x2004 then some [.blob m.seamList]
  else if idx = 0x2011 then some (nats [m.horizon])
  else if idx = 0x2012 then some (nats (allBars.map (fun k => m.frontier (m.fireNext k))))
  else if idx = 0x2013 then
    some (nats (allBars.map (fun k => if m.enc.origin.isSome then m.frontier (m.nextToCompose k) else noLine)))
  else if idx = 0x2020 then
    some (nats [m.sys.mode.code, m.sys.previous.code, m.sys.enteredAt, b2n m.sys.holdRequested, m.sys.safeCause, m.sys.lineBase, m.sys.startupMs])
  else if idx = 0x2031 then some m.fwSlots
  else if idx = 0x2101 then some (nats [m.encStatus])
  else if idx = 0x210C then some (nums [m.enc.raw - m.enc.indexBase])
  else if idx = 0x2110 then some (nums [m.enc.raw])
  else if idx = 0x2112 then some (nums [m.enc.origin.getD (-9223372036854775808)])
  else if idx = 0x2113 then some (nats [m.webLine])
  else if idx = 0x2130 then some m.speedEst
  else if idx = 0x2143 then some (nats ((List.range 16).map m.psoFree))
  else if idx = 0x2151 then some (nats [m.gate.latched * 65536 + m.gate.present])
  else none

/-! ### Ports, bars, jobs and cameras -/

/-- STATE of LINK_STATE (R221). -/
def LinkPhase.code : LinkPhase → Nat
  | .down => 0 | .ts1 => 1 | .lock => 2 | .eq => 3 | .config => 4 | .delay => 5 | .active => 6 | .sleep => 7

/-- LINK_STATE (R221). -/
def Mach.linkState (m : Mach) (p : Nat) : Nat :=
  let l := (m.port p).link
  min 255 (l.badTimes.filter (fun t => decide (m.now < t + 1000000000))).length * 65536 + l.eqStep * 4096 + l.holder * 1024
    + b2n l.timeValid * 512 + b2n l.inverted * 256 + l.phase.code

/-- FIRE_STATE (R256). -/
def Mach.fireState (m : Mach) (p : Nat) : Nat :=
  let f := (m.port p).fire
  u16 (asTemp f.tempMax) * 65536 + b2n f.overspeed * 32 + b2n (f.noReading || f.noStatus) * 16 + b2n (m.gateCovers p) * 8 + b2n f.tempStop * 4
    + b2n f.tempCap * 2 + b2n f.firing

/-- The line whose values a bar uses now (R572): the one it composed most recently. -/
def Mach.lineAtBar (m : Mach) (k : Nat) : Nat :=
  if m.enc.origin.isSome then (m.lastComposed k).getD m.enc.firstLine else noLine

/-- Objects 0x3000 to 0x5FFF. -/
def Mach.status35 (m : Mach) (idx inst : Nat) : Option (List Val) :=
  let t := (m.port inst).tx
  let l := (m.port inst).link
  if idx = 0x3011 then some (nats [m.payloadBytes inst])
  else if idx = 0x3021 then some (nats [m.fireRateMax inst])
  else if idx = 0x3026 then some (nats [m.fireState inst])
  else if idx = 0x3027 then some (counted (m.port inst).fire.counters 6)
  else if idx = 0x3040 then some (nats [m.linkState inst])
  else if idx = 0x3042 then some (nums [(l.delay : Nat), (l.spread : Nat), l.temp, (l.measuredAt : Nat)])
  else if idx = 0x3044 then some (counted l.counters 6)
  else if idx = 0x3046 then some (counted t.epInfo 8 ++ [.blob t.epSerial])
  else if idx = 0x3047 then some ((List.range 8).map (fun s => Val.blob (nth t.slotSerials s [])))
  else if idx = 0x3103 then some (nats [maskOf m.activePorts])
  else if idx = 0x3104 then some (nats [m.lineRateCap])
  else if idx = 0x4014 then some (nats [m.barFiredMax inst])
  else if idx = 0x4015 then some (nats [m.stagger inst])
  else if idx = 0x4017 then some (nats [m.composeTime inst])
  else if idx = 0x5002 then some (nats m.comp.demand)
  else if idx = 0x5004 then some (nats [m.jobNow.1, m.jobNow.2.1, m.jobNow.2.2])
  else if idx = 0x5021 then some (nats ((List.range 8).map m.postsFree))
  else if idx = 0x5032 then some (nats [m.ringDepth (m.jobInEffect 0x5001 4 0)])
  else if idx = 0x5039 then some (nats [m.comp.rejectList.length])
  else if idx = 0x5041 then some (nats [m.comp.framesClosed, m.comp.framesReject])
  else none

/-- STA_RING (R291): where the ring lies is the module's choice (log entry 6). -/
def Mach.staRing (m : Mach) (c : Nat) : List Val :=
  let newest := (m.cam c).ring.getLast?
  nats [jobBase (64 + c), m.nat 0x6033 0 c * 1048576, (newest.map (fun e => e.offset)).getD 0, (newest.map (fun e => e.tag.frameNo)).getD 0]

/-- LOOP_STATE STATE (R333). -/
def Mach.loopStateNow (m : Mach) : Nat :=
  let runs := m.printing && m.enc.origin.isSome && allCams.any (fun c => m.camEnabled c && m.nat 0x6010 1 c != 0)
  if m.loop.pausedAt.isSome then 3
  else if runs then (if m.loop.mode = 0 then 0 else 2)
  else if m.nat 0x7001 0 0 = 0 then 0 else 1

/-- LOOP_STATE (R333). -/
def Mach.loopState (m : Mach) : List Val :=
  let l := m.loop
  nats [m.loopStateNow, l.learning, sumOf (allBars.map (fun k => fget l.left k 0 * 2 ^ (4 * k))), b2n l.half + 2 * b2n l.saturated, l.cycles,
    l.lastSeam, l.lastLine]

/-- Objects 0x6000 to 0x7FFF. -/
def Mach.status67 (m : Mach) (idx inst : Nat) : Option (List Val) :=
  let c := m.cam inst
  if idx = 0x601A then
    some (nats [c.expStatus, c.inEffect.setId, (c.pendingSet.map (fun s => s.setId)).getD 0, c.effectFrame.getD 0xFFFFFFFF])
  else if idx = 0x6035 then some (m.staRing inst)
  else if idx = 0x6040 then some [.blob (match c.lastTag with | some t => tagBytes t | none => List.replicate 32 0)]
  else if idx = 0x6043 then some (counted c.counters 9)
  else if idx = 0x7008 then some m.loopState
  else if idx = 0x7009 then some [.blob ((List.range 64).flatMap (fun z => leBytes 2 (nth (fget m.loop.zoneErr inst []) z 0xFFFF)))]
  else if idx = 0x7103 then some (nats (nozzleCounts (m.tables inst (m.lineAtBar inst))))
  else none

/-! ### Memory, coding, engines and the pair -/

/-- MEM_CH_STATE (R382). -/
def Mach.memChState (m : Mach) (c : Nat) : Nat :=
  let x := (m.channel c).paid m.now
  u16 (asTemp x.temp) * 65536 + x.debt * 256 + x.rate

/-- FRC_CONTENT_STATUS (R361). -/
def Mach.contentStatus (m : Mach) : List Val :=
  match m.content (m.nat 0x8102 0 0) with
  | none => nats [0, 0, 0, 0, 0, 0, 0, 0, 0, 0, 0, 0]
  | some c => nats [c.state, c.coding, c.input, c.bars.length, c.nr * c.ns, c.worst, c.refused, c.firstBad, c.failCause, c.streamLen,
      c.remainder, c.buffers.length]

/-- FRC_CONTENT_DIGEST (R362): all zero until the object is READY. -/
def Mach.contentDigest (m : Mach) : Bytes :=
  match m.content (m.nat 0x8102 0 0) with
  | some c => if c.state = 5 && !c.hash.isEmpty then c.hash else List.replicate 32 0
  | none => List.replicate 32 0

/-- FRC_STRIPE_ERRORS (R362) of plane n. -/
def Mach.stripeErrors (m : Mach) (n : Nat) : Bytes :=
  match m.content (m.nat 0x8102 0 0) with
  | some c => (fget c.errors n []).map byteOf
  | none => []

/-- ENGINE_STATE (R420): of E14 and E15 only STATE is reported. -/
def Mach.engineState (m : Mach) (n : Nat) : Nat :=
  if 14 ≤ n then (if m.yarrowAnswers then 1 else 3) * 2 ^ 28 + 0xFF00
  else
    let e := m.engine n
    e.state * 2 ^ 28 + e.cause * 2 ^ 24 + e.resets * 65536 + e.waitSem.getD 255 * 256

/-- ENGINE_WAIT_US (R420). -/
def Mach.engineWait (m : Mach) (n : Nat) : Nat :=
  if (m.engine n).waitSem.isSome then min 0xFFFFFFFF ((m.now - (m.engine n).waitSince) / 1000) else 0

/-- SEM_STATE (R417). -/
def Mach.semState (m : Mach) (s : Nat) : Nat :=
  let x := m.sem s
  x.state * 2 ^ 30 + b2n x.recovering * 2 ^ 29 + x.owner * 2 ^ 24 + x.lastOwner * 2 ^ 20 + x.waiters.length * 65536 + x.leaseLeft m.now

/-- PAIR_STATUS (R460). -/
def Mach.pairStatus (m : Mach) : List Val :=
  let p := m.pair
  let paths := b2n (p.heardBind && !p.bindFailed) + 2 * b2n (p.heardHare && !p.hareFailed)
  nats [p.peerRole, paths, if p.role = 1 then p.verdictNo else p.verdictApplied, p.lastMirror,
    if p.lastMirror = 0 then 0xFFFFFFFF else min 0xFFFFFFFF ((m.now - p.mirrorAt) / 1000), p.flags, p.joinLine.getD noLine, p.lastTakeover.getD noLine]

/-- Objects 0x8000 to 0xAFFF. -/
def Mach.status8A (m : Mach) (idx : Nat) : Option (List Val) :=
  if idx = 0x8002 then some (nats [m.mem.mapInEffect * 256 + m.lostBits + b2n (m.lostBits = 0)])
  else if idx = 0x8004 then some (nats ((List.range 8).map m.memChState))
  else if idx = 0x8007 then some (counted m.mem.counters 7)
  else if idx = 0x8015 then some (nats [m.mem.quarantine])
  else if idx = 0x8017 then some (nats ((List.range 24).map (fun q => if m.classOf q = 3 then 0xFFFF else 0)))
  else if idx = 0x8019 then some (nats ((List.range 24).map (fun q => Config.freeNat (m.free + q) % 2 ^ 32)))
  else if idx = 0x8103 then some m.contentStatus
  else if idx = 0x8104 then some [.blob m.contentDigest]
  else if idx = 0x8105 then some ((List.range 8).map (fun n => Val.blob (m.stripeErrors n)))
  else if idx = 0x8106 then some (counted m.frc.counters 5)
  else if idx = 0x9001 then some (nats ((List.range 16).map m.engineState))
  else if idx = 0x9002 then some (nats ((List.range 16).map m.engineWait))
  else if idx = 0x9010 then some (nats ((List.range 64).map m.semState))
  else if idx = 0x9026 then some [.blob (padTo 32 (if m.cpu.user.digest.isEmpty then List.replicate 32 0 else m.cpu.user.digest))]
  else if idx = 0xA003 then some m.pairStatus
  else if idx = 0xA004 then some (counted m.pair.counters 7)
  else none

/-! ### The recorder, Yarrow, time, store, OTP and supply -/

/-- RECORDER_STATE (R592). -/
def Mach.recorderState (m : Mach) : List Val :=
  let r := m.recorder
  let last := r.lastView
  let fore := r.fore.length + (if r.layout = 1 then r.openRecs.length else 0)
  let full := r.areaFull || (if r.layout = 1 then decide (8192 ≤ fore) else decide (7168 ≤ last.1.length))
  nats [r.layout, r.firstView.length, if r.layout = 1 then min 8192 fore else last.1.length, if r.layout = 1 then 0 else last.2, r.made % 65536, r.lost,
    r.starts, r.openRecs.length, b2n (r.layout = 0 && decide (1024 ≤ r.firstView.length)) + 2 * b2n full + 4 * b2n r.unclean]

/-- An area of n slots: empty slots read as zero (R591). -/
def areaBytes (n : Nat) (l : List Rec) : Bytes := l.flatMap Rec.bytes ++ List.replicate (32 * (n - l.length)) 0

/-- RECORDS_LAST (R591): in ring order. -/
def Mach.lastArea (m : Mach) : Bytes :=
  let v := m.recorder.lastView
  let b := areaBytes 7168 v.1
  b.drop (32 * (7168 - v.2)) ++ b.take (32 * (7168 - v.2))

/-- METRO_JOB (R497). -/
def Mach.metroJob (m : Mach) : List Val :=
  match m.yarrow.jobOf (m.nat 0xC011 0 0) with
  | none => nats [0, 0, 0, 0] ++ [.blob (dropBytes []), .blob (volumeBytes m.yarrow.params.pl []), .num 0, .num 0]
  | some j => nats [j.jobId, j.line, if m.nat 0xC011 0 0 = 0 then 1 else 2, published j.acc]
      ++ [.blob (dropBytes j.drops), .blob (volumeBytes m.yarrow.params.pl j.drops)] ++ nats [j.causes, j.channels]

/-- TRAIL_BLOCK (R493): a foreign region's records are what that region holds (log entry 5). -/
def Mach.trailBlock (m : Mach) : Bytes :=
  let v := m.nat 0xC049 0 0
  if !bit v 15 then m.yarrow.block (bits v 0 8)
  else if m.yarrow.foreign then m.randomBytes 544
  else List.replicate 544 0

/-- METRO_PARAMS (R486). -/
def MetroParams.vals (p : MetroParams) : List Val :=
  nats [p.nominalPitch, p.refPitch, p.encConfig, p.calDt, p.calAuto, p.calMaxStep, p.rollerInput]
    ++ [.blob ((List.range 24).flatMap (fun i => leBytes 2 (nth p.pl i 0))), .num p.faultStop]

/-- CAL_LEN_STATE PROGRESS in mm (R499). -/
def Mach.calProgress (m : Mach) : Nat :=
  match m.yarrow.run with
  | some r => r.countX.natAbs * m.yarrow.params.refPitch / 1000000000
  | none => 0

/-- Yarrow's objects, as it answers them. -/
def Mach.statusYarrow (m : Mach) (idx : Nat) : Option (List Val) :=
  let y := m.yarrow
  if idx = 0xC001 then some [.blob yrSerial, .num yrSealId, .blob yrFwId, .blob y.digest, .blob yrPublicKey]
  else if idx = 0xC002 then some (nats [y.status])
  else if idx = 0xC010 then some [.num (published y.acc), .blob (dropBytes y.drops), .blob (volumeBytes y.params.pl y.drops)]
  else if idx = 0xC012 then some m.metroJob
  else if idx = 0xC018 then some y.params.vals
  else if idx = 0xC01B then some (y.verifierKeys.map (fun k => Val.blob (if k.isEmpty then List.replicate 32 0 else k)))
  else if idx = 0xC020 then some (nums [y.factor, (y.generation : Nat), y.refTemp, (m.calProgress : Nat)])
  else if idx = 0xC022 then some (nums ((List.range 4).map (fun i => asTemp (nth y.temps i none))))
  else if idx = 0xC030 then some (nats [y.mark.format, y.mark.bars, y.mark.x, y.mark.y, y.mark.dot, y.mark.level, y.mark.every])
  else if idx = 0xC048 then
    some [.num y.trail.length, .num y.trailLost, .blob y.runningHash, .num y.renewals, .num (b2n y.full)]
  else if idx = 0xC04A then some [.blob m.trailBlock]
  else none

/-- NET_STATUS (R507). -/
def Mach.netStatus (m : Mach) (p : Nat) : Nat :=
  let n := m.netPort p
  b2n (match n.ptpRxAt with | some t => decide (m.now < t + 1000000000) | none => false) * 32 + b2n n.fecLock * 16 + b2n n.blockLock * 8
    + n.speedNow * 4 + b2n n.remoteFault * 2 + b2n n.linkUp

/-- TD_STATE (R520). -/
def TimeDomain.vals (d : TimeDomain) : List Val :=
  nums [(d.quality : Nat), d.offset, d.rate, clampI (-2147483648) 2147483647 d.masterOffset, (d.pathDelay : Nat), (d.gm : Nat), (d.steps : Nat),
    (d.portNow : Nat), (d.lockedSince : Nat)]

/-- CAL_CAM_STATE (R603). -/
def Mach.calCamState (m : Mach) (c : Nat) : Nat :=
  let x := m.cam c
  u16 x.calTemp * 65536 + x.calCause * 256 + x.calState

/-- The number of hash slots that are set (R638). -/
def Sys.slotsSet (s : Sys) : Nat := maskOf ((List.range 16).filter s.hashSet)

/-- OTP_CONFIG_STATE (R638): EMPTY and SPENT count generations. -/
def Sys.otpState (s : Sys) : List Val :=
  let gens := (List.range 4).map s.otpGen
  nats [s.inEffect.getD 255, (gens.filter otpEmpty).length, (gens.filter (fun b => !otpEmpty b && !otpValid b)).length]

/-- Objects 0xB000 to 0xBFFF and 0xD000 to 0xFFFF. -/
def Mach.statusBF (m : Mach) (idx : Nat) : Option (List Val) :=
  let p := m.power
  if idx = 0xB003 then some m.recorderState
  else if idx = 0xB010 then some [.blob (if m.recorder.layout = 1 then [] else areaBytes 1024 m.recorder.firstView)]
  else if idx = 0xB011 then some [.blob (if m.recorder.layout = 1 then [] else m.lastArea)]
  else if idx = 0xB012 then
    some [.blob (if m.recorder.layout = 1 then areaBytes 8192 ((m.recorder.openRecs.foldl (fun l o => insertRec l o.r) m.recorder.fore).take 8192) else [])]
  else if idx = 0xD000 then
    some (nats [m.linkTime, ofInt 64 (m.time.tdA.at_ m.linkTime), ofInt 64 (m.time.tdB.at_ m.linkTime), ofInt 64 m.outputTime])
  else if idx = 0xD005 then some (nats [macOf 0, macOf 1])
  else if idx = 0xD006 then some (nats [m.netStatus 0, m.netStatus 1])
  else if idx = 0xD007 then some (counted m.time.net0.counters 7)
  else if idx = 0xD008 then some (counted m.time.net1.counters 7)
  else if idx = 0xD021 then some m.time.tdA.vals
  else if idx = 0xD022 then some m.time.tdB.vals
  else if idx = 0xD031 then some (nums [(m.time.sel : Nat), (b2n m.time.slewFrom.isSome : Nat), m.time.kAt m.linkTime])
  else if idx = 0xE002 then some (nats [m.store.configGen, m.store.badItems, b2n (!m.store.writes.isEmpty), m.store.erasesMax])
  else if idx = 0xE013 then some (nats (allCams.map m.calCamState))
  else if idx = 0xF001 then some [.blob m.sys.otpBlock]
  else if idx = 0xF002 then some m.sys.otpState
  else if idx = 0xF004 then some (nats [m.sys.otpRevoked, m.sys.secMin, m.sys.debugLock, m.sys.slotsSet])
  else if idx = 0xF010 then some (nats [p.vin, p.iin, p.pin, p.vinMin, p.vinMax, p.rails, p.fails])
  else if idx = 0xF011 then
    some (nums [asTemp p.tjMain, asTemp p.tjMax, asTemp p.tjYarrow, asTemp p.dcdc,
      asTemp ((List.range 8).foldl (fun t c => hotter t (m.channel c).temp) none), (b2n (bit p.flags 0 || bit p.flags 2) + 2 * b2n (bit p.flags 1) : Nat)])
  else none

/-- The lands of the PSO outputs (R640): the PSO_SAFE level while the main die is in reset, BOOT, ASSEMBLE or SAFE, and
none, high impedance, before the first OTP read. -/
def Mach.psoLand (m : Mach) (n : Nat) : Option Bool :=
  if !m.sys.otpRead then none
  else if m.sys.mode = .reset || m.sys.mode = .boot || m.sys.mode = .assemble || m.sys.mode = .safe then some (bit m.sys.psoSafe n)
  else some (m.psoActive n != bit (m.psoCfg n) 2)

end Sys2Proof.Machine
end

