-- ==== Sys2Proof/Machine/Access.lean ====
section
/-! DEFINITION. Access to the dictionary by index and sub-index (chapter 17): every write with its object's own
conditions, every read with its value, and the commands that carry one access. -/

namespace Sys2Proof.Machine

/-! ### Session-local objects (R561, R562, R571 to R573) -/

/-- The copies of who asks, replaced. -/
def Mach.setLocals (m : Mach) (w : Who) (l : Locals) : Mach :=
  match w with
  | .host sid => { m with hy := { m.hy with sessions := fupd m.hy.sessions sid {} (fun s => { s with loc := l }) } }
  | .e13 => { m with hy := { m.hy with e13 := l } }
  | .peer _ => m

/-- The sub-indices that an object has, lowest first. -/
def Obj.subs (o : Obj) : List Nat := (List.range (o.top + 1)).filter o.hasSub

/-- The first existing object above a query (R571). -/
def nextObject (q : Nat) : Option Nat :=
  firstWhere (fun x => decide (q < x)) (objTable.flatMap (fun o => o.subs.map (fun sub => o.idx * 256 + sub)))

/-- A write of DICT_QUERY (R571). -/
def Mach.writeQuery (m : Mach) (w : Who) (v : Nat) : Mach :=
  m.guardedNum w 0x1100 0 v (fun m =>
    if !bit v 31 then (m.setLocals w { m.locals w with query := v }).reply w 0x1100 0 .ok
    else match nextObject (bits v 0 24) with
      | some q => (m.setLocals w { m.locals w with query := q }).reply w 0x1100 0 .ok
      | none => m.reply w 0x1100 0 .unknownObject)

/-- A write of another session-local object. -/
def Mach.writeLocal (m : Mach) (w : Who) (idx v : Nat) : Mach :=
  m.guardedNum w idx 0 v (fun m =>
    let l := m.locals w
    if idx = 0x1104 && v % 64 != 0 then m.reply w idx 0 .outOfRange
    else
      (m.setLocals w (
        if idx = 0x2002 then { l with seamSel := v }
        else if idx = 0x3000 then { l with portSel := v }
        else if idx = 0x4000 then { l with barSel := v }
        else if idx = 0x5000 then { l with layerSel := v }
        else if idx = 0x6000 then { l with camSel := v }
        else if idx = 0x1102 then { l with rsView := v }
        else if idx = 0x1104 then { l with memBase := v }
        else l)).reply w idx 0 .ok)

/-! ### The own conditions of objects that are only stored -/

/-- The entries of a byte string of n-byte numbers. -/
def leList (n : Nat) (b : Bytes) : List Nat := (List.range (b.length / n)).map (fun i => leAt b (n * i) n)

/-- The camera's window lies inside WIDTH x ROWS (R261, R293, R597). -/
def Mach.insideSensor (m : Mach) (c x y w h : Nat) : Bool :=
  decide (x + w ≤ bits (m.nat 0x6001 0 c) 0 14) && decide (y + h ≤ bits (m.nat 0x6001 0 c) 14 13)

/-- CAM_WINDOWS (R293): enabled windows lie inside, every field is in its range, and reserved bits are 0. -/
def Mach.windowsFit (m : Mach) (c : Nat) (b : Bytes) : Bool :=
  (List.range 32).all (fun i =>
    let g := fun off n => leAt b (16 * i + off) n
    decide (g 8 1 ≤ 4) && decide (g 9 1 ≤ 1) && g 10 2 = 0
      && (g 8 1 = 0 || (decide (1 ≤ g 4 2) && decide (g 4 2 ≤ 512) && decide (1 ≤ g 6 2) && decide (g 6 2 ≤ 512)
          && m.insideSensor c (g 0 2) (g 2 2) (g 4 2) (g 6 2))))

/-- LOOP_GUTTER (R302): patches and band lie inside the frame of the JOB shadow and do not overlap. -/
def Mach.gutterFits (m : Mach) : Bool :=
  let g := fun sub => m.nat 0x7021 sub 0
  let frame := m.nat 0x5001 2 0
  let band := 16 * g 5
  (g 2 = 0 || (decide (64 ≤ g 2) && decide (g 1 + g 2 ≤ frame) && g 3 % 256 != 0))
    && (band = 0 || decide (g 4 + band ≤ frame))
    && (g 2 = 0 || band = 0 || decide (g 1 + g 2 ≤ g 4) || decide (g 4 + band ≤ g 1))

/-- PRINTER_MODEL (R306). -/
def printerModelOk (b : Bytes) : Bool :=
  let zero := fun off n => leAt b off n = 0
  leAt b 0 2 = 1 && zero 2 2 && zero 10 6 && zero 52 4 && (List.range 3).all (fun j => leAt b (4 + 2 * j) 2 != 0)
    && ((leList 2 (b.drop 56)).map (toInt 16)).all (fun d => decide (-4000 ≤ d) && decide (d ≤ 4000))
    && (List.range 8).all (fun c => zero (56 + 102 * c) 6)

/-- SCREEN_MASK (R164). -/
def screenMaskOk (b : Bytes) : Bool :=
  (List.range 16384).all (fun i =>
    let t := fun j => leAt b (6 * i + 2 * j) 2
    decide (t 0 ≤ t 1) && decide (t 1 ≤ t 2) && decide (t 2 ≤ 4095))

/-- NET_IPV6 (R508): a prefix of 1 to 128, or all zero. -/
def ipv6Ok (b : Bytes) : Bool :=
  b.all (fun x => x = 0) || (decide (1 ≤ leAt b 16 1) && decide (leAt b 16 1 ≤ 128))

/-- REJECT_OUTPUT (R139): a PSO or none, and a cut inside the frame of every job at hand. -/
def Mach.rejectFits (m : Mach) : Bool :=
  (decide (m.nat 0x5038 1 0 ≤ 15) || m.nat 0x5038 1 0 = 255)
    && decide (m.nat 0x5038 2 0 < m.nat 0x5001 2 0) && decide (m.nat 0x5038 2 0 < m.jobInEffect 0x5001 2 0)

/-- The camera's trigger offset and the last bar's offset fit the window of lines together. -/
def Mach.offsetsFit (m : Mach) : Bool :=
  allCams.all (fun c => decide (m.nat 0x4012 0 7 + m.nat 0x6004 1 c ≤ 4194303))

/-- The own conditions of an object's values, on the module with the values stored (R558 rows 6 and 7). -/
def Mach.stored (m : Mach) (idx sub inst : Nat) : Bool :=
  let v := m.nat idx sub inst
  let b := m.blob idx sub inst
  if idx = 0x2010 then m.staggerFits v
  else if idx = 0x2111 then !(m.paired && v = 0)
  else if idx = 0x4012 then inst != 7 || m.offsetsFit
  else if idx = 0x6004 then m.offsetsFit
  else if idx = 0x7003 then decide (m.nat 0x7003 2 0 < m.nat 0x7003 1 0)
  else if idx = 0x3024 then decide (m.num 0x3024 1 inst < m.num 0x3024 2 inst)
  else if idx = 0x3020 then decide (bits v 0 11 + 20 ≤ bits v 16 12)
  else if idx = 0x4020 then (leList 2 b).all (fun x => decide (x ≤ 4095)) && leAt b 0 2 = 0
  else if idx = 0x4021 then screenMaskOk b
  else if idx = 0x7010 then ((leList 2 b).map (toInt 16)).all (fun x => decide (-2048 ≤ x) && decide (x ≤ 2047))
  else if idx = 0x7020 then printerModelOk b
  else if idx = 0x7021 then m.gutterFits
  else if idx = 0x5038 then m.rejectFits
  else if idx = 0x6010 then m.camFits inst
  else if idx = 0x6018 && sub = 4 then b.length % 4 = 0 && (leList 4 b).all (fun x => x / 65536 != 0xFFFF)
  else if idx = 0x6021 then b.length % 4 = 0 && (leList 4 b).all (fun x => x % 65536 < 16384 && x / 2 ^ 29 = 0)
  else if idx = 0x6031 then m.windowsFit inst b
  else if idx = 0x6033 then v = 0 || decide (64 ≤ v)
  else if idx = 0xE010 then
    (bits v 27 10) % 2 = 0 && (bits v 17 10) % 2 = 0 && m.insideSensor (sub - 1) (bits v 50 14) (bits v 37 13) (bits v 27 10) (bits v 17 10)
  else if idx = 0x8012 then sub != 24 && (if sub ≤ 8 then bits v 8 2 = 0 else bits v 8 2 != 0)
  else if idx = 0x8020 then v % 4 = 0
  else if idx = 0x8101 then v % 64 = 0
  else if idx = 0xA001 then !(bit v 0 && (bits v 1 2 = 0 || bits v 1 2 = 3))
  else if idx = 0xD004 then ipv6Ok b
  else true

/-- What a stored write does beyond the value: the guarantee of class P is judged anew (R397), and a gate input that the
new GATE_CONFIG finds active acts at once (R250, log entry 85). -/
def Mach.afterStored (m old : Mach) (idx : Nat) : Mach :=
  if idx = 0x8001 || idx = 0x8020 then m.judgeGuarantee old
  else if idx = 0x2150 then m.gateConfigured (old.nat 0x2150 0 0)
  else m

/-- A write to an object that is only stored (R557). -/
def Mach.writePlain (m : Mach) (w : Who) (idx sub : Nat) (data : Bytes) : Mach :=
  let inst := match findObj idx with | some o => m.instOf w o.sel | none => 0
  if idx = 0x7010 && m.nat 0x7001 0 0 = 2 && !(match w with | .peer _ => true | _ => false) then m.reply w idx sub .accessDenied
  else
    m.guardedBytes w idx sub (writeLevels idx sub) data (fun vals m =>
      let m1 := m.storeVals idx inst vals
      if (idx = 0xC011 || idx = 0xC049) && !m.yarrowAnswers then m.reply w idx sub .notReady
      else if vals.all (fun v => m1.stored idx v.1 inst) then (m1.afterStored m idx).accept w idx sub inst data
      else m.reply w idx sub .outOfRange)

/-! ### Every write by index (R555 to R566) -/

/-- The key under which the last 64 bytes sign the rest, of those that pass a test; an access carries no key of its own
(log entry 60). -/
def signerKey (data : Bytes) (known : Bytes → Bool) : Bytes :=
  ((ecKeys (sha256 (data.take (data.length - 64))) (data.drop (data.length - 64))).filter known).headD []

/-- A write of MODE_REQUEST by value (R576): BOOT and ASSEMBLE are no targets. -/
def Mach.writeModeValue (m : Mach) (w : Who) (v : Nat) : Mach :=
  let l := [Mode.reset, .boot, .assemble, .idle, .prime, .armed, .print, .hold, .calibrate, .service, .verify, .safe]
  match l[v]? with
  | some t => m.writeMode w t
  | none => m.reply w 0x1011 0 .outOfRange

/-- A write to an object with an operation of its own; none for an object that is only stored. -/
def Mach.writeOwn (m : Mach) (w : Who) (idx sub : Nat) (data : Bytes) : Option Mach :=
  let v := ofLe data
  let f := fun (off n : Nat) => leAt data off n
  if idx = 0x1011 then some (m.writeModeValue w v)
  else if idx = 0x1100 then some (m.writeQuery w v)
  else if sessionLocal idx then some (m.writeLocal w idx v)
  else if idx = 0x1224 then some (m.writeContentRelease w v)
  else if idx = 0x2000 && sub = 0 then some (m.writeCommitSeam w (f 0 8) (f 8 2) (f 10 2) (f 12 1))
  else if idx = 0x2003 then some (m.writeSeamCancel w v)
  else if idx = 0x2025 then some (m.writeStationaryStart w v)
  else if idx = 0x2030 then some (m.writeFwImage w data)
  else if idx = 0x2032 then some (m.writeFwActivate w v)
  else if idx = 0x2033 then some (m.writeFwConfirm w v)
  else if idx = 0x2102 then some (m.writeEncFaultClear w v)
  else if idx = 0x210B then some (m.writeIndexArm w v)
  else if idx = 0x2142 then some (m.writePsoSchedule w (sub - 1) v)
  else if idx = 0x2152 then some (m.writeGateClear w v)
  else if idx = 0x3010 then some (m.writeHeadSlot w (sub - 1) v)
  else if idx = 0x3025 then some (m.writeHeadReenable w v)
  else if idx = 0x3045 then some (m.writeLinkRetrain w v)
  else if idx = 0x3101 then some (m.writeRefConfig w v)
  else if idx = 0x3102 then some (m.writeLinkSleep w v)
  else if idx = 0x5001 then some (m.writeJobConfig w sub data)
  else if idx = 0x5010 then some (m.writeLayerConfig w sub data)
  else if idx = 0x5020 && sub = 0 then some (m.writeLayerPost w (f 0 1) (f 1 4) (f 5 4) (f 9 4))
  else if 0x6001 ≤ idx && idx ≤ 0x6003 then some (m.writeCamConfig w idx sub data)
  else if idx = 0x6011 then some (m.writeSoftTrigger w v)
  else if idx = 0x6019 then some (m.writeExposureCommit w v)
  else if idx = 0x6032 then some (m.writeStreamCommit w v)
  else if idx = 0x7001 then some (m.writeLoopMode w v)
  else if idx = 0x700A then some (m.writeBarReset w v)
  else if idx = 0x700B then some (m.writeBaselineSave w v)
  else if idx = 0x7102 then some (m.writeNozzleEdit w v)
  else if idx = 0x8010 then some (m.writeArbCommit w v)
  else if idx = 0x8011 then some (m.writeUrgentLift w v)
  else if idx = 0x8016 then some (m.writeArbReenable w v)
  else if idx = 0x9020 then some (m.writeUserImage w data)
  else if idx = 0x9021 then some (m.writeUserControl w v)
  else if idx = 0x9024 then some (m.writeUserMailbox w data)
  else if idx = 0xB020 then some (m.writeRecorderClear w v)
  else if idx = 0xC01A then some (m.writeMetro w data (signerKey data (fun k => (m.metroSigner (f 0 2) k).isSome)))
  else if idx = 0xC021 then some (m.writeCalLenStart w v)
  else if idx = 0xC040 then some (m.writeReportRequest w data)
  else if idx = 0xC04B then some (m.writeTrailRenew w data (signerKey data (fun k => (m.keySlot k).isSome)))
  else if idx = 0xC050 then some (m.writeMetroStopClear w v)
  else if idx = 0xC051 then
    some (m.writeYrFirmware w (data.take (data.length - 64)) (data.drop (data.length - 64)) (signerKey data (fun k => sha256 k = m.yarrow.fwHash)))
  else if idx = 0xD001 then some (m.writeNetConfig w (sub - 1) v)
  else if idx = 0xD020 then some (m.writeTdConfig w (sub - 1) v)
  else if idx = 0xD023 then some (m.writeTdSet w (sub - 1) v)
  else if idx = 0xD030 then some (m.writeTimeSelect w v)
  else if idx = 0xE001 then some (m.writeStoreSave w v)
  else if idx = 0xE012 then some (m.writeCalCamStart w v)
  else if idx = 0xE020 then some (m.writeLinkMeasure w v)
  else if idx = 0xF003 then some (m.writeOtpConfig w data true)
  else if idx = 0xF005 then some (m.writeOtpRevoke w v true)
  else none

/-- A write of any object (R554 to R558): existence, access and length first, then what the object does. -/
def Mach.writeObj (m : Mach) (w : Who) (idx sub : Nat) (data : Bytes) : Mach :=
  if !m.answers w then m
  else match findObj idx with
  | none => m.reply w idx sub .unknownObject
  | some o =>
    match m.accessGate w idx sub 15 with
    | .ok =>
      match o.values sub data with
      | some _ => (m.writeOwn w idx sub data).getD (m.writePlain w idx sub data)
      | none =>
        match m.accessGate w idx sub (writeLevels idx sub) with
        | .ok => m.reply w idx sub .typeMismatch
        | st => m.reply w idx sub st
    | st => m.reply w idx sub st

/-! ### Reads (R539, R542, R557, R560, R565, R571, R572) -/

/-- Bytes of a value of a field. -/
def Fld.bytes (f : Fld) (v : Val) : Bytes :=
  match v with
  | .blob b => b
  | .num i => f.ty.bytes i

/-- The largest value of a field in bytes. -/
def Fld.maxLen (f : Fld) : Nat := if f.isBlob then f.hi.toNat else f.ty.size

/-- DICT_ENTRY's code of an access code. -/
def Acc.code : Acc → Nat
  | .ro => 0 | .rw => 1 | .rs => 2 | .wo => 3 | .rc => 4

/-- DICT_ENTRY's code of a selection. -/
def Sel.code : Sel → Nat
  | .none => 0 | .port => 1 | .bar => 2 | .layer => 3 | .cam => 4 | .seam => 5 | .here => 6

/-- DICT_ENTRY (R571) of a query. -/
def dictEntry (q : Nat) : Option (List Val) :=
  let idx := bits q 8 16
  let sub := bits q 0 8
  match findObj idx with
  | none => none
  | some o =>
    if !o.hasSub sub then none
    else
      let writable := o.acc = .rw || o.acc = .rs || o.acc = .wo
      let f := o.fld sub
      let ty := match f with | some x => x.ty.code | none => 0x0B
      let len := match f with
        | some x => x.maxLen
        | none => sumOf (o.flds.map (fun x => x.maxLen + (if x.isBlob then 2 else 0)))
      let name := match o.form, f with
        | .record, some x => x.name
        | _, _ => o.name
      some (nats [idx * 256 + sub, ty, o.acc.code, o.sel.code, o.scope, if writable then writeLevels idx sub else if o.acc = .rc then 15 else 0,
          if writable then modeLock o f else 0, b2n (writable && forwarded idx), len] ++ [.blob (ascii name)])

/-- The bar whose lines decide what is in effect (R572). -/
def Mach.viewBar (m : Mach) (w : Who) (o : Obj) : Nat :=
  match o.sel with
  | .bar => (m.locals w).barSel
  | .port => barOf (m.locals w).portSel
  | _ => 0

/-- A stored value: what the store or the shadow holds, or what is in effect (R557, R572). -/
def Mach.storedVal (m : Mach) (w : Who) (o : Obj) (sub inst : Nat) : Val :=
  match o.fld sub with
  | none => .num 0
  | some f =>
    let eff := o.acc = .rs && (m.locals w).rsView = 1
    if !eff then (if f.isBlob then .blob (m.blob o.idx sub inst) else .num (m.num o.idx sub inst))
    else if o.scope = 0xFE then .num (m.effNum o.idx sub inst)
    else
      let line := m.lineAtBar (m.viewBar w o)
      if f.isBlob then .blob (m.rsBlob o.idx sub inst line) else .num (m.rsNum o.idx sub inst line)

/-- The value of a session-local object. -/
def Locals.value (l : Locals) (idx : Nat) : Nat :=
  if idx = 0x2002 then l.seamSel
  else if idx = 0x3000 then l.portSel
  else if idx = 0x4000 then l.barSel
  else if idx = 0x5000 then l.layerSel
  else if idx = 0x6000 then l.camSel
  else if idx = 0x1100 then l.query
  else if idx = 0x1102 then l.rsView
  else l.memBase

/-- The oldest result of an RC object with its RESULT_SEQ (R542), by field. -/
def Mach.result (m : Mach) (idx inst : Nat) : Option (Nat × List Val) :=
  if idx = 0x5040 then
    m.comp.rejectLog.head?.map (fun e => (e.seq, nats [e.jobId, e.number, e.first, e.causes, e.pulse, e.bars]))
  else if idx = 0x6041 then (m.cam inst).stats.map (fun s => (s.2.2, [.blob (statsBytes s.1 s.2.1)]))
  else if idx = 0x6042 then (m.cam inst).profiles.map (fun s => (s.2.2, [.blob (profileBytes s.1 s.2.1)]))
  else if idx = 0x9025 then m.cpu.user.mailOut.head?.map (fun x => (x.1, [.blob x.2]))
  else if idx = 0xC041 then m.yarrow.report.map (fun r => (r.2, [.blob r.1]))
  else none

/-- The oldest result is read, and with CONSUME removed (R295, R542). -/
def Mach.takeResult (m : Mach) (idx inst : Nat) (consume : Bool) : Mach :=
  if idx = 0x6041 then m.onCam inst (fun c => { c with statsRead := true, stats := if consume then none else c.stats })
  else if idx = 0x6042 then m.onCam inst (fun c => { c with profilesRead := true, profiles := if consume then none else c.profiles })
  else if !consume then m
  else if idx = 0x5040 then { m with comp := { m.comp with rejectLog := m.comp.rejectLog.drop 1 } }
  else if idx = 0x9025 then m.onUser (fun u => { u with mailOut := u.mailOut.drop 1 })
  else if idx = 0xC041 then m.onYarrow (fun y => { y with report := none })
  else m

/-- The fields of an object as who asks reads them; none where it answers NOT_READY. -/
def Mach.fields (m : Mach) (w : Who) (o : Obj) : Option (List Val) :=
  let inst := m.instOf w o.sel
  if sessionLocal o.idx then some (nats [(m.locals w).value o.idx])
  else
    let computed := (m.status12 w o.idx <|> m.status35 o.idx inst <|> m.status67 o.idx inst <|> m.status8A o.idx <|> m.statusYarrow o.idx
      <|> m.statusBF o.idx)
    match computed with
    | some l => some l
    | none => match o.form with
      | .simple => some [m.storedVal w o 0 inst]
      | .record => some ((List.range o.flds.length).map (fun i => m.storedVal w o (i + 1) inst))
      | .arr n => some ((List.range n).map (fun i => m.storedVal w o (i + 1) inst))

/-- The value is not loaded yet (R560), or Yarrow does not answer (R503). -/
def Mach.unready (m : Mach) (o : Obj) : Bool :=
  (m.sys.mode = .boot && ((((o.acc = .rw || o.acc = .rs) && storeKeeps o.idx) && !sessionLocal o.idx) || o.idx = 0xE013))
    || (0xC000 ≤ o.idx && decide (o.idx ≤ 0xC0FF) && !m.yarrowAnswers)

/-- The bytes of a sub-index out of an object's fields (R539). -/
def Obj.bytesOf (o : Obj) (sub : Nat) (l : List Val) : Bytes :=
  match o.form with
  | .simple => match o.flds[0]?, l[0]? with
    | some f, some v => f.bytes v
    | _, _ => []
  | .arr _ => match o.flds[0]?, l[sub - 1]? with
    | some f, some v => f.bytes v
    | _, _ => []
  | .record =>
    if sub = 0 then (o.flds.zip l).flatMap (fun p => (if p.1.isBlob then leBytes 2 (p.1.bytes p.2).length else []) ++ p.1.bytes p.2)
    else match o.flds[sub - 1]?, l[sub - 1]? with
      | some f, some v => f.bytes v
      | _, _ => []

/-- Rows 1 to 3 of R558 for a read. -/
def Mach.readGate (m : Mach) (w : Who) (idx sub : Nat) (consume : Bool) : Status :=
  match findObj idx with
  | none => .unknownObject
  | some o =>
    if !o.hasSub sub then .unknownObject
    else if o.acc = .wo || (consume && o.acc != .rc) then .accessDenied
    else if idx = 0x1105 && !levelHas (m.level w) 10 then .accessDenied
    else .ok

/-- What a read finds: its bytes and RESULT_SEQ, or the status that refuses it. -/
def Mach.look (m : Mach) (w : Who) (idx sub : Nat) (consume : Bool) : Except Status (Bytes × Nat) :=
  match m.readGate w idx sub consume with
  | .ok => match findObj idx with
    | none => .error .unknownObject
    | some o =>
      if m.unready o then .error .notReady
      else if o.acc = .rc then
        match m.result idx (m.instOf w o.sel) with
        | some (n, l) => .ok (o.bytesOf sub l, n)
        | none => .error .notReady
      else if idx = 0x1105 then .error .outOfRange
      else if idx = 0x1101 then
        match dictEntry (m.locals w).query with
        | some l => .ok (o.bytesOf sub l, 0)
        | none => .error .unknownObject
      else match m.fields w o with
        | some l => .ok (o.bytesOf sub l, 0)
        | none => .error .notReady
  | st => .error st

/-- What a read changes: RC results, the nonce (R487), and the free values it shows (log entry 5). -/
def Mach.looked (m : Mach) (w : Who) (idx : Nat) (consume : Bool) : Mach :=
  match findObj idx with
  | none => m
  | some o =>
    if o.acc = .rc then m.takeResult idx (m.instOf w o.sel) consume
    else if idx = 0x8019 || idx = 0xC04A then m.drawn
    else m

/-- A read of any object, answered with its value or a status. -/
def Mach.readObj (m : Mach) (w : Who) (idx sub : Nat) (consume : Bool) : Mach :=
  if !m.answers w then m
  else if idx = 0xC019 && sub = 0 && !consume then m.readNonce w
  else match m.look w idx sub consume with
    | .ok (b, n) => (m.looked w idx consume).emit (.value w idx sub b n)
    | .error st => m.reply w idx sub st

/-- JOB_MEM_READ of a segment (R573): 1 to 8,192 bytes below 32 GiB, for INTEGRATOR and VENDOR. -/
def Mach.jobMemSegment (m : Mach) (mem : List Host.Cell) (w : Who) (offset length : Nat) : Except Status Bytes :=
  let a := (m.locals w).memBase + offset
  match m.readGate w 0x1105 0 false with
  | .ok =>
    if m.sys.mode = .boot then .error .notReady
    else if length = 0 || 8192 < length || 2 ^ 35 < a + length then .error .outOfRange
    else .ok (jobBytes m mem a length)
  | st => .error st

/-! ### Commands -/

/-- RC_CONSUME (R542). -/
def execRcConsume (dt sid idx sub : Nat) (s : State) : Res := s.act dt (fun m => m.readObj (.host sid) idx sub true)

/-- DICT_QUERY (R571). -/
def execDictQuery (dt sid v : Nat) (s : State) : Res := s.act dt (fun m => m.writeQuery (.host sid) v)

/-- JOB_MEM_READ (R573). -/
def execJobMemRead (dt sid offset length : Nat) (s : State) : Res :=
  s.act dt (fun m =>
    if m.answers (.host sid) then
      match m.jobMemSegment s.mem (.host sid) offset length with
      | .ok b => m.emit (.value (.host sid) 0x1105 0 b 0)
      | .error st => m.reply (.host sid) 0x1105 0 st
    else m)

/-- DICT_WRITE (R557). -/
def execDictWrite (dt sid idx sub : Nat) (data : Bytes) (s : State) : Res :=
  s.actUser dt (fun m => m.writeObj (.host sid) idx sub data)

/-- USER_DICT_REQUEST (R406): E13 asks as INTEGRATOR; it asks again only after its answer. -/
def execUserDictRequest (dt idx sub : Nat) (write consume : Bool) (data : Bytes) (s : State) : Res :=
  s.actUser dt (fun m =>
    if (m.engine 13).state != 1 then m
    else if write then m.writeObj .e13 idx sub data
    else m.readObj .e13 idx sub consume)

end Sys2Proof.Machine
end

