-- ==== Sys2Proof/Machine/Hy.lean ====
section
/-! DEFINITION. The Hyaskion access protocol (chapter 16): messages, sessions, ACCESS requests and their entries, bulk
transfers, subscriptions and notices. -/

namespace Sys2Proof.Machine

/-! ### Messages (R528 to R531, R536) -/

/-- The module sends and takes messages (R528, R625, R627 step 7). -/
def Mach.hyUp (m : Mach) : Bool := m.answers .e13 && m.sys.mode != .boot

/-- A network port passes messages to it: while the port's link is down they are lost (R506, R507). -/
def Mach.takesFrom (m : Mach) (net : Nat) : Bool := m.hyUp && (m.netPort net).linkUp

/-- Nothing from an address is answered (R535). -/
def Mach.isBlocked (m : Mach) (src : Nat) : Bool := decide (m.now < fget m.hy.blocked src 0)

/-- Add to HY_COUNTERS (R552). -/
def Mach.hyCount (m : Mach) (k : Nat) : Mach := { m with hy := { m.hy with counters := bump m.hy.counters k 1 } }

/-- Change a session that exists. -/
def Mach.onSession (m : Mach) (sid : Nat) (f : Session → Session) : Mach :=
  match ffind m.hy.sessions sid with
  | some s => { m with hy := { m.hy with sessions := fset m.hy.sessions sid (f s) } }
  | none => m

/-- The header of a message (R529). -/
def hyHeader (op sid seq len : Nat) (status : Byte) (flags : Nat) : Bytes :=
  leBytes 2 0x5948 ++ [byteOf 1, byteOf op] ++ leBytes 4 sid ++ leBytes 8 seq ++ leBytes 2 len ++ [status, byteOf flags] ++ leBytes 4 0

/-- The place of a status in R558's list, which numbers its byte in a message (log entry 5). -/
def statusPlace : Status → Nat
  | .ok => 0 | .unknownObject => 1 | .accessDenied => 2 | .typeMismatch => 3 | .modeLocked => 4 | .outOfRange => 5
  | .busy => 6 | .notReady => 7 | .commitRejected => 8 | .authFailed => 9 | .staleSequence => 10

/-- The bytes of a response's entry (R538). -/
def EntryReply.bytes (e : EntryReply) : Bytes :=
  leBytes 2 e.idx ++ leBytes 1 e.sub ++ [Config.statusByte (statusPlace e.status)] ++ leBytes 4 e.resultSeq ++ leBytes 2 e.data.length
    ++ leBytes 1 e.ty ++ leBytes 1 0 ++ leBytes 4 e.total ++ padTo 4 e.data

/-- A response with its MAC (R529). -/
def hyResponse (kRsp : Bytes) (op src sid seq : Nat) (st : Status) (entries : List EntryReply) (body : Bytes) : Out :=
  let b := entries.flatMap EntryReply.bytes ++ body
  .response src sid seq st entries body (hmac kRsp (hyHeader op sid seq b.length (Config.statusByte (statusPlace st)) 1 ++ b))

/-- The network port that a session's last request came on. -/
def Mach.sessionNet (m : Mach) (sid : Nat) : Nat := (fget m.hy.sessions sid {}).net

/-- Answer a request, and keep the answer for a resent request (R536). -/
def Mach.respond (m : Mach) (kRsp : Bytes) (op src sid seq : Nat) (st : Status) (entries : List EntryReply) (body : Bytes) : Mach :=
  let o := hyResponse kRsp op src sid seq st entries body
  (m.onSession sid (fun s => { s with kept := some o })).sendOn (m.sessionNet sid) o

/-- The kept response, sent to the source that asks (R535, R536). -/
def Out.sentTo (o : Out) (src : Nat) : Out :=
  match o with
  | .response _ sid seq st entries body mac => .response src sid seq st entries body mac
  | x => x

/-- MAGIC, VERSION and the length are right (R530). -/
def hyFormed (x : HyMsg) : Bool := x.magic = 0x5948 && x.version = 1 && x.udpLength = 56 + x.body.length

/-- The MAC that a request must carry (R529). -/
def hyExpected (x : HyMsg) (kReq : Bytes) (op : Nat) : Bytes :=
  hmac kReq (hyHeader op x.sid x.seq x.body.length 0 (2 * b2n x.stopOnError + 4 * b2n x.small) ++ x.body)

/-- A request of a session (R530, R536): discarded, answered from what is kept, refused as stale, or executed. Before AUTH
a session has no rights (log entry 61). -/
def Mach.request (m : Mach) (x : HyMsg) (op : Nat) (f : Session → Mach → Mach) : Mach :=
  if !m.takesFrom x.net || m.isBlocked x.src || !hyFormed x then m
  else match ffind m.hy.sessions x.sid with
  | none => m
  | some s =>
    if x.mac != hyExpected x s.kReq op then (m.record 0x0D04 x.sid 1).hyCount 2
    else if x.seq = s.lastSeq && x.mac = s.lastMac then
      match s.kept with
      | some o => ((m.hyCount 4).onSession x.sid (fun s => { s with net := x.net, lastReq := m.now })).sendOn x.net (o.sentTo x.src)
      | none => m
    else if x.seq != s.lastSeq + 1 then (m.hyCount 3).sendOn x.net (hyResponse s.kRsp op x.src x.sid x.seq .staleSequence [] [])
    else
      let m1 := (m.hyCount 1).onSession x.sid (fun s => { s with
        src := x.src, net := x.net, lastReq := m.now, lastSeq := x.seq, lastMac := x.mac, kept := none })
      if !s.authed && op != 2 then m1.respond s.kRsp op x.src x.sid x.seq .accessDenied [] [] else f s m1

/-- A request with an opcode that R531 does not list (log entry 61): no row of the command table carries one. -/
def Mach.otherOpcode (m : Mach) (x : HyMsg) (op : Nat) : Mach :=
  m.request x op (fun s m => m.respond s.kRsp op x.src x.sid x.seq .unknownObject [] [])

/-! ### Sessions (R532 to R535) -/

/-- A secret scalar out of 32 random bytes. -/
def scalarOf (b : Bytes) : Nat := 1 + ofBe b % (p256N - 1)

/-- The session that a HELLO opens (R532, R533). -/
def Mach.newSession (m : Mach) (x : HyMsg) (nm secret : Bytes) : Session :=
  let qm := ecBytes (ecMul 256 (scalarOf secret) p256G)
  let sid := leBytes 4 m.hy.nextSid
  let t := slice x.body 0 1 ++ slice x.body 4 80 ++ sid ++ nm ++ qm
  let z := ecdhX (scalarOf secret) (slice x.body 20 64)
  let k := hmac (slice x.body 4 16 ++ nm) z
  { level := leAt x.body 0 1, net := x.net, src := x.src, openedAt := m.now, lastReq := m.now
    kReq := hmac k (ascii "req" ++ sid), kRsp := hmac k (ascii "rsp" ++ sid), transcript := t }

/-- HELLO (R532, R535). The module's signature is a free value, because its key never leaves the die (log entry 5). -/
def Mach.hello (m : Mach) (x : HyMsg) : Mach :=
  if !m.takesFrom x.net || m.isBlocked x.src || !hyFormed x || x.sid != 0 || x.seq != 0 || x.mac != List.replicate 32 0 then m
  else
    let say := fun (m : Mach) sid st body => m.sendOn x.net (.response x.src sid 0 st [] body (List.replicate 32 0))
    if x.body.length != 84 || leAt x.body 1 3 != 0 || leAt x.body 0 1 = 0 || 4 < leAt x.body 0 1 || (ecPoint (slice x.body 20 64)).isNone then
      say m 0 .outOfRange []
    else if 16 ≤ m.hy.sessions.length then say m 0 .busy []
    else
      let nm := m.randomBytes 16
      let secret := m.drawn.randomBytes 32
      let sig := m.drawn.drawn.randomBytes 64
      let s := m.newSession x nm secret
      let sid := m.hy.nextSid
      let m1 := { m.drawn.drawn.drawn with hy := { m.hy with sessions := fset m.hy.sessions sid s, nextSid := sid + 1 } }
      say m1 sid .ok (nm ++ ecBytes (ecMul 256 (scalarOf secret) p256G) ++ sig)

/-- HELLO. -/
def execHello (dt : Nat) (x : HyMsg) (s : State) : Res := s.act dt (fun m => m.hello x)

/-- A CRED_KEYS slot holds a key. -/
def Mach.keyAt (m : Mach) (i : Nat) (key : Bytes) : Bool := filled (m.blob 0x1210 i 0) && m.blob 0x1210 i 0 = key

/-- The key may be the first INTEGRATOR key: every slot is empty, the mode is IDLE, and a pinned hash fits (R534, R636). -/
def Mach.mayEnrol (m : Mach) (key : Bytes) : Bool :=
  [5, 6, 7, 8].all (fun i => !filled (m.blob 0x1210 i 0)) && m.sys.mode = .idle
    && (!bit m.sys.otpFlags 2 || sha256 key = slice m.sys.otpBlock 8 32)

/-- The credential key matches a slot of the level (R534). -/
def Mach.keyMatches (m : Mach) (level : Nat) (key : Bytes) : Bool :=
  match level with
  | 1 => [1, 2, 3, 4].any (fun i => m.keyAt i key)
  | 2 => [5, 6, 7, 8].any (fun i => m.keyAt i key)
  | 3 => m.yarrowAnswers && (m.keySlot key).isSome
  | 4 => (m.hashSlot [8, 9, 10, 11] key).isSome
  | _ => false

/-- An AUTH is refused (R535): the third from one address within 10 s blocks the address. -/
def Mach.refuseAuth (m : Mach) (src level : Nat) : Mach :=
  let recent := m.hy.refused.filter (fun r => decide (m.now < r.2 + 10000000000)) ++ [(src, m.now)]
  let m1 := m.record 0x0D03 level src
  let m2 := { m1 with hy := { m1.hy with refused := recent } }
  if 3 ≤ (recent.filter (fun r => r.1 = src)).length then
    Mach.record { m2 with hy := { m2.hy with
      refused := recent.filter (fun r => r.1 != src), blocked := fset m2.hy.blocked src (m2.now + 10000000000) } } 0x0D08 src 0
  else m2

/-- The session has passed AUTH. -/
def Mach.takeIn (m : Mach) (sid level : Nat) : Mach :=
  (m.onSession sid (fun s => { s with authed := true })).record 0x0D01 sid level

/-- AUTH (R532, R534). A session that has passed it once is not authenticated again (log entry 61). -/
def Mach.auth (m : Mach) (x : HyMsg) : Mach :=
  m.request x 2 (fun s m =>
    let say := fun (m : Mach) st => m.respond s.kRsp 2 x.src x.sid x.seq st [] []
    let qc := slice x.body 0 64
    let good := x.body.length = 128 && ecdsaOk qc (sha256 (s.transcript ++ ascii "auth")) (slice x.body 64 64)
    if s.authed then say m .accessDenied
    else if m.keyMatches s.level qc then
      if good then say (m.takeIn x.sid s.level) .ok else (say m .authFailed).refuseAuth x.src s.level
    else if s.level = 2 && good && m.mayEnrol qc then
      say (((m.setBlob 0x1210 5 0 qc).record 0x0D05 5 (leAt (sha256 qc) 0 4)).takeIn x.sid 2) .ok
    else (say m .accessDenied).refuseAuth x.src s.level)

/-- AUTH. -/
def execAuth (dt : Nat) (x : HyMsg) (s : State) : Res := s.act dt (fun m => m.auth x)

/-- AUTH_BLOCK_EXPIRY (R535): the address is answered again. -/
def execAuthBlockExpiry (dt src : Nat) (s : State) : Res :=
  s.act dt (fun m =>
    if (ffind m.hy.blocked src).isSome && !m.isBlocked src then { m with hy := { m.hy with blocked := fdel m.hy.blocked src } } else m)

/-- A session ends; `cause` is that of SESSION_CLOSED. -/
def Mach.closeSession (m : Mach) (sid cause : Nat) : Mach :=
  Mach.record { m with hy := { m.hy with
    sessions := fdel m.hy.sessions sid
    run := match m.hy.run with | some r => if r.sid = sid then none else some r | none => none
    queue := m.hy.queue.filter (fun r => r.sid != sid) } } 0x0D02 sid cause

/-- CLOSE (R531): the session ends after the response. -/
def Mach.close (m : Mach) (x : HyMsg) : Mach :=
  m.request x 3 (fun s m => (m.respond s.kRsp 3 x.src x.sid x.seq .ok [] []).closeSession x.sid 0)

/-- CLOSE. -/
def execClose (dt : Nat) (x : HyMsg) (s : State) : Res := s.act dt (fun m => m.close x)

/-- KEEPALIVE (R531). -/
def execKeepalive (dt : Nat) (x : HyMsg) (s : State) : Res :=
  s.act dt (fun m => m.request x 4 (fun s m => m.respond s.kRsp 4 x.src x.sid x.seq .ok [] []))

/-- AUTH_TIMEOUT (R535): 1 s after the HELLO response without AUTH. -/
def execAuthTimeout (dt sid : Nat) (s : State) : Res :=
  s.act dt (fun m => match ffind m.hy.sessions sid with
    | some x => if !x.authed && decide (x.openedAt + 1000000000 ≤ m.now) then m.closeSession sid 2 else m
    | none => m)

/-- IDLE_TIMEOUT (R535). -/
def execIdleTimeout (dt sid : Nat) (s : State) : Res :=
  s.act dt (fun m => match ffind m.hy.sessions sid with
    | some x => if x.lastReq + m.nat 0x1201 1 0 * 1000000000 ≤ m.now then m.closeSession sid 1 else m
    | none => m)

/-! ### ACCESS (R537 to R542, R568) -/

/-- The entries of a body (R537), the reserved bytes 10 and 11 above the flags: none where it does not hold whole
entries. -/
def parseEntries : Nat → Bytes → Option (List HyEntry)
  | 0, b => if b.isEmpty then some [] else none
  | n + 1, b =>
    if b.isEmpty then some []
    else
      let len := leAt b 8 2
      let size := if bit (leAt b 3 1) 0 then len else 0
      if b.length < 12 + 4 * divUp size 4 then none
      else (parseEntries n (b.drop (12 + 4 * divUp size 4))).map (fun t =>
        { idx := leAt b 0 2, sub := leAt b 2 1, flags := leAt b 3 1 + 256 * leAt b 10 2, offset := leAt b 4 4, len := len, data := slice b 12 size } :: t)

/-- An entry that is refused or writes. -/
def HyEntry.said (e : HyEntry) (st : Status) : EntryReply :=
  { idx := e.idx, sub := e.sub, status := st, resultSeq := 0, ty := 0, total := 0, data := [] }

/-- The wire type of a sub-index (R539). -/
def wireType (idx sub : Nat) : Nat :=
  match findObj idx with
  | none => 0
  | some o => match o.fld sub with
    | some f => f.ty.code
    | none => 0x0B

/-- The part of a value that a read asks for (R537, R541): LENGTH 0 is all of it. -/
def HyEntry.part (e : HyEntry) (b : Bytes) : Bytes :=
  let t := if bit e.flags 2 then b.drop e.offset else b
  if e.len = 0 then t else t.take e.len

/-- An entry reads job memory (R573). -/
def HyEntry.isMem (e : HyEntry) : Bool := e.idx = 0x1105 && bit e.flags 2 && !bit e.flags 0 && !bit e.flags 1

/-- The bytes that an entry adds to the response (R538). -/
def Mach.entrySize (m : Mach) (w : Who) (e : HyEntry) : Nat :=
  if bit e.flags 0 then 16
  else if e.isMem then 16 + 4 * divUp (min 8192 e.len) 4
  else match m.look w e.idx e.sub (bit e.flags 1) with
    | .ok (b, _) => 16 + 4 * divUp (e.part b).length 4
    | .error _ => 16

/-- Out of what an access put out: its answer. -/
def answerIn (w : Who) (l : List Out) : Option Out :=
  firstWhere (fun o => match o with | .answer x _ _ _ => x = w | .value x _ _ _ _ => x = w | _ => false) l

/-- What is no answer to who asks stays on the links. -/
def withoutAnswer (w : Who) (l : List Out) : List Out :=
  l.filter (fun o => match o with | .answer x _ _ _ => x != w | .value x _ _ _ _ => x != w | _ => true)

/-- The reply of an entry out of its answer; none while it waits. -/
def HyEntry.replyOf (e : HyEntry) (o : Option Out) : Option EntryReply :=
  match o with
  | some (.answer _ _ _ st) => some (e.said st)
  | some (.value _ _ _ b n) =>
    some { idx := e.idx, sub := e.sub, status := .ok, resultSeq := n, ty := wireType e.idx e.sub, total := b.length, data := e.part b }
  | _ => none

/-- A segment of a long BLOB (R541): gathered, and applied once at the last. -/
def Mach.segment (m : Mach) (sid : Nat) (e : HyEntry) : Mach :=
  let w : Who := .host sid
  let s := fget m.hy.sessions sid {}
  let drop := m.onSession sid (fun s => { s with segKey := none, segData := [] })
  if e.offset != s.segData.length then drop.reply w e.idx e.sub .outOfRange
  else
    let all := s.segData ++ e.data
    let last := bit e.flags 3
    match m.accessGate w e.idx e.sub (writeLevels e.idx e.sub) with
    | .ok =>
      match (findObj e.idx).bind (fun o => o.fld e.sub) with
      | some f =>
        if f.ty != .blob || f.hi < (all.length : Int) then drop.reply w e.idx e.sub .typeMismatch
        else if last then drop.writeObj w e.idx e.sub all
        else match m.modeGate e.idx e.sub with
          | .ok => (m.onSession sid (fun s => { s with segKey := some (e.idx * 256 + e.sub), segData := all })).reply w e.idx e.sub .ok
          | st => drop.reply w e.idx e.sub st
      | none => drop.reply w e.idx e.sub .typeMismatch
    | st => drop.reply w e.idx e.sub st

/-- One entry of a request: while a BLOB is gathered, an entry for another object discards it (R541); reserved flags are
refused (R14). -/
def Mach.entry (m : Mach) (mem : List Host.Cell) (sid : Nat) (e : HyEntry) : Mach :=
  let w : Who := .host sid
  let s := fget m.hy.sessions sid {}
  if s.segKey.isSome && s.segKey != some (e.idx * 256 + e.sub) then
    (m.onSession sid (fun s => { s with segKey := none, segData := [] })).reply w e.idx e.sub .outOfRange
  else if 16 ≤ e.flags then m.reply w e.idx e.sub .outOfRange
  else if bit e.flags 0 then
    if bit e.flags 1 then m.reply w e.idx e.sub .accessDenied
    else if bit e.flags 2 then m.segment sid e
    else m.writeObj w e.idx e.sub e.data
  else if e.isMem then
    match m.jobMemSegment mem w e.offset e.len with
    | .ok b => m.emit (.value w e.idx e.sub b 0)
    | .error st => m.reply w e.idx e.sub st
  else m.readObj w e.idx e.sub (bit e.flags 1)

/-- An entry with job memory after it, and its reply: none while it waits. TOTAL of a job-memory segment reads 0. -/
def Mach.runEntry (m : Mach) (mem : List Host.Cell) (sid : Nat) (e : HyEntry) : Mach × List Host.Cell × Option EntryReply :=
  let m1 := Mach.entry { m with out := [] } mem sid e
  let said := (if e.isMem then { e with offset := 0, flags := 0 } else e).replyOf (answerIn (.host sid) m1.out)
  ({ m1 with out := m.out ++ withoutAnswer (.host sid) m1.out }, clearWindow m m1 mem,
   said.map (fun r => if e.isMem then { r with total := 0 } else r))

/-- The response's greatest body (R528, R540). -/
def HyRun.limit (r : HyRun) : Nat := if r.small then 1344 else 8896

/-- The response of a request that has ended (R538). -/
def Mach.runDone (m : Mach) (r : HyRun) : Mach :=
  let st := match firstWhere (fun e => e.status != .ok) r.done with | some e => e.status | none => .ok
  m.respond r.kRsp 0x10 r.src r.sid r.seq st r.done []

/-- Execute entries in order (R540): until all have run, one is refused under STOP_ON_ERROR, the next one's reply does not
fit, or one waits (R568). -/
def runEntries : List HyEntry → HyRun → Mach → List Host.Cell → Mach × List Host.Cell
  | [], r, m, mem => (m.runDone r, mem)
  | e :: es, r, m, mem =>
    if r.limit < sumOf (r.done.map (fun d => 16 + 4 * divUp d.data.length 4)) + m.entrySize (.host r.sid) e then (m.runDone r, mem)
    else match m.runEntry mem r.sid e with
      | (m1, mem1, some d) =>
        let r1 := { r with done := r.done ++ [d] }
        if r.stop && d.status != .ok then (m1.runDone r1, mem1) else runEntries es r1 m1 mem1
      | (m1, mem1, none) =>
        ({ m1 with hy := { m1.hy with run := some { r with rest := es, idx := e.idx, sub := e.sub } } }, mem1)

/-- The requests behind one that waited, in the order in which they were accepted (R568). -/
def runQueue : List HyRun → Mach → List Host.Cell → Mach × List Host.Cell
  | [], m, mem => (m, mem)
  | r :: rs, m, mem =>
    if m.hy.run.isSome then runQueue rs { m with hy := { m.hy with queue := m.hy.queue ++ [r] } } mem
    else
      let x := runEntries r.rest r m mem
      runQueue rs x.1 x.2

/-- Something of a session still waits: a commit for its bank (R171), a write for the standby (R438), or a save (R608). -/
def Mach.waits (m : Mach) (sid : Nat) : Bool :=
  m.seams.waiting.any (fun x => x.who = .host sid) || m.pair.sentForwards.any (fun f => f.who = .host sid) || m.store.saver = some (.host sid)

/-- Go on with the request whose entry waited, when its wait is over: a wait for a standby that is lost ends with OK. -/
def resumeRun (m : Mach) (mem : List Host.Cell) : Mach × List Host.Cell :=
  match m.hy.run with
  | none => (m, mem)
  | some r =>
    if m.waits r.sid then (m, mem)
    else
      let e : HyEntry := { idx := r.idx, sub := r.sub, flags := 1, offset := 0, len := 0, data := [] }
      let d := (e.replyOf (answerIn (.host r.sid) m.out)).getD (e.said .ok)
      let m1 := { m with out := withoutAnswer (.host r.sid) m.out, hy := { m.hy with run := none, queue := [] } }
      let r1 := { r with done := r.done ++ [d] }
      let x := if r.stop && d.status != .ok then (m1.runDone r1, mem) else runEntries r.rest r1 m1 mem
      runQueue m.hy.queue x.1 x.2

/-- A command that may end an entry's wait: the request goes on (log entry 62). -/
def resumed (r : Res) : Res :=
  match r with
  | .next s => let x := resumeRun s.m s.mem; .next { s with m := x.1, mem := x.2 }
  | x => x

/-- ACCESS (R537): its entries in order, or behind the request that waits. A body that holds no 1 to 64 whole entries is
refused (log entry 61). -/
def Mach.accessRun (m : Mach) (x : HyMsg) : Mach :=
  m.request x 0x10 (fun s m =>
    match parseEntries 64 x.body with
    | some (e :: es) =>
      let r : HyRun := { sid := x.sid, src := x.src, seq := x.seq, stop := x.stopOnError, small := x.small, rest := e :: es, kRsp := s.kRsp }
      { m with hy := { m.hy with queue := m.hy.queue ++ [r] } }
    | _ => m.respond s.kRsp 0x10 x.src x.sid x.seq .typeMismatch [] [])

/-- ACCESS. -/
def execAccess (dt : Nat) (x : HyMsg) (s : State) : Res :=
  let z := resumeRun (tick dt s.m) s.mem
  let m := z.1.accessRun x
  if m.hy.run.isSome then .next { s with m := m, mem := z.2 }
  else
    let y := runQueue m.hy.queue { m with hy := { m.hy with queue := [] } } z.2
    .next { s with m := y.1, mem := y.2 }

/-! ### Commands that may end a wait -/

/-- FORWARD_ACK_RECEIVED (R438, R439): a standby that refused the write has gone cold. -/
def execForwardAckReceived (dt no : Nat) (st : Status) (s : State) : Res :=
  resumed (s.act dt (fun m => m.forwardAck no st))

/-- VERDICT_ACK_TIMEOUT (R437). -/
def execVerdictAckTimeout (dt lanes : Nat) (s : State) : Res := resumed (s.act dt (fun m => m.ackTimeout lanes))

/-- BANK_LOAD_DONE (R170). -/
def execBankLoadDone (dt bar group : Nat) (s : State) : Res :=
  resumed (s.actUnits dt "bar" bar 8 "table group" group 6 (fun m => m.bankLoaded bar group Mach.loopHeld))

/-- PATH_ABSENT (R437). -/
def execPathAbsent (dt path lanes : Nat) (s : State) : Res :=
  resumed (s.actUnit dt "path" path 2 (fun m => m.pathAbsent path lanes))

/-- YIELD_RECEIVED (R452). -/
def execYieldReceived (dt : Nat) (s : State) : Res := resumed (s.act dt (fun m => m.yieldReceived))

/-- BINDWEED_HEARTBEAT (R435). -/
def execBindweedHeartbeat (dt role mode lastVerdict lastMirror phi0 linkTime : Nat) (s : State) : Res :=
  resumed (s.act dt (fun m => m.bindweedHeartbeat role mode lastVerdict lastMirror phi0 linkTime))

/-- INGEST_WAIT_EXPIRY (R440). -/
def execIngestWaitExpiry (dt handle : Nat) (s : State) : Res := resumed (s.act dt (fun m => m.ingestExpiry handle))

/-- STORE_WRITE_DONE (R609). -/
def execStoreWriteDone (dt : Nat) (good : Bool) (s : State) : Res := resumed (s.act dt (fun m => m.storeWritten good))

/-! ### Bulk transfers (R543 to R547) -/

/-- The content object that a BULK_OPEN body announces. -/
def openedContent (b : Bytes) : Content :=
  { kind := leAt b 0 1, input := leAt b 1 1, coding := leAt b 2 1, mask := leAt b 3 1, x := leAt b 4 4, y := leAt b 8 4
    w := leAt b 12 4, h := leAt b 16 4, signed := bit (leAt b 28 1) 1, digest := slice b 32 32, signature := slice b 64 64, state := 1 }

/-- The length of the object byte stream (R544). -/
def Content.streamBytes (c : Content) : Nat := c.bars.length * c.mapLen + c.inputLen

/-- The open is in range (R543). -/
def openOk (b : Bytes) : Bool :=
  let c := openedContent b
  b.length = 128 && decide (c.kind ≤ 1) && decide (c.input ≤ 1) && decide (c.coding ≤ 2)
    && (c.kind = 0 || (c.input = 0 && c.coding = 0)) && decide (leAt b 28 1 ≤ 3) && leAt b 29 3 = 0
    && (c.signed || c.signature.all (fun x => x = 0))
    && decide (c.x + c.w ≤ 98304) && decide (c.y + c.h ≤ 1048576)
    && (c.kind = 1 || (c.x % 2 = 0 && c.y % 2 = 0 && c.w % 2 = 0 && c.h % 2 = 0))
    && leAt b 20 8 = c.streamBytes

/-- The staging area or the content buffers can take the object (R543, R544). -/
def Mach.roomFor (m : Mach) (c : Content) : Bool :=
  if c.kind = 0 && c.input = 0 then decide (m.stagingUsed + c.inputLen ≤ m.nat 0x1220 1 0 * 1048576) else decide (c.streamLen ≤ m.contentSpace)

/-- The handle is unused: 1 to 0xFFFFFFFE, one after the other. -/
def Mach.freeHandle (m : Mach) : Nat :=
  (firstWhere (fun h => (m.content h).isNone) ((List.range (m.frc.objects.length + 1)).map (fun i => 1 + (m.hy.nextHandle - 1 + i) % 0xFFFFFFFE))).getD
    m.hy.nextHandle

/-- A transfer and its object are opened. -/
def Mach.startTransfer (m : Mach) (tid handle net : Nat) (b : Bytes) : Mach :=
  let t : Transfer := { handle := handle, total := leAt b 20 8, digest := slice b 32 32, multicast := bit (leAt b 28 1) 0, net := net, lastChunk := m.now }
  { m with
    frc := { m.frc with objects := fset m.frc.objects handle (openedContent b) }
    hy := { m.hy with transfers := fset m.hy.transfers tid t } }

/-- The ranges [a, b) of a stream that sorted ranges [start, end) leave missing. -/
def missing : List (Nat × Nat) → Nat → Nat → List (Nat × Nat)
  | [], a, b => if a < b then [(a, b)] else []
  | (s, e) :: t, a, b =>
    if b ≤ s then (if a < b then [(a, b)] else [])
    else (if a < s then [(a, s)] else []) ++ missing t (max a e) b

/-- A range added in order. -/
def addRange : List (Nat × Nat) → Nat × Nat → List (Nat × Nat)
  | [], r => [r]
  | (s, e) :: t, (a, b) =>
    if b < s then (a, b) :: (s, e) :: t
    else if e < a then (s, e) :: addRange t (a, b)
    else addRange t (min s a, max e b)

/-- Bytes of a chunk added at their places. -/
def addPiece : List (Nat × Bytes) → Nat × Bytes → List (Nat × Bytes)
  | [], p => [p]
  | q :: t, p => if p.1 < q.1 then p :: q :: t else q :: addPiece t p

/-- Every byte has arrived (R546): the digest decides, and the object passes on. -/
def Mach.transferDone (m : Mach) (tid : Nat) (t : Transfer) : Mach :=
  let data := t.data.flatMap (fun p => p.2)
  if sha256 data != t.digest then m.failTransfer tid 1
  else match m.contentReceived t.handle data with
    | (m1, true) => { m1 with hy := { m1.hy with transfers := fset m1.hy.transfers tid { t with state := 1, data := [] } } }
    | (m1, false) => m1.failTransfer tid 3

/-- Job staging is accepted in the mode (R612). -/
def Mach.stages (m : Mach) : Bool := [Mode.idle, .armed, .print, .hold].contains m.sys.mode

/-- BULK_OPEN (R543). The active module tells the standby the handle and the transfer (R440, log entry 63). -/
def Mach.bulkOpen (m : Mach) (x : HyMsg) : Mach :=
  m.request x 0x20 (fun s m =>
    let say := fun (m : Mach) st body => m.respond s.kRsp 0x20 x.src x.sid x.seq st [] body
    let c := openedContent x.body
    if !levelHas s.level 10 || (m.paired && m.pair.role != 1) then say m .accessDenied []
    else if !m.stages then say m .modeLocked []
    else if !openOk x.body then say m .outOfRange []
    else if 8 ≤ (m.hy.transfers.filter (fun t => t.2.state = 0)).length then say m .busy []
    else if !m.roomFor c then say m .notReady []
    else
      let tid := m.hy.nextTransfer
      let h := m.freeHandle
      let m1 := Mach.startTransfer { m with hy := { m.hy with nextTransfer := (tid + 1) % 2 ^ 32, nextHandle := 1 + h % 0xFFFFFFFE } } tid h x.net x.body
      let m2 := if m1.inStepPeer || m1.joiningPeer then
          Mach.emit { m1 with pair := { m1.pair with forwardNo := m1.pair.forwardNo + 1 } }
            (.peer (.forward (m1.pair.forwardNo + 1) 0 0x20 h (leBytes 4 tid ++ x.body)))
        else m1
      let m3 := if c.streamBytes = 0 then m2.transferDone tid (fget m2.hy.transfers tid {}) else m2
      say m3 .ok (leBytes 4 tid ++ leBytes 4 h ++ leBytes 4 8192))

/-- BULK_OPEN. -/
def execBulkOpen (dt : Nat) (x : HyMsg) (s : State) : Res := s.act dt (fun m => m.bulkOpen x)

/-- A transfer that received no chunk for BULK_TIMEOUT fails (R546). -/
def Mach.bulkTimeout (m : Mach) (tid : Nat) : Mach :=
  match ffind m.hy.transfers tid with
  | some t => if t.state = 0 && decide (t.lastChunk + m.nat 0x1201 2 0 * 1000000 ≤ m.now) then m.failTransfer tid 2 else m
  | none => m

/-- BULK_TIMEOUT. -/
def execBulkTimeout (dt tid : Nat) (s : State) : Res := s.act dt (fun m => m.bulkTimeout tid)

/-- The body of a BULK_STATUS response (R546). -/
def Transfer.status (t : Transfer) : Bytes :=
  let gaps := if t.state = 0 then (missing t.received 0 t.total).take 64 else []
  let got := if t.state = 1 then t.total else sumOf (t.received.map (fun r => r.2 - r.1))
  leBytes 1 t.state ++ leBytes 1 t.fail ++ leBytes 2 gaps.length ++ leBytes 4 0 ++ leBytes 8 got
    ++ gaps.flatMap (fun g => leBytes 8 g.1 ++ leBytes 4 (g.2 - g.1) ++ leBytes 4 0)

/-- BULK_STATUS (R546): an unknown transfer is refused like an unknown handle (log entry 61). -/
def Mach.bulkStatus (m : Mach) (x : HyMsg) : Mach :=
  m.request x 0x21 (fun s m =>
    let m1 := m.bulkTimeout (leAt x.body 0 4)
    match ffind m1.hy.transfers (leAt x.body 0 4) with
    | some t => m1.respond s.kRsp 0x21 x.src x.sid x.seq .ok [] t.status
    | none => m1.respond s.kRsp 0x21 x.src x.sid x.seq .outOfRange [] [])

/-- BULK_STATUS. -/
def execBulkStatus (dt : Nat) (x : HyMsg) (s : State) : Res := s.act dt (fun m => m.bulkStatus x)

/-- BULK_CLOSE (R546): a transfer that is still open fails. -/
def Mach.bulkClose (m : Mach) (x : HyMsg) : Mach :=
  m.request x 0x22 (fun s m =>
    match ffind m.hy.transfers (leAt x.body 0 4) with
    | some _ => (m.failTransfer (leAt x.body 0 4) 4).respond s.kRsp 0x22 x.src x.sid x.seq .ok [] []
    | none => m.respond s.kRsp 0x22 x.src x.sid x.seq .outOfRange [] [])

/-- BULK_CLOSE. -/
def execBulkClose (dt : Nat) (x : HyMsg) (s : State) : Res := s.act dt (fun m => m.bulkClose x)

/-- A chunk's datagram is whole and right (R545). -/
def chunkOk (d : Bytes) : Bool :=
  let n := leAt d 4 2
  d.length = 20 + n && decide (1 ≤ n) && decide (n ≤ 8192) && leAt d 8 8 % 64 = 0 && leAt d (16 + n) 4 = crc32 (d.take (16 + n))

/-- BULK_CHUNK (R545): bytes that are new are kept. While its network port's ingest is quarantined the transfer fails (R393,
R395). -/
def Mach.bulkChunk (m : Mach) (d : Bytes) : Mach :=
  let n := leAt d 4 2
  let off := leAt d 8 8
  if !m.hyUp || !chunkOk d then m
  else match ffind m.hy.transfers (leAt d 0 4) with
  | none => m
  | some t =>
    if t.state != 0 || t.total < off + n || (n % 64 != 0 && off + n != t.total) then m
    else if bit m.mem.quarantine (12 + t.net) then m.drawn.failTransfer (leAt d 0 4) m.freeNat
    else
      let pieces := (missing t.received off (off + n)).map (fun r => (r.1, slice d (16 + (r.1 - off)) (r.2 - r.1)))
      let t1 := { t with received := addRange t.received (off, off + n), data := pieces.foldl addPiece t.data, lastChunk := m.now }
      let m1 := { m with hy := { m.hy with transfers := fset m.hy.transfers (leAt d 0 4) t1 } }
      if (missing t1.received 0 t1.total).isEmpty then m1.transferDone (leAt d 0 4) t1 else m1

/-- BULK_CHUNK. -/
def execBulkChunk (dt : Nat) (d : Bytes) (s : State) : Res := s.act dt (fun m => m.bulkChunk d)

/-! ### Subscriptions and notices (R549, R550) -/

/-- SUBSCRIBE (R549). -/
def Mach.subscribe (m : Mach) (x : HyMsg) : Mach :=
  m.request x 0x30 (fun s m =>
    let say := fun (m : Mach) st => m.respond s.kRsp 0x30 x.src x.sid x.seq st [] []
    if x.body.length < 4 then say m .outOfRange
    else match leAt x.body 0 1 with
      | 0 => say (m.onSession x.sid (fun s => { s with eventMask := some (leAt x.body 2 2) })) .ok
      | 1 => say (m.onSession x.sid (fun s => { s with preview := some (leAt x.body 1 1, leAt x.body 2 2) })) .ok
      | _ => say m .outOfRange)

/-- SUBSCRIBE. -/
def execSubscribe (dt : Nat) (x : HyMsg) (s : State) : Res := s.act dt (fun m => m.subscribe x)

/-- UNSUBSCRIBE (R531). -/
def Mach.unsubscribe (m : Mach) (x : HyMsg) : Mach :=
  m.request x 0x31 (fun s m =>
    let say := fun (m : Mach) st => m.respond s.kRsp 0x31 x.src x.sid x.seq st [] []
    if x.body.isEmpty then say m .outOfRange
    else match leAt x.body 0 1 with
      | 0 => say (m.onSession x.sid (fun s => { s with eventMask := none, waiting := [] })) .ok
      | 1 => say (m.onSession x.sid (fun s => { s with preview := none })) .ok
      | _ => say m .outOfRange)

/-- UNSUBSCRIBE. -/
def execUnsubscribe (dt : Nat) (x : HyMsg) (s : State) : Res := s.act dt (fun m => m.unsubscribe x)

/-- A NOTICE with its MAC (R550): a count, three zero bytes and the records. -/
def hyNotice (kRsp : Bytes) (sid seq : Nat) (l : List Rec) : Out :=
  let b := leBytes 1 l.length ++ leBytes 3 0 ++ l.flatMap Rec.bytes
  .notice sid seq l (hmac kRsp (hyHeader 0x40 sid seq b.length 0 8 ++ b))

/-- NOTICE (R550): up to 32 of the records that wait for a session leave. -/
def Mach.notice (m : Mach) (sid : Nat) : Mach :=
  match ffind m.hy.sessions sid with
  | some s =>
    if !m.hyUp || s.waiting.isEmpty then m
    else (m.onSession sid (fun s => { s with noticeSeq := s.noticeSeq + 1, waiting := s.waiting.drop 32 })).sendOn s.net
      (hyNotice s.kRsp sid (s.noticeSeq + 1) (s.waiting.take 32))
  | none => m

/-- NOTICE. -/
def execNotice (dt sid : Nat) (s : State) : Res := s.act dt (fun m => m.notice sid)

end Sys2Proof.Machine
end

