-- ==== Sys2Proof/Machine/PairApply.lean ====
section
/-! DEFINITION. What a module of a pair takes from the active one: verdict records, forwarded writes, mirror records, the
end of discovery and the resynchronisation (R432, R434, R438 to R448, R459). -/

namespace Sys2Proof.Machine

/-! ### Mirror records (R446 to R448) -/

/-- The loop's state in a mirror record; the manual names what it holds and gives no layout (log entry 45). -/
def Mach.mirrorLoop (m : Mach) : Bytes :=
  let l := m.loop
  let each := fun (f : Nat → Bytes) => allBars.flatMap f
  leBytes 1 l.learning ++ each (fun k => leBytes 4 (fget l.left k 0)) ++ each (fun k => leBytes 4 (fget l.taken k 0))
    ++ leBytes 8 (l.cycleFrom.getD (2 ^ 64 - 1)) ++ leBytes 4 l.cycleFrames
    ++ each (fun k => let f := fget l.forward k []; (List.range 1088).flatMap (fun i => leBytes 2 (ofInt 16 (nth f i 0))))
    ++ leBytes 2 (min 4000 l.cands.length)
    ++ (l.cands.take 4000).flatMap (fun c => leBytes 1 c.bar ++ leBytes 4 c.nozzle ++ leBytes 1 c.cand ++ leBytes 2 c.count)

/-- The payload of a mirror record (R446). -/
def Mach.mirrorBody (m : Mach) : Bytes :=
  leBytes 8 m.comp.framesClosed ++ leBytes 8 m.comp.framesReject ++ leBytes 8 (published m.yarrow.acc) ++ m.yarrow.runningHash
    ++ leBytes 2 m.comp.rejectLog.length
    ++ m.comp.rejectLog.flatMap (fun e => leBytes 4 e.jobId ++ leBytes 4 e.number ++ leBytes 8 e.first ++ leBytes 2 e.causes
        ++ leBytes 1 e.pulse ++ leBytes 1 e.bars ++ leBytes 4 e.seq)
    ++ m.mirrorLoop

/-- A mirror record with its header and trailer (R447). -/
def Mach.mirrorRecord (m : Mach) (no : Nat) : Bytes :=
  let body := m.mirrorBody
  let len := 36 + body.length
  let b := leBytes 4 no ++ leBytes 8 m.linkTime ++ leBytes 6 (m.fireNext 0 + 2 ^ 48 - 1) ++ leBytes 2 (divUp len 4096) ++ leBytes 4 len
    ++ leBytes 4 m.pair.verdictNo ++ leBytes 4 0 ++ body
  b ++ leBytes 4 (crc32 b)

/-- MIRROR_CYCLE (R441, R446): at the end of every 1 ms cycle the record and the count since the origin go to the peer; a
joining peer that has them waits for its index next (R459). -/
def Mach.mirrorCycle (m : Mach) : Mach :=
  if m.inStepPeer || m.joiningPeer then
    if m.pair.mirrorAt + 1000000 ≤ m.now then
      let no := m.pair.mirrorNo + 1
      let b := m.mirrorRecord no
      let m1 := m.onPair (fun p => { p with
        mirrorNo := no, lastMirror := no, mirrorAt := m.now
        resync := if p.resync = 2 then (if m.printing then 5 else 7) else p.resync })
      let m2 := (List.range (divUp b.length 4096)).foldl (fun acc i => acc.emit (.peer (.mirror no i (slice b (4096 * i) 4096)))) m1
      match m.enc.origin with
      | some o => m2.emit (.peer (.originCount m.linkTime (m.enc.raw - o)))
      | none => m2
    else m
  else m

/-- MIRROR_CYCLE. -/
def execMirrorCycle (dt : Nat) (s : State) : Res := s.act dt (fun m => m.mirrorCycle)

/-- The entries of REJECT_LOG out of a mirror record. -/
def mirrorLog (b : Bytes) (n : Nat) : List RejectEntry :=
  (List.range n).map (fun i =>
    let f := fun off k => leAt b (24 * i + off) k
    { jobId := f 0 4, number := f 4 4, first := f 8 8, causes := f 16 2, pulse := f 18 1, bars := f 19 1, seq := f 20 4 })

/-- The loop's state out of a mirror record. -/
def Loop.mirrored (l : Loop) (b : Bytes) : Loop :=
  let at32 := fun off k => leAt b (off + 4 * k) 4
  let point := fun k i => toInt 16 (leAt b (77 + 2176 * k + 2 * i) 2)
  let base := 77 + 2176 * 8
  { l with
    learning := leAt b 0 1
    left := allBars.foldl (fun t k => fset t k (at32 1 k)) l.left
    taken := allBars.foldl (fun t k => fset t k (at32 33 k)) l.taken
    cycleFrom := if leAt b 65 8 = 2 ^ 64 - 1 then none else some (leAt b 65 8)
    cycleFrames := leAt b 73 4
    forward := allBars.foldl (fun t k => fset t k ((List.range 1088).map (point k))) l.forward
    cands := (List.range (leAt b base 2)).map (fun i =>
      let f := fun off n => leAt b (base + 2 + 8 * i + off) n
      { bar := f 0 1, nozzle := f 1 4, cand := f 5 1, count := f 6 2 }) }

/-- Step 4 of a resynchronisation has ended: where the active module prints, the origin is aligned next; in every other
mode the module is in step (R459). -/
def Mach.mirrorJoins (m : Mach) : Mach :=
  if m.pair.role = 4 && m.pair.resync = 4 then
    if 5 ≤ m.pair.peerMode && m.pair.peerMode ≤ 7 then ((m.onPair (fun p => { p with resync := 5 })).pairFlag 4 true).alignJoin
    else (m.onPair (fun p => { p with role := 2, resync := 0 })).record 0x0A0E 0 ((m.now - m.pair.resyncAt) / 1000000)
  else m

/-- A complete mirror record is applied when every verdict record before it has been (R448). -/
def Mach.applyMirror (m : Mach) : Mach :=
  match m.pair.mirrorReady with
  | none => m
  | some b =>
    if m.pair.verdictApplied < leAt b 24 4 then m
    else
      let body := b.drop 32
      let n := leAt body 56 2
      Mach.mirrorJoins { m with
        comp := { m.comp with framesClosed := leAt body 0 8, framesReject := leAt body 8 8, rejectLog := mirrorLog (body.drop 58) n }
        loop := m.loop.mirrored (body.drop (58 + 24 * n))
        pair := { m.pair with
          mirrorReady := none, lastMirror := leAt b 0 4, mirrorAt := m.now, handLength := leAt body 16 8, handHash := slice body 24 32 } }

/-- MIRROR_CHUNK_RECEIVED (R447, R448): a new record replaces a partial one; the last chunk completes it, and a wrong CRC
discards it. -/
def Mach.mirrorChunk (m : Mach) (no chunk : Nat) (data : Bytes) : Mach :=
  if !(m.pair.role = 2 || m.pair.role = 4) || 16 ≤ chunk || 4096 < data.length then m
  else
    let old := match m.pair.mirrorPart with | some (n, l) => if n = no then l else [] | none => []
    let l := fset old chunk data
    let head := fget l 0 []
    let count := leAt head 18 2
    let m1 := m.onPair (fun p => { p with mirrorPart := some (no, l) })
    if head.isEmpty || !(List.range count).all (fun i => (ffind l i).isSome) then m1
    else
      let b := ((List.range count).flatMap (fun i => fget l i [])).take (leAt head 20 4)
      let good := decide (36 ≤ b.length) && crc32 (b.take (b.length - 4)) = leAt b (b.length - 4) 4
      Mach.applyMirror (m1.onPair (fun p => { p with mirrorPart := none, mirrorReady := if good then some b else p.mirrorReady }))

/-- MIRROR_CHUNK_RECEIVED. -/
def execMirrorChunkReceived (dt recordNo chunk : Nat) (data : Bytes) (s : State) : Res :=
  s.act dt (fun m => m.mirrorChunk recordNo chunk data)

/-! ### Verdict records (R443 to R445) -/

/-- A HEAD_POLICY record (R249): the decision applies from the event that it names, which is at once where that event has been
assembled or fired here, or where no run goes on. -/
def Mach.takePolicy (m : Mach) (p action event : Nat) : Mach :=
  let next := if action ≤ 1 then m.nextLineOf p else m.queueNext (barOf p)
  if m.enc.origin.isNone || decide (event < next) then m.applyPolicy p action
  else m.onFire p (fun f => { f with policies := f.policies ++ [(action, event)] })

/-- A MODE record. HOLD is a request only where this module's own web moves (R615). -/
def Mach.applyModeRecord (m : Mach) (target : Mode) (line : Nat) : Mach :=
  if m.sys.mode = .boot || m.sys.mode = .assemble || m.sys.mode = .safe then m
  else if target = .hold && m.enc.speedState != 2 then m.setMode .hold
  else m.applyMode target line

/-- A verdict record takes effect at the standby (R102, R136, R138, R249, R443, R459). -/
def Mach.applyVerdict (m : Mach) (v : VerdictBody) : Mach :=
  match v with
  | .seam id scope target applied outcome time =>
    let s : Seam := { id := id, state := 1, outcome := outcome, target := target, applied := some applied,
                      slip := if outcome = 3 then applied - target else 0, composed := 0, fired := 0, time := time, scope := scope,
                      squashed := 0, host := decide (id < 0xF000) }
    if outcome = 4 then m.seamAtOnce { s with state := 3, applied := none } else m.enterSeam s applied
  | .readiness jobLine jobId frame first last verdicts =>
    if (m.frame jobLine frame).isSome then m
    else
      let f : PrintFrame := { jobLine := jobLine, number := frame, jobId := jobId, first := first, last := last, verdicts := verdicts }
      (m.addFrame f).applyMark jobLine frame (verdictCauses verdicts) 0xFF
  | .loopCommit zones nozzles =>
    let m1 := zones.foldl (fun acc z => acc.setBlob 0x7010 0 z.1 z.2) m
    nozzles.foldl (fun acc n => acc.setBlob 0x7101 0 n.1 n.2) m1
  | .headPolicy port action event => m.takePolicy port action event
  | .frameMark jobLine frame causes bars => m.applyMark jobLine frame causes bars
  | .mode target line => m.applyModeRecord target line
  | .join id line stamp count =>
    let s : Seam := { id := id, state := 1, outcome := 1, target := line, applied := some line, slip := 0, composed := 0
                      fired := 0, time := stamp, scope := 0, squashed := 0, host := false }
    let m1 := { m with seams := { m.seams with table := addSeam m.seams.table s } }
    if m.pair.role = 4 then
      (m1.onPair (fun p => { p with joinLine := some line, joinSeam := id, peerIndex := some (stamp, count) })).alignJoin
    else m1.onPair (fun p => { p with joinLine := some line })

/-- Verdict records in the order of their numbers, at most `fuel` of them. -/
def Mach.drainVerdicts (m : Mach) : Nat → Mach
  | 0 => m
  | fuel + 1 =>
    match firstWhere (fun x => x.1 == m.pair.verdictApplied + 1) m.pair.verdictQueue with
    | none => m
    | some (no, v) =>
      (Mach.applyVerdict (m.onPair (fun p => { p with
        verdictApplied := no, verdictQueue := p.verdictQueue.filter (fun x => x.1 != no) })) v).drainVerdicts fuel

/-- VERDICT_RECORD_RECEIVED (R443, R444): acknowledged, and applied in order; a mirror record that waited for it follows. -/
def Mach.verdictRecord (m : Mach) (no : Nat) (v : VerdictBody) : Mach :=
  if !(m.pair.role = 2 || m.pair.role = 4) then m
  else
    let m1 := m.emit (.peer (.verdictAck no))
    if no ≤ m.pair.verdictApplied || m.pair.verdictQueue.any (fun x => x.1 = no) then m1
    else
      let m2 := m1.onPair (fun p => { p with verdictQueue := p.verdictQueue ++ [(no, v)] })
      (m2.drainVerdicts m2.pair.verdictQueue.length).applyMirror

/-- VERDICT_RECORD_RECEIVED. -/
def execVerdictRecordReceived (dt no : Nat) (v : VerdictBody) (s : State) : Res := s.act dt (fun m => m.verdictRecord no v)

/-! ### Forwarded writes (R438 to R440) -/

/-- The standby applies a write, acknowledges it, and goes cold where it refuses what the active module took. Index 0 with
sub-index 0x20 is a BULK_OPEN with its handle (R440, log entry 63). -/
def Mach.forwardedWrite (m : Mach) (no idx sub inst : Nat) (data : Bytes) : Mach :=
  if !(m.pair.role = 2 || m.pair.role = 4) then m
  else
    let m0 := m.onPair (fun p => { p with forwardApplied := no })
    if idx = 0 && sub = 0x20 then (m0.startTransfer (leAt data 0 4) inst 0 (data.drop 4)).emit (.peer (.forwardAck no .ok))
    else
      let m1 := Mach.writeObj { m0 with out := [] } (.peer inst) idx sub data
      let st := match answerIn (.peer inst) m1.out with | some (.answer _ _ _ st) => st | _ => .ok
      let m2 := Mach.emit { m1 with out := m.out ++ withoutAnswer (.peer inst) m1.out } (.peer (.forwardAck no st))
      if st = .ok then m2 else (m2.record 0x0A11 (idx * 256 + sub) (Config.statusByte (statusPlace st)).toNat).goCold

/-- FORWARDED_WRITE_RECEIVED. -/
def execForwardedWriteReceived (dt no idx sub inst : Nat) (data : Bytes) (s : State) : Res :=
  s.actUser dt (fun m => m.forwardedWrite no idx sub inst data)

/-! ### The end of discovery (R432, R434) -/

/-- Content of the active module's list that this module lacks or holds with another digest (R459). -/
def Mach.lacks (m : Mach) (list : List (Nat × Bytes × Nat)) : List (Nat × Bytes × Nat) :=
  list.filter (fun x => match m.content x.1 with
    | some c => !(c.state = 5 && c.hash = x.2.1)
    | none => true)

/-- A role is taken (R432), and start-up goes on: tokens are claimed and groups begin to train (R627 steps 10 to 13). -/
def Mach.takeRole (m : Mach) (role : Nat) : Mach :=
  let m1 := (m.onPair (fun p => { p with role := role, ownTime := !p.heardBind && role != 4 })).record 0x0A01 role
    (if m.pair.heardBind || m.pair.heardHare then m.pair.peerRole else 0xFF)
  let m2 := { m1 with sys := { m1.sys with step := max 10 m1.sys.step } }
  if m.sys.leavingSafe then
    ((allPorts.filter (fun p => m2.linkUp p)).foldl (fun acc p => if (acc.port p).tx.token then acc else acc.claimOnActive p) m2).tryReady
  else if m.sys.group = 0 then m2.trainGroup
  else m2

/-- The module becomes JOINING (R434, R459): at start-up its counter takes the active module's link time. -/
def Mach.startJoining (m : Mach) (list : List (Nat × Bytes × Nat)) : Mach :=
  let copy := m.lacks list
  let link : Int := (m.pair.peerLink + m.pair.delay + (m.now - m.pair.lastBind) : Nat)
  let m1 := if m.sys.leavingSafe then m else { m with linkOfs := link - (m.now : Int) }
  let m2 := (m1.takeRole 4).onPair (fun p => { p with
    resync := 1, resyncAt := m.now, toCopy := copy, joinLine := none, joinStamp := none, peerIndex := none, verdictApplied := 0
    forwardApplied := 0, verdictQueue := [], mirrorPart := none, mirrorReady := none, lastMirror := 0 })
  m2.record 0x0A0D copy.length (sumOf (copy.map (fun x => x.2.2)) / 1048576)

/-- DISCOVERY_END: the table of R432 in row order. -/
def Mach.discovered (m0 : Mach) (delay : Nat) (list : List (Nat × Bytes × Nat)) : Mach :=
  let m := m0.onPair (fun p => { p with delay := delay })
  let a := m.moduleId = 1
  if m0.pair.role != 5 || m0.sys.mode != .assemble || m0.now < m0.pair.discoveryAt + 100000000 || bit m0.pair.flags 2 then m0
  else if m.pair.heardHare && m.pair.peerModule = m.moduleId then
    let m1 := (m.record 0x0A12 m.moduleId 0).pairFlag 2 true
    let m2 := { m1 with sys := { m1.sys with step := max 10 m1.sys.step } }
    if m2.sys.group = 0 then m2.trainGroup else m2.tryReady
  else if m.pair.heardBind && m.pair.peerRole = 1 then m.startJoining list
  else if m.pair.heardBind && m.pair.peerRole = 5 then (if a then m.takeRole 1 else m.startJoining list)
  else if m.pair.heardBind || m.pair.heardHare then (if a && m.pair.peerRole != 1 then m.takeRole 1 else m.takeRole 3)
  else if a || m.pair.secondWait then m.takeRole 1
  else m0.onPair (fun p => { p with secondWait := true, discoveryAt := m.now })

/-- DISCOVERY_END. -/
def execDiscoveryEnd (dt delay : Nat) (list : List (Nat × Bytes × Nat)) (s : State) : Res :=
  s.actUser dt (fun m => m.discovered delay list)

/-! ### Resynchronisation (R459) -/

/-- What this module keeps of its own, and the active module's values for the rest (R438). -/
def ownAnd {α : Type} (own got : FMap α) : FMap α :=
  (got.filter (fun x => forwarded (x.1 / 2 ^ 24))).foldl (fun l x => fset l x.1 x.2) (own.filter (fun x => !forwarded (x.1 / 2 ^ 24)))

/-- Step 3 ends when nothing is left to copy. -/
def Mach.copied (m : Mach) : Mach := m.onPair (fun p => { p with resync := if p.toCopy.isEmpty then 4 else 3 })

/-- A copied content: the announcement of R543 and the object byte stream (log entry 45). Another digest is not taken. -/
def Mach.takeCopy (m : Mach) (h : Nat) (digest data : Bytes) : Mach :=
  let c := openedContent (data.take 128)
  let body := data.drop 128
  let maps := (List.range c.bars.length).map (fun i => (nth c.bars i 0, slice body (i * c.mapLen) c.mapLen))
  let stream := body.drop (c.bars.length * c.mapLen)
  if sha256 stream != digest then m
  else
    let m1 := m.freeBuffers h
    let c1 := { c with maps := maps, stream := stream, bufferKib := m.nat 0x8101 0 0, state := 4 }
    match Mach.takeBuffers { m1 with frc := { m1.frc with objects := fset m1.frc.objects h c1 } } h with
    | (m2, true) => m2.contentStored h
    | (m2, false) => m2

/-- RESYNC_DATA_RECEIVED (R440, R459). A standby takes copied content too. -/
def Mach.resyncData (m : Mach) (d : ResyncData) : Mach :=
  if m.pair.role = 2 then (match d with | .content h digest data => m.takeCopy h digest data | _ => m)
  else if m.pair.role != 4 then m
  else match d with
  | .values nums effNums blobs effBlobs =>
    { m with dict := {
        nums := ownAnd m.dict.nums nums, blobs := ownAnd m.dict.blobs blobs
        effNums := ownAnd m.dict.effNums effNums, effBlobs := ownAnd m.dict.effBlobs effBlobs } }
  | .seams table vals => { m with seams := { m.seams with table := table, vals := vals } }
  | .verdicts frames => { m with comp := { m.comp with frames := frames } }
  | .outputs l =>
    l.foldl (fun acc x => acc.onPso x.1 (fun p => { p with
      queue := x.2.1, held := x.2.2.1, pulseEnd := x.2.2.2.map (fun t => ((t : Int) - acc.linkOfs).toNat) })) m
  | .counters closed reject log => { m with comp := { m.comp with framesClosed := closed, framesReject := reject, rejectLog := log } }
  | .digests l =>
    let copy := m.lacks l
    let m1 := if m.pair.resync = 6 then m.record 0x0A0D copy.length (sumOf (copy.map (fun x => x.2.2)) / 1048576) else m
    (m1.onPair (fun p => { p with toCopy := copy })).copied
  | .content h digest data =>
    let m1 := m.takeCopy h digest data
    (m1.onPair (fun p => { p with toCopy := m1.lacks p.toCopy })).copied
  | .index stamp count => (m.onPair (fun p => { p with peerIndex := some (stamp, count) })).alignJoin

/-- RESYNC_DATA_RECEIVED. -/
def execResyncDataReceived (dt : Nat) (d : ResyncData) (s : State) : Res := s.act dt (fun m => m.resyncData d)

end Sys2Proof.Machine
end

