-- ==== Sys2Proof/Machine/Dispatch.lean ====
section
/-! DEFINITION. One arm for each command: its meaning, everything but the queue. -/

namespace Sys2Proof.Machine

/-- The effect of a command on the machine (95_what_each_step_holds.md). -/
def exec (i : Instr) (s : State) : Host.Outcome State Fault Refusal :=
  match i with
  | .encCount dt aLeads => Sys2Proof.Machine.execEncCount dt aLeads s
  | .encIllegal dt => Sys2Proof.Machine.execEncIllegal dt s
  | .openLine dt line => Sys2Proof.Machine.execOpenLine dt line s
  | .openLineEnded dt line => Sys2Proof.Machine.execOpenLineEnded dt line s
  | .encFaultClear dt sid v => Sys2Proof.Machine.execEncFaultClear dt sid v s
  | .indexPulse dt => Sys2Proof.Machine.execIndexPulse dt s
  | .indexArm dt sid v => Sys2Proof.Machine.execIndexArm dt sid v s
  | .gpinEdge dt n => Sys2Proof.Machine.execGpinEdge dt n s
  | .speedStall dt => Sys2Proof.Machine.execSpeedStall dt s
  | .psoPulseEnd dt n => Sys2Proof.Machine.execPsoPulseEnd dt n s
  | .psoSchedule dt sid n v => Sys2Proof.Machine.execPsoSchedule dt sid n v s
  | .commitSeam dt sid target scope id flags => Sys2Proof.Machine.execCommitSeam dt sid target scope id flags s
  | .seamCancel dt sid id => Sys2Proof.Machine.execSeamCancel dt sid id s
  | .bankLoadDone dt bar group => Sys2Proof.Machine.execBankLoadDone dt bar group s
  | .composeLine dt bar took => Sys2Proof.Machine.execComposeLine dt bar took s
  | .fireSend dt bar => Sys2Proof.Machine.execFireSend dt bar s
  | .lineSend dt port => Sys2Proof.Machine.execLineSend dt port s
  | .layerPost dt sid layer job frame content => Sys2Proof.Machine.execLayerPost dt sid layer job frame content s
  | .layerConfigWrite dt sid sub data => Sys2Proof.Machine.execLayerConfigWrite dt sid sub data s
  | .jobConfigWrite dt sid sub data => Sys2Proof.Machine.execJobConfigWrite dt sid sub data s
  | .rcConsume dt sid idx sub => Sys2Proof.Machine.execRcConsume dt sid idx sub s
  | .nozzleEdit dt sid v => Sys2Proof.Machine.execNozzleEdit dt sid v s
  | .headSlotWrite dt sid slot v => Sys2Proof.Machine.execHeadSlotWrite dt sid slot v s
  | .linkRetrain dt sid v => Sys2Proof.Machine.execLinkRetrain dt sid v s
  | .ts1Received dt port o good => Sys2Proof.Machine.execTs1Received dt port o good s
  | .ts2Received dt port o => Sys2Proof.Machine.execTs2Received dt port o s
  | .eqStepTimer dt port eye => Sys2Proof.Machine.execEqStepTimer dt port eye s
  | .trainTimeout dt port => Sys2Proof.Machine.execTrainTimeout dt port s
  | .lockLost dt port => Sys2Proof.Machine.execLockLost dt port s
  | .rxInvalidSymbol dt port gap => Sys2Proof.Machine.execRxInvalidSymbol dt port gap s
  | .linkSleep dt sid v => Sys2Proof.Machine.execLinkSleep dt sid v s
  | .eiosReceived dt port => Sys2Proof.Machine.execEiosReceived dt port s
  | .wakeBurstReceived dt port => Sys2Proof.Machine.execWakeBurstReceived dt port s
  | .timeSyncTimer dt => Sys2Proof.Machine.execTimeSyncTimer dt s
  | .delayExchange dt port => Sys2Proof.Machine.execDelayExchange dt port s
  | .ackTimeEcho dt port t2 t3 lastSeq lostMask => Sys2Proof.Machine.execAckTimeEcho dt port t2 t3 lastSeq lostMask s
  | .ackCumulative dt port lastSeq lostMask => Sys2Proof.Machine.execAckCumulative dt port lastSeq lostMask s
  | .livenessTimer dt => Sys2Proof.Machine.execLivenessTimer dt s
  | .nakReceived dt port first missing reason => Sys2Proof.Machine.execNakReceived dt port first missing reason s
  | .rxFrameBad dt port => Sys2Proof.Machine.execRxFrameBad dt port s
  | .statusReceived dt port seq st => Sys2Proof.Machine.execStatusReceived dt port seq st s
  | .statusTimeout dt port => Sys2Proof.Machine.execStatusTimeout dt port s
  | .tokenGrantReceived dt port seq g => Sys2Proof.Machine.execTokenGrantReceived dt port seq g s
  | .tokenClaimTimeout dt port => Sys2Proof.Machine.execTokenClaimTimeout dt port s
  | .cfgReplyReceived dt port seq write addr result data => Sys2Proof.Machine.execCfgReplyReceived dt port seq write addr result data s
  | .cfgTimeout dt port => Sys2Proof.Machine.execCfgTimeout dt port s
  | .refConfigWrite dt sid v => Sys2Proof.Machine.execRefConfigWrite dt sid v s
  | .headReenable dt sid v => Sys2Proof.Machine.execHeadReenable dt sid v s
  | .gateInhibit dt k => Sys2Proof.Machine.execGateInhibit dt k s
  | .gateClear dt sid v => Sys2Proof.Machine.execGateClear dt sid v s
  | .gateInputInactive dt k => Sys2Proof.Machine.execGateInputInactive dt k s
  | .trigPulseEnd dt cam => Sys2Proof.Machine.execTrigPulseEnd dt cam s
  | .flashStart dt cam => Sys2Proof.Machine.execFlashStart dt cam s
  | .flashEnd dt cam => Sys2Proof.Machine.execFlashEnd dt cam s
  | .csiFrameStart dt cam => Sys2Proof.Machine.execCsiFrameStart dt cam s
  | .csiRowReceived dt cam pixels crcOk writerKeepsUp => Sys2Proof.Machine.execCsiRowReceived dt cam pixels crcOk writerKeepsUp s
  | .csiFrameEnd dt cam => Sys2Proof.Machine.execCsiFrameEnd dt cam s
  | .fsTimeout dt cam => Sys2Proof.Machine.execFsTimeout dt cam s
  | .feTimeout dt cam => Sys2Proof.Machine.execFeTimeout dt cam s
  | .camSoftTrigger dt sid v => Sys2Proof.Machine.execCamSoftTrigger dt sid v s
  | .camConfigWrite dt sid idx sub data => Sys2Proof.Machine.execCamConfigWrite dt sid idx sub data s
  | .camBusTransferDone dt cam acked => Sys2Proof.Machine.execCamBusTransferDone dt cam acked s
  | .camExposureCommit dt sid v => Sys2Proof.Machine.execCamExposureCommit dt sid v s
  | .camStreamCommit dt sid v => Sys2Proof.Machine.execCamStreamCommit dt sid v s
  | .loopComputeDone dt => Sys2Proof.Machine.execLoopComputeDone dt s
  | .loopComputeOverrun dt => Sys2Proof.Machine.execLoopComputeOverrun dt s
  | .loopSeamRetry dt => Sys2Proof.Machine.execLoopSeamRetry dt s
  | .loopModeWrite dt sid v => Sys2Proof.Machine.execLoopModeWrite dt sid v s
  | .loopBarReset dt sid v => Sys2Proof.Machine.execLoopBarReset dt sid v s
  | .loopBaselineSave dt sid v => Sys2Proof.Machine.execLoopBaselineSave dt sid v s
  | .baselineSaveTimer dt => Sys2Proof.Machine.execBaselineSaveTimer dt s
  | .frcCodingDone dt disagree => Sys2Proof.Machine.execFrcCodingDone dt disagree s
  | .frcVerifyDone dt handle => Sys2Proof.Machine.execFrcVerifyDone dt handle s
  | .refreshDue dt ch rate pQueued => Sys2Proof.Machine.execRefreshDue dt ch rate pQueued s
  | .refreshPaybackStart dt ch => Sys2Proof.Machine.execRefreshPaybackStart dt ch s
  | .mr4Poll dt ch rate => Sys2Proof.Machine.execMr4Poll dt ch rate s
  | .memTempRead dt ch temp => Sys2Proof.Machine.execMemTempRead dt ch temp s
  | .agePromotion dt ch k => Sys2Proof.Machine.execAgePromotion dt ch k s
  | .arbCutoff dt q addr cycles => Sys2Proof.Machine.execArbCutoff dt q addr cycles s
  | .arbCommit dt sid v => Sys2Proof.Machine.execArbCommit dt sid v s
  | .urgentLift dt sid v => Sys2Proof.Machine.execUrgentLift dt sid v s
  | .arbReenable dt sid v => Sys2Proof.Machine.execArbReenable dt sid v s
  | .memReadDone dt ch q latency => Sys2Proof.Machine.execMemReadDone dt ch q latency s
  | .engineFault dt n cause => Sys2Proof.Machine.execEngineFault dt n cause s
  | .supervisorWatchdog dt => Sys2Proof.Machine.execSupervisorWatchdog dt s
  | .userImage dt sid image => Sys2Proof.Machine.execUserImage dt sid image s
  | .userRun dt sid v => Sys2Proof.Machine.execUserRun dt sid v s
  | .userWatchdog dt cause => Sys2Proof.Machine.execUserWatchdog dt cause s
  | .userWdtRestart dt => Sys2Proof.Machine.execUserWdtRestart dt s
  | .userDictRequest dt idx sub write consume data => Sys2Proof.Machine.execUserDictRequest dt idx sub write consume data s
  | .userMailboxIn dt sid msg => Sys2Proof.Machine.execUserMailboxIn dt sid msg s
  | .userMailboxPost dt msg => Sys2Proof.Machine.execUserMailboxPost dt msg s
  | .userMailboxRead dt => Sys2Proof.Machine.execUserMailboxRead dt s
  | .semTry dt n sem => Sys2Proof.Machine.execSemTry dt n sem s
  | .semWait dt n sem => Sys2Proof.Machine.execSemWait dt n sem s
  | .semRelease dt n sem => Sys2Proof.Machine.execSemRelease dt n sem s
  | .semRenew dt n sem => Sys2Proof.Machine.execSemRenew dt n sem s
  | .semDeclareRecovery dt n sem => Sys2Proof.Machine.execSemDeclareRecovery dt n sem s
  | .semLeaseExpired dt sem => Sys2Proof.Machine.execSemLeaseExpired dt sem s
  | .dbgChallenge dt scope => Sys2Proof.Machine.execDbgChallenge dt scope s
  | .dbgResponse dt scope key sig => Sys2Proof.Machine.execDbgResponse dt scope key sig s
  | .tapBypass dt code => Sys2Proof.Machine.execTapBypass dt code s
  | .tapIdcode dt => Sys2Proof.Machine.execTapIdcode dt s
  | .tapSamplePreload dt preload lands => Sys2Proof.Machine.execTapSamplePreload dt preload lands s
  | .tapExtest dt => Sys2Proof.Machine.execTapExtest dt s
  | .tapClamp dt => Sys2Proof.Machine.execTapClamp dt s
  | .tapHighz dt => Sys2Proof.Machine.execTapHighz dt s
  | .tapReset dt => Sys2Proof.Machine.execTapReset dt s
  | .dbgHalt dt n => Sys2Proof.Machine.execDbgHalt dt n s
  | .dbgResume dt n => Sys2Proof.Machine.execDbgResume dt n s
  | .dbgStep dt n => Sys2Proof.Machine.execDbgStep dt n s
  | .dbgSetBp dt n bp data => Sys2Proof.Machine.execDbgSetBp dt n bp data s
  | .dbgClearBp dt n bp => Sys2Proof.Machine.execDbgClearBp dt n bp s
  | .dbgReadReg dt n reg => Sys2Proof.Machine.execDbgReadReg dt n reg s
  | .dbgWriteReg dt n reg data => Sys2Proof.Machine.execDbgWriteReg dt n reg data s
  | .dbgReadMem dt n addr => Sys2Proof.Machine.execDbgReadMem dt n addr s
  | .dbgWriteMem dt n addr data => Sys2Proof.Machine.execDbgWriteMem dt n addr data s
  | .dbgSemAcquire dt sem wait => Sys2Proof.Machine.execDbgSemAcquire dt sem wait s
  | .dbgSemRelease dt sem => Sys2Proof.Machine.execDbgSemRelease dt sem s
  | .dbgSemRecovered dt sem => Sys2Proof.Machine.execDbgSemRecovered dt sem s
  | .breakpointHit dt n bp => Sys2Proof.Machine.execBreakpointHit dt n bp s
  | .dbgTimeout dt => Sys2Proof.Machine.execDbgTimeout dt s
  | .heartbeatTimer dt => Sys2Proof.Machine.execHeartbeatTimer dt s
  | .harebellTimer dt => Sys2Proof.Machine.execHarebellTimer dt s
  | .bindweedHeartbeat dt role mode lastVerdict lastMirror phi0 linkTime => Sys2Proof.Machine.execBindweedHeartbeat dt role mode lastVerdict lastMirror phi0 linkTime s
  | .harebellFrame dt bits => Sys2Proof.Machine.execHarebellFrame dt bits s
  | .pathAbsent dt path lanes => Sys2Proof.Machine.execPathAbsent dt path lanes s
  | .yieldReceived dt => Sys2Proof.Machine.execYieldReceived dt s
  | .verdictRecordReceived dt no v => Sys2Proof.Machine.execVerdictRecordReceived dt no v s
  | .verdictAckReceived dt no => Sys2Proof.Machine.execVerdictAckReceived dt no s
  | .verdictAckTimeout dt lanes => Sys2Proof.Machine.execVerdictAckTimeout dt lanes s
  | .forwardedWriteReceived dt no idx sub inst data => Sys2Proof.Machine.execForwardedWriteReceived dt no idx sub inst data s
  | .mirrorCycle dt => Sys2Proof.Machine.execMirrorCycle dt s
  | .mirrorChunkReceived dt recordNo chunk data => Sys2Proof.Machine.execMirrorChunkReceived dt recordNo chunk data s
  | .originStampReceived dt isCount time count => Sys2Proof.Machine.execOriginStampReceived dt isCount time count s
  | .peerStatsReceived dt p => Sys2Proof.Machine.execPeerStatsReceived dt p s
  | .stopReportReceived dt cause ports event => Sys2Proof.Machine.execStopReportReceived dt cause ports event s
  | .digestReceived dt handle digest => Sys2Proof.Machine.execDigestReceived dt handle digest s
  | .ingestWaitExpiry dt handle => Sys2Proof.Machine.execIngestWaitExpiry dt handle s
  | .discoveryEnd dt delay list => Sys2Proof.Machine.execDiscoveryEnd dt delay list s
  | .forwardAckReceived dt no st => Sys2Proof.Machine.execForwardAckReceived dt no st s
  | .resyncDataReceived dt d => Sys2Proof.Machine.execResyncDataReceived dt d s
  | .yrEncCount dt aLeads => Sys2Proof.Machine.execYrEncCount dt aLeads s
  | .encXCount dt aLeads => Sys2Proof.Machine.execEncXCount dt aLeads s
  | .calLenStart dt sid v => Sys2Proof.Machine.execCalLenStart dt sid v s
  | .yrJobStart dt seq good jobId line channels increment => Sys2Proof.Machine.execYrJobStart dt seq good jobId line channels increment s
  | .yrJobEnd dt seq good => Sys2Proof.Machine.execYrJobEnd dt seq good s
  | .yrOrigin dt seq good => Sys2Proof.Machine.execYrOrigin dt seq good s
  | .yrIdle dt seq good => Sys2Proof.Machine.execYrIdle dt seq good s
  | .yrTick dt seq good time domain line phi7 => Sys2Proof.Machine.execYrTick dt seq good time domain line phi7 s
  | .yrGap dt seq good restart => Sys2Proof.Machine.execYrGap dt seq good restart s
  | .yrDropBlock dt seq good port b => Sys2Proof.Machine.execYrDropBlock dt seq good port b s
  | .totalsSave dt => Sys2Proof.Machine.execTotalsSave dt s
  | .yrTempRead dt temps => Sys2Proof.Machine.execYrTempRead dt temps s
  | .sealCheck dt loopClosed => Sys2Proof.Machine.execSealCheck dt loopClosed s
  | .lockstepMismatch dt => Sys2Proof.Machine.execLockstepMismatch dt s
  | .yrRestartDone dt => Sys2Proof.Machine.execYrRestartDone dt s
  | .metroNonce dt sid => Sys2Proof.Machine.execMetroNonce dt sid s
  | .nonceExpiry dt => Sys2Proof.Machine.execNonceExpiry dt s
  | .metroWrite dt sid data key => Sys2Proof.Machine.execMetroWrite dt sid data key s
  | .metroStopClear dt sid v => Sys2Proof.Machine.execMetroStopClear dt sid v s
  | .yrFwImage dt sid image sig key => Sys2Proof.Machine.execYrFwImage dt sid image sig key s
  | .trailRenew dt sid data key => Sys2Proof.Machine.execTrailRenew dt sid data key s
  | .reportRequest dt sid data => Sys2Proof.Machine.execReportRequest dt sid data s
  | .reportReady dt => Sys2Proof.Machine.execReportReady dt s
  | .markRenderDone dt => Sys2Proof.Machine.execMarkRenderDone dt s
  | .yarrowSilent dt => Sys2Proof.Machine.execYarrowSilent dt s
  | .yrEncIllegal dt => Sys2Proof.Machine.execYrEncIllegal dt s
  | .yrOpenLine dt input line opens => Sys2Proof.Machine.execYrOpenLine dt input line opens s
  | .yarrowSelfTestDone dt region foreignKey foreignHash => Sys2Proof.Machine.execYarrowSelfTestDone dt region foreignKey foreignHash s
  | .netFrameReceived dt port f => Sys2Proof.Machine.execNetFrameReceived dt port f s
  | .netLinkUp dt port => Sys2Proof.Machine.execNetLinkUp dt port s
  | .netLinkDown dt port cause => Sys2Proof.Machine.execNetLinkDown dt port cause s
  | .netConfigWrite dt sid port v => Sys2Proof.Machine.execNetConfigWrite dt sid port v s
  | .ptpSync dt dom port sender seq twoStep origin corr stamp logInterval => Sys2Proof.Machine.execPtpSync dt dom port sender seq twoStep origin corr stamp logInterval s
  | .ptpFollowUp dt dom port sender seq origin corr => Sys2Proof.Machine.execPtpFollowUp dt dom port sender seq origin corr s
  | .ptpAnnounce dt dom port a => Sys2Proof.Machine.execPtpAnnounce dt dom port a s
  | .ptpDelayResp dt dom port sender seq time corr logMin => Sys2Proof.Machine.execPtpDelayResp dt dom port sender seq time corr logMin s
  | .ptpPdelayReq dt dom port sender seq stamp => Sys2Proof.Machine.execPtpPdelayReq dt dom port sender seq stamp s
  | .ptpPdelayResp dt dom port sender seq followUp time corr stamp => Sys2Proof.Machine.execPtpPdelayResp dt dom port sender seq followUp time corr stamp s
  | .delayReqTimer dt dom => Sys2Proof.Machine.execDelayReqTimer dt dom s
  | .pdelayReqTimer dt dom port => Sys2Proof.Machine.execPdelayReqTimer dt dom port s
  | .ptpHoldover dt dom => Sys2Proof.Machine.execPtpHoldover dt dom s
  | .tdConfigWrite dt sid dom v => Sys2Proof.Machine.execTdConfigWrite dt sid dom v s
  | .tdSet dt sid dom v => Sys2Proof.Machine.execTdSet dt sid dom v s
  | .timeSelectWrite dt sid v => Sys2Proof.Machine.execTimeSelectWrite dt sid v s
  | .slewEnd dt => Sys2Proof.Machine.execSlewEnd dt s
  | .hello dt m => Sys2Proof.Machine.execHello dt m s
  | .auth dt m => Sys2Proof.Machine.execAuth dt m s
  | .authBlockExpiry dt src => Sys2Proof.Machine.execAuthBlockExpiry dt src s
  | .close dt m => Sys2Proof.Machine.execClose dt m s
  | .keepalive dt m => Sys2Proof.Machine.execKeepalive dt m s
  | .access dt m => Sys2Proof.Machine.execAccess dt m s
  | .bulkOpen dt m => Sys2Proof.Machine.execBulkOpen dt m s
  | .bulkStatus dt m => Sys2Proof.Machine.execBulkStatus dt m s
  | .bulkClose dt m => Sys2Proof.Machine.execBulkClose dt m s
  | .bulkChunk dt datagram => Sys2Proof.Machine.execBulkChunk dt datagram s
  | .bulkTimeout dt tid => Sys2Proof.Machine.execBulkTimeout dt tid s
  | .subscribe dt m => Sys2Proof.Machine.execSubscribe dt m s
  | .unsubscribe dt m => Sys2Proof.Machine.execUnsubscribe dt m s
  | .authTimeout dt sid => Sys2Proof.Machine.execAuthTimeout dt sid s
  | .idleTimeout dt sid => Sys2Proof.Machine.execIdleTimeout dt sid s
  | .notice dt sid => Sys2Proof.Machine.execNotice dt sid s
  | .contentRelease dt sid handle => Sys2Proof.Machine.execContentRelease dt sid handle s
  | .dictQuery dt sid v => Sys2Proof.Machine.execDictQuery dt sid v s
  | .jobMemRead dt sid offset length => Sys2Proof.Machine.execJobMemRead dt sid offset length s
  | .dictWrite dt sid idx sub data => Sys2Proof.Machine.execDictWrite dt sid idx sub data s
  | .recordWindowClose dt k => Sys2Proof.Machine.execRecordWindowClose dt k s
  | .recorderClear dt sid v => Sys2Proof.Machine.execRecorderClear dt sid v s
  | .storeSave dt sid v => Sys2Proof.Machine.execStoreSave dt sid v s
  | .storeWriteDone dt good => Sys2Proof.Machine.execStoreWriteDone dt good s
  | .calLinkMeasure dt sid v => Sys2Proof.Machine.execCalLinkMeasure dt sid v s
  | .calCamStart dt sid v => Sys2Proof.Machine.execCalCamStart dt sid v s
  | .camTempRead dt cam v => Sys2Proof.Machine.execCamTempRead dt cam v s
  | .calCamStarted dt => Sys2Proof.Machine.execCalCamStarted dt s
  | .calArmSettle dt => Sys2Proof.Machine.execCalArmSettle dt s
  | .calFrameTrigger dt cam => Sys2Proof.Machine.execCalFrameTrigger dt cam s
  | .modeRequestIdle dt sid => Sys2Proof.Machine.execModeRequestIdle dt sid s
  | .modeRequestPrime dt sid => Sys2Proof.Machine.execModeRequestPrime dt sid s
  | .modeRequestArmed dt sid => Sys2Proof.Machine.execModeRequestArmed dt sid s
  | .modeRequestPrint dt sid => Sys2Proof.Machine.execModeRequestPrint dt sid s
  | .modeRequestHold dt sid => Sys2Proof.Machine.execModeRequestHold dt sid s
  | .modeRequestCalibrate dt sid => Sys2Proof.Machine.execModeRequestCalibrate dt sid s
  | .modeRequestService dt sid => Sys2Proof.Machine.execModeRequestService dt sid s
  | .modeRequestVerify dt sid => Sys2Proof.Machine.execModeRequestVerify dt sid s
  | .modeRequestReset dt sid => Sys2Proof.Machine.execModeRequestReset dt sid s
  | .modeRequestSafe dt sid => Sys2Proof.Machine.execModeRequestSafe dt sid s
  | .stationaryStart dt sid v => Sys2Proof.Machine.execStationaryStart dt sid v s
  | .stationaryLine dt => Sys2Proof.Machine.execStationaryLine dt s
  | .powerGood dt => Sys2Proof.Machine.execPowerGood dt s
  | .fwVerifyDone dt => Sys2Proof.Machine.execFwVerifyDone dt s
  | .dramTrainingDone dt => Sys2Proof.Machine.execDramTrainingDone dt s
  | .storeLoadDone dt bad missing => Sys2Proof.Machine.execStoreLoadDone dt bad missing s
  | .portGroupTrain dt => Sys2Proof.Machine.execPortGroupTrain dt s
  | .resetN dt => Sys2Proof.Machine.execResetN dt s
  | .resetRelease dt => Sys2Proof.Machine.execResetRelease dt s
  | .fwImage dt sid data => Sys2Proof.Machine.execFwImage dt sid data s
  | .fwActivate dt sid slot => Sys2Proof.Machine.execFwActivate dt sid slot s
  | .fwConfirm dt sid v => Sys2Proof.Machine.execFwConfirm dt sid v s
  | .otpConfigWrite dt sid block good => Sys2Proof.Machine.execOtpConfigWrite dt sid block good s
  | .otpRevoke dt sid slot good => Sys2Proof.Machine.execOtpRevoke dt sid slot good s
  | .junctionTempRead dt main yarrow dcdc vin iin pin => Sys2Proof.Machine.execJunctionTempRead dt main yarrow dcdc vin iin pin s
  | .thermalTripRelease dt => Sys2Proof.Machine.execThermalTripRelease dt s
  | .vinHigh dt vin => Sys2Proof.Machine.execVinHigh dt vin s
  | .railFault dt rails => Sys2Proof.Machine.execRailFault dt rails s
  | .powerFail dt source vin => Sys2Proof.Machine.execPowerFail dt source vin s
  | .powerFailHoldEnd dt => Sys2Proof.Machine.execPowerFailHoldEnd dt s
  | .powerRestored dt => Sys2Proof.Machine.execPowerRestored dt s
  | .vinBrownout dt => Sys2Proof.Machine.execVinBrownout dt s
  | .vinStartThreshold dt vin => Sys2Proof.Machine.execVinStartThreshold dt vin s
  | .vinOutOfRange dt side vin => Sys2Proof.Machine.execVinOutOfRange dt side vin s

end Sys2Proof.Machine
end

