-- ==== Sys2Proof/WellFormed.lean ====
section
/-! DEFINITION. Which commands name a unit that the module has (R3, R19, R20). -/

namespace Sys2Proof

/-- The command names only ports, bars, cameras, channels, engines and other units that exist. -/
def Instr.wf (i : Instr) : Bool :=
  match i with
  | .encCount _ _ => true
  | .encIllegal _ => true
  | .openLine _ _ => true
  | .openLineEnded _ _ => true
  | .encFaultClear _ _ _ => true
  | .indexPulse _ => true
  | .indexArm _ _ _ => true
  | .gpinEdge _ n => decide (n < 8)
  | .speedStall _ => true
  | .psoPulseEnd _ n => decide (n < 16)
  | .psoSchedule _ _ _ _ => true
  | .commitSeam _ _ _ _ _ _ => true
  | .seamCancel _ _ _ => true
  | .bankLoadDone _ bar group => decide (bar < 8) && decide (group < 6)
  | .composeLine _ bar _ => decide (bar < 8)
  | .fireSend _ bar => decide (bar < 8)
  | .lineSend _ port => decide (port < 64)
  | .layerPost _ _ _ _ _ _ => true
  | .layerConfigWrite _ _ _ _ => true
  | .jobConfigWrite _ _ _ _ => true
  | .rcConsume _ _ _ _ => true
  | .nozzleEdit _ _ _ => true
  | .headSlotWrite _ _ _ _ => true
  | .linkRetrain _ _ _ => true
  | .ts1Received _ port _ _ => decide (port < 64)
  | .ts2Received _ port _ => decide (port < 64)
  | .eqStepTimer _ port _ => decide (port < 64)
  | .trainTimeout _ port => decide (port < 64)
  | .lockLost _ port => decide (port < 64)
  | .rxInvalidSymbol _ port _ => decide (port < 64)
  | .linkSleep _ _ _ => true
  | .eiosReceived _ port => decide (port < 64)
  | .wakeBurstReceived _ port => decide (port < 64)
  | .timeSyncTimer _ => true
  | .delayExchange _ port => decide (port < 64)
  | .ackTimeEcho _ port _ _ _ _ => decide (port < 64)
  | .ackCumulative _ port _ _ => decide (port < 64)
  | .livenessTimer _ => true
  | .nakReceived _ port _ _ _ => decide (port < 64)
  | .rxFrameBad _ port => decide (port.port < 64)
  | .statusReceived _ port _ _ => decide (port < 64)
  | .statusTimeout _ port => decide (port < 64)
  | .tokenGrantReceived _ port _ _ => decide (port < 64)
  | .tokenClaimTimeout _ port => decide (port < 64)
  | .cfgReplyReceived _ port _ _ _ _ _ => decide (port < 64)
  | .cfgTimeout _ port => decide (port < 64)
  | .refConfigWrite _ _ _ => true
  | .headReenable _ _ _ => true
  | .gateInhibit _ k => decide (k < 10)
  | .gateClear _ _ _ => true
  | .gateInputInactive _ k => decide (k < 10)
  | .trigPulseEnd _ cam => decide (cam < 4)
  | .flashStart _ cam => decide (cam < 4)
  | .flashEnd _ cam => decide (cam < 4)
  | .csiFrameStart _ cam => decide (cam.cam < 4) && decide (cam.vc < 4)
  | .csiRowReceived _ cam pixels _ _ => decide (cam.cam < 4) && decide (cam.vc < 4) && decide (pixels.type < 64)
  | .csiFrameEnd _ cam => decide (cam.cam < 4) && decide (cam.vc < 4)
  | .fsTimeout _ cam => decide (cam < 4)
  | .feTimeout _ cam => decide (cam < 4)
  | .camSoftTrigger _ _ _ => true
  | .camConfigWrite _ _ _ _ _ => true
  | .camBusTransferDone _ cam _ => decide (cam < 4)
  | .camExposureCommit _ _ _ => true
  | .camStreamCommit _ _ _ => true
  | .loopComputeDone _ => true
  | .loopComputeOverrun _ => true
  | .loopSeamRetry _ => true
  | .loopModeWrite _ _ _ => true
  | .loopBarReset _ _ _ => true
  | .loopBaselineSave _ _ _ => true
  | .baselineSaveTimer _ => true
  | .frcCodingDone _ _ => true
  | .frcVerifyDone _ _ => true
  | .refreshDue _ ch _ _ => decide (ch < 8)
  | .refreshPaybackStart _ ch => decide (ch < 8)
  | .mr4Poll _ ch _ => decide (ch < 8)
  | .memTempRead _ ch _ => decide (ch < 8)
  | .agePromotion _ ch _ => decide (ch < 8)
  | .arbCutoff _ q _ _ => decide (q < 23)
  | .arbCommit _ _ _ => true
  | .urgentLift _ _ _ => true
  | .arbReenable _ _ _ => true
  | .memReadDone _ ch q _ => decide (ch < 8) && decide (q < 8)
  | .engineFault _ n _ => decide (n < 13)
  | .supervisorWatchdog _ => true
  | .userImage _ _ _ => true
  | .userRun _ _ _ => true
  | .userWatchdog _ _ => true
  | .userWdtRestart _ => true
  | .userDictRequest _ _ _ _ _ _ => true
  | .userMailboxIn _ _ _ => true
  | .userMailboxPost _ _ => true
  | .userMailboxRead _ => true
  | .semTry _ n _ => decide (n < 14)
  | .semWait _ n _ => decide (n < 14)
  | .semRelease _ n _ => decide (n < 14)
  | .semRenew _ n _ => decide (n < 14)
  | .semDeclareRecovery _ n _ => decide (n < 14)
  | .semLeaseExpired _ s => decide (s < 64)
  | .dbgChallenge _ _ => true
  | .dbgResponse _ _ _ _ => true
  | .tapBypass _ _ => true
  | .tapIdcode _ => true
  | .tapSamplePreload _ _ _ => true
  | .tapExtest _ => true
  | .tapClamp _ => true
  | .tapHighz _ => true
  | .tapReset _ => true
  | .dbgHalt _ _ => true
  | .dbgResume _ _ => true
  | .dbgStep _ _ => true
  | .dbgSetBp _ _ _ _ => true
  | .dbgClearBp _ _ _ => true
  | .dbgReadReg _ _ _ => true
  | .dbgWriteReg _ _ _ _ => true
  | .dbgReadMem _ _ _ => true
  | .dbgWriteMem _ _ _ _ => true
  | .dbgSemAcquire _ _ _ => true
  | .dbgSemRelease _ _ => true
  | .dbgSemRecovered _ _ => true
  | .breakpointHit _ n bp => decide (n < 16) && decide (bp < 4)
  | .dbgTimeout _ => true
  | .heartbeatTimer _ => true
  | .harebellTimer _ => true
  | .bindweedHeartbeat _ _ _ _ _ _ _ => true
  | .harebellFrame _ _ => true
  | .pathAbsent _ path _ => decide (path < 2)
  | .yieldReceived _ => true
  | .verdictRecordReceived _ _ _ => true
  | .verdictAckReceived _ _ => true
  | .verdictAckTimeout _ _ => true
  | .forwardedWriteReceived _ _ _ _ _ _ => true
  | .mirrorCycle _ => true
  | .mirrorChunkReceived _ _ _ _ => true
  | .originStampReceived _ _ _ _ => true
  | .peerStatsReceived _ _ => true
  | .stopReportReceived _ _ _ _ => true
  | .digestReceived _ _ _ => true
  | .ingestWaitExpiry _ _ => true
  | .discoveryEnd _ _ _ => true
  | .forwardAckReceived _ _ _ => true
  | .resyncDataReceived _ _ => true
  | .yrEncCount _ _ => true
  | .encXCount _ _ => true
  | .calLenStart _ _ _ => true
  | .yrJobStart _ _ _ _ _ _ _ => true
  | .yrJobEnd _ _ _ => true
  | .yrOrigin _ _ _ => true
  | .yrIdle _ _ _ => true
  | .yrTick _ _ _ _ _ _ _ => true
  | .yrGap _ _ _ _ => true
  | .yrDropBlock _ _ _ port _ => decide (port < 64)
  | .totalsSave _ => true
  | .yrTempRead _ _ => true
  | .sealCheck _ _ => true
  | .lockstepMismatch _ => true
  | .yrRestartDone _ => true
  | .metroNonce _ _ => true
  | .nonceExpiry _ => true
  | .metroWrite _ _ _ _ => true
  | .metroStopClear _ _ _ => true
  | .yrFwImage _ _ _ _ _ => true
  | .trailRenew _ _ _ _ => true
  | .reportRequest _ _ _ => true
  | .reportReady _ => true
  | .markRenderDone _ => true
  | .yarrowSilent _ => true
  | .yrEncIllegal _ => true
  | .yrOpenLine _ _ _ _ => true
  | .yarrowSelfTestDone _ _ _ _ => true
  | .netFrameReceived _ port _ => decide (port < 2)
  | .netLinkUp _ port => decide (port < 2)
  | .netLinkDown _ port _ => decide (port < 2)
  | .netConfigWrite _ _ _ _ => true
  | .ptpSync _ dom port _ _ _ _ _ _ _ => decide (dom < 2) && decide (port < 2)
  | .ptpFollowUp _ dom port _ _ _ _ => decide (dom < 2) && decide (port < 2)
  | .ptpAnnounce _ dom port _ => decide (dom < 2) && decide (port < 2)
  | .ptpDelayResp _ dom port _ _ _ _ _ => decide (dom < 2) && decide (port < 2)
  | .ptpPdelayReq _ dom port _ _ _ => decide (dom < 2) && decide (port < 2)
  | .ptpPdelayResp _ dom port _ _ _ _ _ _ => decide (dom < 2) && decide (port < 2)
  | .delayReqTimer _ dom => decide (dom < 2)
  | .pdelayReqTimer _ dom port => decide (dom < 2) && decide (port < 2)
  | .ptpHoldover _ dom => decide (dom < 2)
  | .tdConfigWrite _ _ _ _ => true
  | .tdSet _ _ _ _ => true
  | .timeSelectWrite _ _ _ => true
  | .slewEnd _ => true
  | .hello _ _ => true
  | .auth _ _ => true
  | .authBlockExpiry _ _ => true
  | .close _ _ => true
  | .keepalive _ _ => true
  | .access _ _ => true
  | .bulkOpen _ _ => true
  | .bulkStatus _ _ => true
  | .bulkClose _ _ => true
  | .bulkChunk _ _ => true
  | .bulkTimeout _ _ => true
  | .subscribe _ _ => true
  | .unsubscribe _ _ => true
  | .authTimeout _ _ => true
  | .idleTimeout _ _ => true
  | .notice _ _ => true
  | .contentRelease _ _ _ => true
  | .dictQuery _ _ _ => true
  | .jobMemRead _ _ _ _ => true
  | .dictWrite _ _ _ _ _ => true
  | .recordWindowClose _ _ => true
  | .recorderClear _ _ _ => true
  | .storeSave _ _ _ => true
  | .storeWriteDone _ _ => true
  | .calLinkMeasure _ _ _ => true
  | .calCamStart _ _ _ => true
  | .camTempRead _ cam _ => decide (cam < 4)
  | .calCamStarted _ => true
  | .calArmSettle _ => true
  | .calFrameTrigger _ cam => decide (cam < 4)
  | .modeRequestIdle _ _ => true
  | .modeRequestPrime _ _ => true
  | .modeRequestArmed _ _ => true
  | .modeRequestPrint _ _ => true
  | .modeRequestHold _ _ => true
  | .modeRequestCalibrate _ _ => true
  | .modeRequestService _ _ => true
  | .modeRequestVerify _ _ => true
  | .modeRequestReset _ _ => true
  | .modeRequestSafe _ _ => true
  | .stationaryStart _ _ _ => true
  | .stationaryLine _ => true
  | .powerGood _ => true
  | .fwVerifyDone _ => true
  | .dramTrainingDone _ => true
  | .storeLoadDone _ _ _ => true
  | .portGroupTrain _ => true
  | .resetN _ => true
  | .resetRelease _ => true
  | .fwImage _ _ _ => true
  | .fwActivate _ _ _ => true
  | .fwConfirm _ _ _ => true
  | .otpConfigWrite _ _ _ _ => true
  | .otpRevoke _ _ _ _ => true
  | .junctionTempRead _ _ _ _ _ _ _ => true
  | .thermalTripRelease _ => true
  | .vinHigh _ _ => true
  | .railFault _ _ => true
  | .powerFail _ _ _ => true
  | .powerFailHoldEnd _ => true
  | .powerRestored _ => true
  | .vinBrownout _ => true
  | .vinStartThreshold _ _ => true
  | .vinOutOfRange _ _ _ => true

end Sys2Proof
end

