-- ==== Sys2Proof/Safety.lean ====
section
/-! DEFINITION. The terms in which claims are stated: the module as a command finds it, what a command leaves alone, what
passes the checks of an access, and the invariant of the machine. -/

namespace Sys2Proof.Machine

/-- The module as a command finds it: dt later, with what its lanes let go meanwhile in `out` (log entry 1). -/
def State.found (s : State) (dt : Nat) : Mach := tick dt s.m

/-- A command ends in a next state in which the module is `m`; the queue and job memory are as before. -/
def State.becomes (s : State) (m : Mach) : Res := .next { s with m := m }

/-- The same for a command that may start the user engine: where it has, the engine's window is cleared (R407). -/
def State.becomesUser (s : State) (dt : Nat) (m : Mach) : Res := .next { s with m := m, mem := clearWindow (s.found dt) m s.mem }

/-- The same for a command after which an access that waited may go on (R568, log entry 62). -/
def State.goesOn (s : State) (m : Mach) : Res := .next { s with m := (resumeRun m s.mem).1, mem := (resumeRun m s.mem).2 }

/-- A command ends in a next state. -/
def State.completes (s : State) (c : Instr) : Prop := ∃ t, exec c s = .next t

/-- A write of a number passes every check of R558 that comes before its object's own conditions. -/
def Mach.admits (m : Mach) (w : Who) (idx sub : Nat) (v : Int) : Bool :=
  m.answers w && m.writeGate w idx sub = .ok && okValueAt idx sub v

/-- A write of bytes passes every check of R558 that comes before its object's own conditions, and these are its values. -/
def Mach.admitsBytes (m : Mach) (w : Who) (idx sub levels : Nat) (data : Bytes) (vals : List (Nat × Fld × Bytes)) : Bool :=
  m.answers w && m.accessGate w idx sub levels = .ok && (findObj idx).bind (fun o => o.values sub data) = some vals
    && m.modeGate idx sub = .ok && vals.all (fun v => v.2.1.okValue v.2.2)

/-- A request of a host for another mode passes every check of R558 and R613 that comes before the mode's own. -/
def Mach.takes (m : Mach) (sid : Nat) (target : Mode) : Bool :=
  m.answers (.host sid) && !m.pairRefuses (.host sid) 0x1011 && levelHas (m.level (.host sid)) (modeLevels m.sys.mode target)
    && (modeTargets m.sys.mode).contains target && m.power.failAt.isNone

/-- A message is the next request of a session (R530, R536): well formed, with its MAC and number. -/
def Mach.hears (m : Mach) (x : HyMsg) (op : Nat) (s : Session) : Prop :=
  m.takesFrom x.net = true ∧ m.isBlocked x.src = false ∧ hyFormed x = true ∧ ffind m.hy.sessions x.sid = some s
    ∧ x.mac = hyExpected x s.kReq op ∧ x.seq = s.lastSeq + 1

/-- The module once it has taken such a request: it is counted, and the session keeps its source, time, number and MAC. -/
def Mach.heard (m : Mach) (x : HyMsg) : Mach :=
  (m.hyCount 1).onSession x.sid (fun s => { s with
    src := x.src, net := x.net, lastReq := m.now, lastSeq := x.seq, lastMac := x.mac, kept := none })

/-- The module is past reset and start-up, so that the encoder counts (R44). -/
def Mach.counts (m : Mach) : Bool := m.sys.mode != .reset && m.sys.mode != .boot

/-- Job memory is in its canonical form: addresses rise, and no listed byte is what an unlisted one reads as. -/
def State.Inv (s : State) : Prop := Memory.wf s.mem = true

/-- The commands that may change job memory: those that may start the user engine, whose window is then cleared (R407),
those after which a waiting access may go on (log entry 62), and the debug port's write and its time limit (R426). -/
def mayStore (i : Instr) : Bool :=
  match i with
  | .trainTimeout _ _ | .camBusTransferDone _ _ _ | .cfgReplyReceived _ _ _ _ _ _ _ | .forwardedWriteReceived _ _ _ _ _ _
  | .timeSyncTimer _ | .discoveryEnd _ _ _ | .dictWrite _ _ _ _ _ | .userDictRequest _ _ _ _ _ _ | .userRun _ _ _ | .userWatchdog _ _
  | .semTry _ _ _ | .semWait _ _ _ | .semRelease _ _ _ | .semRenew _ _ _ | .semDeclareRecovery _ _ _ | .semLeaseExpired _ _
  | .forwardAckReceived _ _ _ | .verdictAckTimeout _ _ | .bankLoadDone _ _ _ | .pathAbsent _ _ _ | .yieldReceived _
  | .bindweedHeartbeat _ _ _ _ _ _ _ | .ingestWaitExpiry _ _ | .storeWriteDone _ _ | .access _ _ | .dbgWriteMem _ _ _ _
  | .dbgTimeout _ => true
  | _ => false

end Sys2Proof.Machine
end

