-- ==== Sys2Proof/Certificates/Slice0/Obligations.lean ====
section
/-! DEFINITION. The statements for the provers: the step, the invariant, frames, and for every family of commands where
each command completes and what it leaves. `s.found dt` is the module as a command finds it, and `s.becomes m` a next state
in which the module is m while the queue and job memory are as before. -/

open Sys2Proof Sys2Proof.Machine


/-! ### The step and the whole machine -/

/-- A step runs the command at the front of the queue on the state with the queue's rest; on an empty queue the block idles
(log entry 1: the queue, and idling on an empty one, are the model's). -/
def Obligations.StepRunsTheFront : Prop :=
  (∀ (c : Instr) (rest : List Instr) (s : State), step { s with pending := c :: rest } = exec c { s with pending := rest })
  ∧ (∀ s : State, s.pending = [] → step s = .next s)

/-- What reset leaves: no command waits, no byte of job memory is listed, the mode is RESET, the local counter and the raw
position are 0, no origin exists, the recorder is empty, every port is down, and no session exists. Where the spec gives no
value, the value is the model's (log entries 3 and 6). -/
def Obligations.ResetLeaves : Prop :=
  State.reset.pending = [] ∧ State.reset.mem = [] ∧ State.reset.m.sys.mode = .reset ∧ State.reset.m.now = 0
    ∧ State.reset.m.enc.raw = 0 ∧ State.reset.m.enc.origin = none ∧ State.reset.m.recorder.made = 0
    ∧ State.reset.m.hy.sessions = [] ∧ ∀ p, (State.reset.m.port p).link.phase = .down

/-- Job memory is in its canonical form at reset. (log entry 6: the form is the model's) -/
def Obligations.ResetKeepsTheInvariant : Prop :=
  State.reset.Inv

/-- Every step of the machine keeps job memory in its canonical form. It holds of every state that meets it, not only of a run
from reset (log entry 6: the form is the model's). -/
def Obligations.EveryStepKeepsTheInvariant : Prop :=
  ∀ s t : State, s.Inv → step s = .next t → t.Inv

/-- A command completes in every state exactly where it names only units that the module has; none is refused. No command
changes the queue. The last part says it of every command by its name: where the port, bar, camera, channel, engine or other
unit that it names exists, it ends in a next state, whatever the state and its other operands are. (R3, R19, R20: the units
that the module has; log entry 1: the queue is the model's) -/
def Obligations.CommandsRunAndLeaveTheQueue : Prop :=
  (∀ (c : Instr) (s : State),
    (c.wf = true → ∃ t, exec c s = .next t) ∧ (c.wf = false → ∃ u n, exec c s = .fault (.noSuchUnit u n)))
  ∧ (∀ (c : Instr) (s t : State), exec c s = .next t → t.pending = s.pending)
  ∧ (∀ (s : State) (dt a b c d e f : Nat) (x y : Bool) (line : EncLine) (p q r : Bytes) (set : OrderedSet)
    (sf : StatusFrame) (grant : Grant) (row : List Nat) (pairs : List (Nat × Nat)) (j k : Int) (vb : VerdictBody)
    (ps : PeerStats) (list : List (Nat × Bytes × Nat)) (st : Status) (rd : ResyncData) (sb : StatusBlock)
    (temps : List (Option Int)) (input : EncInput) (nf : NetFrame) (an : Announce) (msg : HyMsg) (on : Option Nat)
    (bad : List (Nat × Nat × Nat)) (o₁ o₂ o₃ : Option Int),
    (s.completes (.encCount dt x) ∧ s.completes (.encIllegal dt) ∧ s.completes (.openLine dt line)
      ∧ s.completes (.openLineEnded dt line) ∧ s.completes (.encFaultClear dt a b) ∧ s.completes (.indexPulse dt)
      ∧ s.completes (.indexArm dt a b) ∧ (a < 8 → s.completes (.gpinEdge dt a)) ∧ s.completes (.speedStall dt)
      ∧ (a < 16 → s.completes (.psoPulseEnd dt a)) ∧ s.completes (.psoSchedule dt a b c)
      ∧ s.completes (.commitSeam dt a b c d e) ∧ s.completes (.seamCancel dt a b)
      ∧ (a < 8 → b < 6 → s.completes (.bankLoadDone dt a b)) ∧ (a < 8 → s.completes (.composeLine dt a b))
      ∧ (a < 8 → s.completes (.fireSend dt a)) ∧ (a < 64 → s.completes (.lineSend dt a))
      ∧ s.completes (.layerPost dt a b c d e) ∧ s.completes (.layerConfigWrite dt a b p)
      ∧ s.completes (.jobConfigWrite dt a b p) ∧ s.completes (.rcConsume dt a b c) ∧ s.completes (.nozzleEdit dt a b)
      ∧ s.completes (.headSlotWrite dt a b c) ∧ s.completes (.linkRetrain dt a b)
      ∧ (a < 64 → s.completes (.ts1Received dt a set x)) ∧ (a < 64 → s.completes (.ts2Received dt a set))
      ∧ (a < 64 → s.completes (.eqStepTimer dt a b)) ∧ (a < 64 → s.completes (.trainTimeout dt a))
      ∧ (a < 64 → s.completes (.lockLost dt a)) ∧ (a < 64 → s.completes (.rxInvalidSymbol dt a b))
      ∧ s.completes (.linkSleep dt a b) ∧ (a < 64 → s.completes (.eiosReceived dt a))
      ∧ (a < 64 → s.completes (.wakeBurstReceived dt a)) ∧ s.completes (.timeSyncTimer dt)
      ∧ (a < 64 → s.completes (.delayExchange dt a)) ∧ (a < 64 → s.completes (.ackTimeEcho dt a b c ⟨d, e⟩ f)))
    ∧ ((a < 64 → s.completes (.ackCumulative dt a ⟨b, c⟩ d)) ∧ s.completes (.livenessTimer dt)
      ∧ (a < 64 → s.completes (.nakReceived dt a ⟨b, c⟩ d e)) ∧ (a < 64 → s.completes (.rxFrameBad dt ⟨a, p, x⟩))
      ∧ (a < 64 → s.completes (.statusReceived dt a b sf)) ∧ (a < 64 → s.completes (.statusTimeout dt a))
      ∧ (a < 64 → s.completes (.tokenGrantReceived dt a b grant)) ∧ (a < 64 → s.completes (.tokenClaimTimeout dt a))
      ∧ (a < 64 → s.completes (.cfgReplyReceived dt a b x c d p)) ∧ (a < 64 → s.completes (.cfgTimeout dt a))
      ∧ s.completes (.refConfigWrite dt a b) ∧ s.completes (.headReenable dt a b)
      ∧ (a < 10 → s.completes (.gateInhibit dt a)) ∧ s.completes (.gateClear dt a b)
      ∧ (a < 10 → s.completes (.gateInputInactive dt a)) ∧ (a < 4 → s.completes (.trigPulseEnd dt a))
      ∧ (a < 4 → s.completes (.flashStart dt a)) ∧ (a < 4 → s.completes (.flashEnd dt a))
      ∧ (a < 4 → b < 4 → s.completes (.csiFrameStart dt ⟨a, b, c⟩))
      ∧ (a < 4 → b < 4 → c < 64 → s.completes (.csiRowReceived dt ⟨a, b, d⟩ ⟨c, row⟩ x y))
      ∧ (a < 4 → b < 4 → s.completes (.csiFrameEnd dt ⟨a, b, c⟩)) ∧ (a < 4 → s.completes (.fsTimeout dt a))
      ∧ (a < 4 → s.completes (.feTimeout dt a)) ∧ s.completes (.camSoftTrigger dt a b)
      ∧ s.completes (.camConfigWrite dt a b c p) ∧ (a < 4 → s.completes (.camBusTransferDone dt a x))
      ∧ s.completes (.camExposureCommit dt a b) ∧ s.completes (.camStreamCommit dt a b)
      ∧ s.completes (.loopComputeDone dt) ∧ s.completes (.loopComputeOverrun dt) ∧ s.completes (.loopSeamRetry dt)
      ∧ s.completes (.loopModeWrite dt a b) ∧ s.completes (.loopBarReset dt a b) ∧ s.completes (.loopBaselineSave dt a b)
      ∧ s.completes (.baselineSaveTimer dt) ∧ s.completes (.frcCodingDone dt pairs))
    ∧ (s.completes (.frcVerifyDone dt a) ∧ (a < 8 → s.completes (.refreshDue dt a b x))
      ∧ (a < 8 → s.completes (.refreshPaybackStart dt a)) ∧ (a < 8 → s.completes (.mr4Poll dt a b))
      ∧ (a < 8 → s.completes (.memTempRead dt a j)) ∧ (a < 8 → s.completes (.agePromotion dt a b))
      ∧ (a < 23 → s.completes (.arbCutoff dt a b c)) ∧ s.completes (.arbCommit dt a b) ∧ s.completes (.urgentLift dt a b)
      ∧ s.completes (.arbReenable dt a b) ∧ (a < 8 → b < 8 → s.completes (.memReadDone dt a b c))
      ∧ (a < 13 → s.completes (.engineFault dt a b)) ∧ s.completes (.supervisorWatchdog dt)
      ∧ s.completes (.userImage dt a p) ∧ s.completes (.userRun dt a b) ∧ s.completes (.userWatchdog dt a)
      ∧ s.completes (.userWdtRestart dt) ∧ s.completes (.userDictRequest dt a b x y p)
      ∧ s.completes (.userMailboxIn dt a p) ∧ s.completes (.userMailboxPost dt p) ∧ s.completes (.userMailboxRead dt)
      ∧ (a < 14 → s.completes (.semTry dt a b)) ∧ (a < 14 → s.completes (.semWait dt a b))
      ∧ (a < 14 → s.completes (.semRelease dt a b)) ∧ (a < 14 → s.completes (.semRenew dt a b))
      ∧ (a < 14 → s.completes (.semDeclareRecovery dt a b)) ∧ (a < 64 → s.completes (.semLeaseExpired dt a))
      ∧ s.completes (.dbgChallenge dt a) ∧ s.completes (.dbgResponse dt a p q) ∧ s.completes (.tapBypass dt a)
      ∧ s.completes (.tapIdcode dt) ∧ s.completes (.tapSamplePreload dt p q) ∧ s.completes (.tapExtest dt)
      ∧ s.completes (.tapClamp dt) ∧ s.completes (.tapHighz dt) ∧ s.completes (.tapReset dt))
    ∧ (s.completes (.dbgHalt dt a) ∧ s.completes (.dbgResume dt a) ∧ s.completes (.dbgStep dt a)
      ∧ s.completes (.dbgSetBp dt a b c) ∧ s.completes (.dbgClearBp dt a b) ∧ s.completes (.dbgReadReg dt a b)
      ∧ s.completes (.dbgWriteReg dt a b c) ∧ s.completes (.dbgReadMem dt a b) ∧ s.completes (.dbgWriteMem dt a b c)
      ∧ s.completes (.dbgSemAcquire dt a x) ∧ s.completes (.dbgSemRelease dt a) ∧ s.completes (.dbgSemRecovered dt a)
      ∧ (a < 16 → b < 4 → s.completes (.breakpointHit dt a b)) ∧ s.completes (.dbgTimeout dt)
      ∧ s.completes (.heartbeatTimer dt) ∧ s.completes (.harebellTimer dt)
      ∧ s.completes (.bindweedHeartbeat dt a b c d e f) ∧ s.completes (.harebellFrame dt a)
      ∧ (a < 2 → s.completes (.pathAbsent dt a b)) ∧ s.completes (.yieldReceived dt)
      ∧ s.completes (.verdictRecordReceived dt a vb) ∧ s.completes (.verdictAckReceived dt a)
      ∧ s.completes (.verdictAckTimeout dt a) ∧ s.completes (.forwardedWriteReceived dt a b c d p)
      ∧ s.completes (.mirrorCycle dt) ∧ s.completes (.mirrorChunkReceived dt a b p)
      ∧ s.completes (.originStampReceived dt x a j) ∧ s.completes (.peerStatsReceived dt ps)
      ∧ s.completes (.stopReportReceived dt a b c) ∧ s.completes (.digestReceived dt a p)
      ∧ s.completes (.ingestWaitExpiry dt a) ∧ s.completes (.discoveryEnd dt a list)
      ∧ s.completes (.forwardAckReceived dt a st) ∧ s.completes (.resyncDataReceived dt rd)
      ∧ s.completes (.yrEncCount dt x) ∧ s.completes (.encXCount dt x))
    ∧ (s.completes (.calLenStart dt a b) ∧ s.completes (.yrJobStart dt a x b c d e) ∧ s.completes (.yrJobEnd dt a x)
      ∧ s.completes (.yrOrigin dt a x) ∧ s.completes (.yrIdle dt a x) ∧ s.completes (.yrTick dt a x b c d e)
      ∧ s.completes (.yrGap dt a x y) ∧ (b < 64 → s.completes (.yrDropBlock dt a x b sb)) ∧ s.completes (.totalsSave dt)
      ∧ s.completes (.yrTempRead dt temps) ∧ s.completes (.sealCheck dt x) ∧ s.completes (.lockstepMismatch dt)
      ∧ s.completes (.yrRestartDone dt) ∧ s.completes (.metroNonce dt a) ∧ s.completes (.nonceExpiry dt)
      ∧ s.completes (.metroWrite dt a p q) ∧ s.completes (.metroStopClear dt a b) ∧ s.completes (.yrFwImage dt a p q r)
      ∧ s.completes (.trailRenew dt a p q) ∧ s.completes (.reportRequest dt a p) ∧ s.completes (.reportReady dt)
      ∧ s.completes (.markRenderDone dt) ∧ s.completes (.yarrowSilent dt) ∧ s.completes (.yrEncIllegal dt)
      ∧ s.completes (.yrOpenLine dt input line x) ∧ s.completes (.yarrowSelfTestDone dt a p q)
      ∧ (a < 2 → s.completes (.netFrameReceived dt a nf)) ∧ (a < 2 → s.completes (.netLinkUp dt a))
      ∧ (a < 2 → s.completes (.netLinkDown dt a b)) ∧ s.completes (.netConfigWrite dt a b c)
      ∧ (a < 2 → b < 2 → s.completes (.ptpSync dt a b c d x e j f k))
      ∧ (a < 2 → b < 2 → s.completes (.ptpFollowUp dt a b c d e j))
      ∧ (a < 2 → b < 2 → s.completes (.ptpAnnounce dt a b an))
      ∧ (a < 2 → b < 2 → s.completes (.ptpDelayResp dt a b c d e j k))
      ∧ (a < 2 → b < 2 → s.completes (.ptpPdelayReq dt a b c d e))
      ∧ (a < 2 → b < 2 → s.completes (.ptpPdelayResp dt a b c d x e j f)))
    ∧ ((a < 2 → s.completes (.delayReqTimer dt a)) ∧ (a < 2 → b < 2 → s.completes (.pdelayReqTimer dt a b))
      ∧ (a < 2 → s.completes (.ptpHoldover dt a)) ∧ s.completes (.tdConfigWrite dt a b c) ∧ s.completes (.tdSet dt a b c)
      ∧ s.completes (.timeSelectWrite dt a b) ∧ s.completes (.slewEnd dt) ∧ s.completes (.hello dt msg)
      ∧ s.completes (.auth dt msg) ∧ s.completes (.authBlockExpiry dt a) ∧ s.completes (.close dt msg)
      ∧ s.completes (.keepalive dt msg) ∧ s.completes (.access dt msg) ∧ s.completes (.bulkOpen dt msg)
      ∧ s.completes (.bulkStatus dt msg) ∧ s.completes (.bulkClose dt msg) ∧ s.completes (.bulkChunk dt p)
      ∧ s.completes (.bulkTimeout dt a) ∧ s.completes (.subscribe dt msg) ∧ s.completes (.unsubscribe dt msg)
      ∧ s.completes (.authTimeout dt a) ∧ s.completes (.idleTimeout dt a) ∧ s.completes (.notice dt a)
      ∧ s.completes (.contentRelease dt a b) ∧ s.completes (.dictQuery dt a b) ∧ s.completes (.jobMemRead dt a b c)
      ∧ s.completes (.dictWrite dt a b c p) ∧ s.completes (.recordWindowClose dt a) ∧ s.completes (.recorderClear dt a b)
      ∧ s.completes (.storeSave dt a b) ∧ s.completes (.storeWriteDone dt x) ∧ s.completes (.calLinkMeasure dt a b)
      ∧ s.completes (.calCamStart dt a b) ∧ (a < 4 → s.completes (.camTempRead dt a on)) ∧ s.completes (.calCamStarted dt)
      ∧ s.completes (.calArmSettle dt))
    ∧ ((a < 4 → s.completes (.calFrameTrigger dt a)) ∧ s.completes (.modeRequestIdle dt a)
      ∧ s.completes (.modeRequestPrime dt a) ∧ s.completes (.modeRequestArmed dt a) ∧ s.completes (.modeRequestPrint dt a)
      ∧ s.completes (.modeRequestHold dt a) ∧ s.completes (.modeRequestCalibrate dt a)
      ∧ s.completes (.modeRequestService dt a) ∧ s.completes (.modeRequestVerify dt a)
      ∧ s.completes (.modeRequestReset dt a) ∧ s.completes (.modeRequestSafe dt a) ∧ s.completes (.stationaryStart dt a b)
      ∧ s.completes (.stationaryLine dt) ∧ s.completes (.powerGood dt) ∧ s.completes (.fwVerifyDone dt)
      ∧ s.completes (.dramTrainingDone dt) ∧ s.completes (.storeLoadDone dt bad a) ∧ s.completes (.portGroupTrain dt)
      ∧ s.completes (.resetN dt) ∧ s.completes (.resetRelease dt) ∧ s.completes (.fwImage dt a p)
      ∧ s.completes (.fwActivate dt a b) ∧ s.completes (.fwConfirm dt a b) ∧ s.completes (.otpConfigWrite dt a p x)
      ∧ s.completes (.otpRevoke dt a b x) ∧ s.completes (.junctionTempRead dt o₁ o₂ o₃ a b c)
      ∧ s.completes (.thermalTripRelease dt) ∧ s.completes (.vinHigh dt a) ∧ s.completes (.railFault dt a)
      ∧ s.completes (.powerFail dt a b) ∧ s.completes (.powerFailHoldEnd dt) ∧ s.completes (.powerRestored dt)
      ∧ s.completes (.vinBrownout dt) ∧ s.completes (.vinStartThreshold dt a) ∧ s.completes (.vinOutOfRange dt a b)))

/-- Frame of job memory: but for the commands named in `mayStore`, a command leaves every byte as it was. -/
def Obligations.OtherCommandsLeaveJobMemory : Prop :=
  ∀ (c : Instr) (s t : State), mayStore c = false → exec c s = .next t → ∀ a, Memory.read t.mem a = Memory.read s.mem a

/-- Job memory reads what was written last: the byte written at its address, and every other byte as before. The user engine's
window: a command that starts E13 leaves it zero, and every byte outside it as it was. (R407; log entry 6: what an unlisted
byte reads as is the model's) -/
def Obligations.JobMemoryReadsWhatWasWritten : Prop :=
  (∀ (l : List Host.Cell) (a b : Nat) (v : Byte), Memory.wf l = true →
    Memory.read (Memory.write l a v) b = if b = a then v else Memory.read l b)
  ∧ (∀ (dt : Nat) (f : Mach → Mach) (s t : State), Memory.wf s.mem = true → s.actUser dt f = .next t →
    ∀ a, Memory.read t.mem a =
      if t.m.cpu.user.starts ≠ (s.found dt).cpu.user.starts ∧ jobBase 0 ≤ a ∧ a < jobBase 0 + t.m.windowSize then 0
      else Memory.read s.mem a)

/-- A dictionary access to an index that no chapter defines, or to a sub-index that its object does not have, is answered with
UNKNOWN_OBJECT, and nothing else happens (R554). A read-only or consume-on-read object is never written: the write is answered
with ACCESS_DENIED, and nothing else happens (R557, R558). An object that is only stored keeps its value where the mode locks
it: the write is answered with MODE_LOCKED, and nothing else happens (R558 row 5, R559). A write whose number sets a reserved
bit, or lies outside its type or its fields' ranges, is refused as a whole with OUT_OF_RANGE: nothing of the module changes
(R14, R556). -/
def Obligations.RefusedWritesChangeNothing : Prop :=
  (∀ (dt sid idx sub : Nat) (data : Bytes) (consume : Bool) (s : State),
    (s.found dt).answers (.host sid) = true →
    (match findObj idx with | none => true | some o => !o.hasSub sub) = true →
    exec (.dictWrite dt sid idx sub data) s = s.becomes ((s.found dt).reply (.host sid) idx sub .unknownObject)
      ∧ ((idx ≠ 0xC019 ∨ sub ≠ 0 ∨ consume = true) →
          (s.found dt).readObj (.host sid) idx sub consume = (s.found dt).reply (.host sid) idx sub .unknownObject))
  ∧ (∀ (dt sid idx sub : Nat) (data : Bytes) (s : State) (o : Obj),
    (s.found dt).answers (.host sid) = true → findObj idx = some o → o.hasSub sub = true → (o.acc = .ro ∨ o.acc = .rc) →
    exec (.dictWrite dt sid idx sub data) s = s.becomes ((s.found dt).reply (.host sid) idx sub .accessDenied))
  ∧ (∀ (dt sid idx sub : Nat) (data : Bytes) (s : State) (o : Obj) (vals : List (Nat × Fld × Bytes)),
    (s.found dt).answers (.host sid) = true → findObj idx = some o → o.values sub data = some vals →
    (s.found dt).accessGate (.host sid) idx sub 15 = .ok → (s.found dt).accessGate (.host sid) idx sub (writeLevels idx sub) = .ok →
    (s.found dt).modeGate idx sub = .modeLocked → (s.found dt).writeOwn (.host sid) idx sub data = none → idx ≠ 0x7010 →
    exec (.dictWrite dt sid idx sub data) s = s.becomes ((s.found dt).reply (.host sid) idx sub .modeLocked))
  ∧ (∀ (m : Mach) (w : Who) (idx sub : Nat) (v : Int) (f : Mach → Mach),
    m.answers w = true → m.writeGate w idx sub = .ok → okValueAt idx sub v = false →
    m.guardedNum w idx sub v f = m.reply w idx sub .outOfRange)

/-! ### The encoder, the index and the origin -/

/-- ENC_COUNT (R36, R44, R54, R63): every count moves the raw position by 1, up or down, whatever else it does, and line events,
triggers and estimates follow it; a count up enters the speed window; a count down past the hysteresis is noticed once and
restarts the estimator; RESET and BOOT count nothing. -/
def Obligations.CountsMoveTheRawPosition : Prop :=
  (∀ (dt : Nat) (aLeads up : Bool) (s : State) (m : Mach), s.found dt = m → m.counts = true →
    (aLeads != bit (m.nat 0x2100 0 0) 8) = up →
    ∃ t : Mach, exec (.encCount dt aLeads) s = s.becomes (((t.compares).estimates m.enc.speedState).loopPassed m)
      ∧ t.enc.raw = (if up = true then m.enc.raw + 1 else m.enc.raw - 1) ∧ t.enc.dirDown = !up ∧ t.enc.lastCount = m.now)
  ∧ (∀ (dt : Nat) (aLeads : Bool) (s : State) (m n u : Mach), s.found dt = m → m.counts = true → m.strobeCentres = n →
    (aLeads != bit (m.nat 0x2100 0 0) 8) = true → m.enc.dirNoticed = false → m.enc.waitForward = false →
    max m.enc.hiRaw (m.enc.raw + 1) - m.num 0x2105 0 0 ≤ m.enc.raw + 1 →
    Mach.overStopEnds { n with enc := { m.enc with
      raw := m.enc.raw + 1, dirDown := false, lastCount := m.now, counted := true
      hiRaw := max m.enc.hiRaw (m.enc.raw + 1), loRaw := min m.enc.loRaw (m.enc.raw + 1) } } = u →
    exec (.encCount dt aLeads) s = s.becomes (((Mach.compares { u with enc := u.enc.takeCount u.increment u.linkTime }).estimates
        m.enc.speedState).loopPassed m))
  ∧ (∀ (dt : Nat) (aLeads : Bool) (s : State) (m : Mach), s.found dt = m → m.counts = true →
    (aLeads != bit (m.nat 0x2100 0 0) 8) = false → m.enc.dirNoticed = false →
    m.enc.raw - 1 < max m.enc.hiRaw (m.enc.raw - 1) - m.num 0x2105 0 0 →
    ∃ t : Mach, exec (.encCount dt aLeads) s = s.becomes (((t.compares).estimates m.enc.speedState).loopPassed m)
      ∧ t.enc.raw = m.enc.raw - 1 ∧ t.enc.dirDown = true ∧ t.enc.dirNoticed = true ∧ t.enc.waitForward = true ∧ t.enc.window = [] ∧ t.enc.events = 0)
  ∧ (∀ (dt : Nat) (aLeads : Bool) (s : State), (s.found dt).counts = false →
    exec (.encCount dt aLeads) s = s.becomes (s.found dt))

/-- ENC_ILLEGAL, OPEN_LINE, OPEN_LINE_ENDED and ENC_FAULT_CLEAR (R35, R37 to R39, R42): what raises ENCODER_FAULT, what does
not, and what clears it. RESET and BOOT count no illegal transition. A write of 0 to ENC_FAULT_CLEAR has no effect (log entry
81: the model's choice). -/
def Obligations.EncoderFaultsAreRaisedAndCleared : Prop :=
  (∀ (dt : Nat) (s : State) (m n : Mach) (times : List Nat), s.found dt = m → m.counts = true →
    m.enc.illegalTimes.filter (fun t => decide (m.now < t + 1000000)) ++ [m.now] = times →
    Mach.record { m with enc := { m.enc with
      illegalTotal := satAdd 65535 m.enc.illegalTotal 1, illegalTimes := times
      illegalLatched := if m.enc.fault then m.enc.illegalLatched + 1 else 0 } } 0x0101 1 (p32 m.enc.raw) = n →
    (times.length < m.nat 0x2104 0 0 → exec (.encIllegal dt) s = s.becomes n)
      ∧ (m.nat 0x2104 0 0 ≤ times.length → exec (.encIllegal dt) s = s.becomes (n.raiseEncFault 0)))
  ∧ (∀ (dt : Nat) (s : State), (s.found dt).counts = false → exec (.encIllegal dt) s = s.becomes (s.found dt))
  ∧ (∀ (dt : Nat) (line : EncLine) (s : State) (m n : Mach), s.found dt = m →
    { m with enc := { m.enc with
      openLines := if m.enc.openLines.contains line then m.enc.openLines else m.enc.openLines ++ [line] } } = n →
    (bit m.enc.faultCause 1 = true → exec (.openLine dt line) s = s.becomes n)
    ∧ (bit m.enc.faultCause 1 = false → exec (.openLine dt line) s = s.becomes
      (((n.withStops (fun x => { x with enc := { x.enc with fault := true, faultCause := setBit m.enc.faultCause 1 true } })).record
        0x0102 (setBit m.enc.faultCause 1 true) (p32 n.enc.raw)).reportStop 1 allPorts)))
  ∧ (∀ (dt : Nat) (line : EncLine) (s : State) (m : Mach), s.found dt = m → exec (.openLineEnded dt line) s
      = s.becomes { m with enc := { m.enc with openLines := m.enc.openLines.filter (· != line) } })
  ∧ (∀ (dt sid : Nat) (s : State) (m : Mach), s.found dt = m → m.admits (.host sid) 0x2102 0 1 = true → m.enc.fault = true →
    m.enc.speedState = 0 → m.enc.openLines = [] → m.illegalNow < m.nat 0x2104 0 0 →
    exec (.encFaultClear dt sid 1) s = s.becomes (((((Mach.record
      (m.withStops (fun x => { x with enc := { x.enc with fault := false, faultCause := 0, illegalLatched := 0 } }))
        0x010A m.enc.illegalLatched (p32 m.enc.raw)).restartSpeed 3).overStopEnds).autoMode).acceptNum (.host sid) 0x2102 0 0 1 1))
  ∧ (∀ (dt sid v : Nat) (s : State) (m : Mach), s.found dt = m → m.admits (.host sid) 0x2102 0 v = true →
    (v = 0 ∨ (v = 1 ∧ m.enc.fault = false ∧ m.enc.speedState = 0 ∧ m.enc.openLines = [] ∧ m.illegalNow < m.nat 0x2104 0 0)) →
    exec (.encFaultClear dt sid v) s = s.becomes (m.acceptNum (.host sid) 0x2102 0 0 1 v))
  ∧ (∀ (dt sid : Nat) (s : State) (m : Mach), s.found dt = m → m.admits (.host sid) 0x2102 0 1 = true →
    (m.enc.speedState ≠ 0 ∨ m.enc.openLines ≠ [] ∨ m.nat 0x2104 0 0 ≤ m.illegalNow) →
    exec (.encFaultClear dt sid 1) s = s.becomes (m.reply (.host sid) 0x2102 0 .notReady))

/-- R51: an index is evaluated only while the last count was up; while the module counts down, an index changes nothing but
the time, and nothing is recorded. In RESET and BOOT there is none to evaluate (R44). -/
def Obligations.IndexIsIgnoredWhileCountingDown : Prop :=
  (∀ (dt : Nat) (s : State), (s.found dt).enc.dirDown = true → exec (.indexPulse dt) s = s.becomes (s.found dt))
  ∧ (∀ (dt : Nat) (s : State), (s.found dt).counts = false → exec (.indexPulse dt) s = s.becomes (s.found dt))

/-- INDEX_PULSE, INDEX_ARM, GPIN_EDGE and SPEED_STALL (R45, R50, R52, R53, R65): a free index, or one within its tolerance, is
accepted; another one is a slip, recorded and nothing else; whichever it is, it captures the origin where INDEX is the source.
A write to INDEX_ARM frees the index, and one of 1 arms the counter; an input's edge captures where the input is the source; a
stall restarts the estimator. Capturing the origin (R45, R57, R58): web line N_next lies at the raw position, every compare
starts there, and the event of an earlier run is forgotten. -/
def Obligations.IndexOriginAndStall : Prop :=
  ((∀ (dt : Nat) (s : State) (m : Mach), s.found dt = m → m.counts = true → m.enc.dirDown = false →
    (m.nat 0x2109 0 0 = 0 ∨ m.enc.indexFree = true) →
    exec (.indexPulse dt) s = s.becomes (m.acceptIndex.captureOn 1))
  ∧ (∀ (dt spacing : Nat) (d k : Int) (s : State) (m : Mach), s.found dt = m → m.counts = true → m.enc.dirDown = false →
    m.nat 0x2109 0 0 = spacing → spacing ≠ 0 → m.enc.indexFree = false → m.enc.raw - m.enc.indexRef = d →
    max 1 ((2 * d + spacing) / (2 * spacing)) = k →
    ((d - k * spacing).natAbs ≤ m.nat 0x210A 0 0 → k = 1 → exec (.indexPulse dt) s = s.becomes (m.acceptIndex.captureOn 1))
    ∧ ((d - k * spacing).natAbs ≤ m.nat 0x210A 0 0 → 1 < k →
      exec (.indexPulse dt) s = s.becomes (((m.record 0x0104 (p32 (k - 1)) (p32 m.enc.raw)).acceptIndex).captureOn 1))
    ∧ (m.nat 0x210A 0 0 < (d - k * spacing).natAbs →
      exec (.indexPulse dt) s = s.becomes ((m.record 0x0103 (p32 d) spacing).captureOn 1)))
  ∧ (∀ m : Mach, m.pair.role ≠ 1 → m.pair.role ≠ 4 →
    m.acceptIndex = { m with enc := { m.enc with
      indexRef := m.enc.raw, indexFree := false, indexSeen := true, indexOnce := false
      indexBase := if m.nat 0x2108 0 0 = 1 ∨ (m.nat 0x2108 0 0 = 2 ∧ m.enc.indexOnce = true) then m.enc.raw else m.enc.indexBase } })
  ∧ (∀ (dt sid v : Nat) (s : State) (m : Mach), s.found dt = m → m.admits (.host sid) 0x210B 0 v = true →
    exec (.indexArm dt sid v) s = s.becomes
      (Mach.acceptNum { m with enc := { m.enc with indexOnce := m.enc.indexOnce || v = 1, indexSeen := false, indexFree := true } }
        (.host sid) 0x210B 0 0 1 v))
  ∧ (∀ (dt n : Nat) (s : State) (m : Mach), n < 8 → s.found dt = m →
    exec (.gpinEdge dt n) s = s.becomes
      (if m.enc.armed = true ∧ m.enc.armSource = 2 + n ∧ m.sys.mode = .armed then m.captureOrigin.capturedJoin else m))
  ∧ (∀ (dt : Nat) (s : State) (m : Mach), s.found dt = m → m.enc.lastCount + m.nat 0x2131 0 0 * 1000000 ≤ m.now →
    (m.enc.counted = true ∨ m.enc.window ≠ [] ∨ m.enc.datumTimes ≠ []) →
    exec (.speedStall dt) s = s.becomes (((m.restartSpeed 2).overStopEnds).autoMode))
  ∧ (∀ (dt : Nat) (s : State) (m : Mach), s.found dt = m →
    (m.now < m.enc.lastCount + m.nat 0x2131 0 0 * 1000000 ∨ (m.enc.counted = false ∧ m.enc.window = [] ∧ m.enc.datumTimes = [])) →
    exec (.speedStall dt) s = s.becomes m)
  ∧ (∀ (m : Mach) (cause : Nat), (m.restartSpeed cause).enc = { m.enc with
      window := [], datumTimes := [], events := 0, waitForward := decide (cause = 1) || m.enc.waitForward, lastCount := m.now
      counted := m.enc.counted && cause != 2 }))
  ∧ (∀ (m : Mach) (o : Int), m.sys.mode = .armed → m.enc.armed = true → o = m.enc.raw - linesToCounts m.increment m.sys.nNext →
    posAt o m.increment m.sys.nNext 0 0 = m.enc.raw
      ∧ (∀ source, source ≠ m.enc.armSource → m.captureOn source = m)
      ∧ m.captureOn m.enc.armSource = m.captureOrigin.capturedJoin)

/-- PSO_PULSE_END and PSO_SCHEDULE (R68 to R71): a pulse ends at its time; an action goes into the queue in web-line order,
while a line that has passed, or a queue without a free entry, refuses it. -/
def Obligations.PsoPulsesAndSchedules : Prop :=
  (∀ (dt n e : Nat) (s : State) (m : Mach), n < 16 → s.found dt = m → (m.pso n).pulseEnd = some e → e ≤ m.now →
    exec (.psoPulseEnd dt n) s = s.becomes (m.onPso n (fun p => { p with pulseEnd := none })))
  ∧ (∀ (dt n e : Nat) (s : State) (m : Mach), n < 16 → s.found dt = m → (m.pso n).pulseEnd = some e → m.now < e →
    exec (.psoPulseEnd dt n) s = s.becomes m)
  ∧ (∀ (dt sid n v : Nat) (s : State) (m : Mach), n < 16 → s.found dt = m → m.admits (.host sid) 0x2142 (n + 1) v = true →
    (m.enc.origin = none ∨ (m.pso n).next ≤ bits v 0 48) → m.psoFree n ≠ 0 →
    exec (.psoSchedule dt sid n v) s = s.becomes ((m.onPso n (fun p => { p with
      queue := psoInsert p.queue { line := bits v 0 48, action := bits v 48 2, frame := none } })).acceptNum
        (.host sid) 0x2142 (n + 1) 0 8 v))
  ∧ (∀ (dt sid n v : Nat) (s : State) (m : Mach), n < 16 → s.found dt = m → m.admits (.host sid) 0x2142 (n + 1) v = true →
    m.enc.origin.isSome = true → bits v 0 48 < (m.pso n).next →
    exec (.psoSchedule dt sid n v) s = s.becomes (m.reply (.host sid) 0x2142 (n + 1) .commitRejected))
  ∧ (∀ (dt sid n v : Nat) (s : State) (m : Mach), n < 16 → s.found dt = m → m.admits (.host sid) 0x2142 (n + 1) v = true →
    (m.enc.origin = none ∨ (m.pso n).next ≤ bits v 0 48) → m.psoFree n = 0 →
    exec (.psoSchedule dt sid n v) s = s.becomes (m.reply (.host sid) 0x2142 (n + 1) .busy))

/-! ### Seams, composing and firing -/

/-- COMMIT_SEAM (R83, R92, R109, R171): a commit that passes its checks is decided at once where every shadow is loaded, and
waits otherwise; an identifier in use and a full table refuse it. SEAM_CANCEL (R86): a seam that the host may cancel is
dropped, with its record, and any other is refused. -/
def Obligations.CommitsAreDecidedOrWait : Prop :=
  ((∀ (dt sid target scope id flags : Nat) (s : State) (m : Mach), s.found dt = m → m.answers (.host sid) = true →
    m.writeGate (.host sid) 0x2000 0 = .ok →
    (okValueAt 0x2000 1 target && okValueAt 0x2000 2 scope && okValueAt 0x2000 3 id && okValueAt 0x2000 4 flags) = true →
    (m.seams.table.any (fun x => seamLive x && x.id = id)) = false →
    (m.seams.table.filter (fun x => seamLive x && x.host)).length < 24 →
    (m.shadowsLoaded scope = true → (m.commitAt target scope id flags true).2 = false →
      exec (.commitSeam dt sid target scope id flags) s = s.becomes
        ((m.commitAt target scope id flags true).1.accept (.host sid) 0x2000 0 0 (seamBytes target scope id flags)))
    ∧ (m.shadowsLoaded scope = true → (m.commitAt target scope id flags true).2 = true →
      exec (.commitSeam dt sid target scope id flags) s = s.becomes
        ((m.commitAt target scope id flags true).1.reply (.host sid) 0x2000 0 .commitRejected))
    ∧ (m.shadowsLoaded scope = false →
      exec (.commitSeam dt sid target scope id flags) s = s.becomes { m with seams := { m.seams with waiting := m.seams.waiting ++
        [{ who := .host sid, target := target, scope := scope, id := id, flags := flags, host := true, since := m.now }] } }))
  ∧ (∀ (dt sid target scope id flags : Nat) (s : State) (m : Mach), s.found dt = m → m.answers (.host sid) = true →
    m.writeGate (.host sid) 0x2000 0 = .ok →
    (okValueAt 0x2000 1 target && okValueAt 0x2000 2 scope && okValueAt 0x2000 3 id && okValueAt 0x2000 4 flags) = true →
    (m.seams.table.any (fun x => seamLive x && x.id = id)) = true →
    exec (.commitSeam dt sid target scope id flags) s = s.becomes (m.reply (.host sid) 0x2000 0 .outOfRange)))
  ∧ ((∀ (dt sid id : Nat) (s : State) (m : Mach) (x : Seam), s.found dt = m → m.admits (.host sid) 0x2003 0 id = true →
    m.liveSeam id = some x → m.mayCancel x = true →
    exec (.seamCancel dt sid id) s = s.becomes (((m.dropSeam x 0).loadAll).acceptNum (.host sid) 0x2003 0 0 2 id))
  ∧ (∀ (dt sid id : Nat) (s : State) (m : Mach), s.found dt = m → m.admits (.host sid) 0x2003 0 id = true →
    (∀ x, m.liveSeam id = some x → m.mayCancel x = false) →
    exec (.seamCancel dt sid id) s = s.becomes (m.reply (.host sid) 0x2003 0 .commitRejected)))

/-- The outcome of a commit with an origin (R92 to R94, R96): a line that some bar has fired is LATE and refused; a line that
no bar has composed is EXACT; else the first line that can be met is SQUASH at the target and SLIPPED after it, which the
flags may refuse. -/
def Obligations.EveryCommitHasItsOutcome : Prop :=
  ∀ (m : Mach) (target flags : Nat), m.enc.origin.isSome = true →
    ((∃ k, k < 8 ∧ target < m.fireNext k) → m.decideSeam target flags = (0, target, some 0))
    ∧ ((∀ k, k < 8 → m.fireNext k ≤ target) → m.compTop ≤ target → m.decideSeam target flags = (1, target, none))
    ∧ ((∀ k, k < 8 → m.fireNext k ≤ target) → target < m.compTop →
        (m.decideSeam target flags).2.1 = m.firstMet target (m.compTop - target)
          ∧ ((m.decideSeam target flags).1 = 2 ↔ m.firstMet target (m.compTop - target) = target)
          ∧ ((m.decideSeam target flags).1 = 2 ∨ (m.decideSeam target flags).1 = 3)
          ∧ (flags = 0 → (m.decideSeam target flags).2.2 = none))

/-- BANK_LOAD_DONE, COMPOSE_LINE, LINE_SEND and FIRE_SEND (R89, R168 to R172, R203, R204, R209): the oldest load of a bank
ends and commits that waited for it go on; a bar composes its next line, or waits for its bank; a port's LINE joins its lane
under the level cap with its generation, once the policies of its event have acted; a bar's next event is fired when it is
due, and else nothing leaves. -/
def Obligations.LinesAreComposedSentAndFired : Prop :=
  (∀ (dt bar group : Nat) (s : State) (m : Mach), bar < 8 → group < 6 → s.found dt = m → (m.banks bar group).loads ≠ [] →
    ffind m.seams.bankWait (8 * bar + group) = none →
    exec (.bankLoadDone dt bar group) s
      = s.goesOn ((m.onBanks bar group (fun b => { b with loads := b.loads.drop 1 })).releaseCommits bar Mach.loopHeld))
  ∧ (∀ (dt bar group since : Nat) (s : State) (m n : Mach), bar < 8 → group < 6 → s.found dt = m → (m.banks bar group).loads ≠ [] →
    ffind m.seams.bankWait (8 * bar + group) = some since → m.onBanks bar group (fun b => { b with loads := b.loads.drop 1 }) = n →
    (n.banks bar group).loads.contains 1 = false →
    exec (.bankLoadDone dt bar group) s = s.goesOn ((Mach.recordAt
      { n with seams := { n.seams with bankWait := fdel n.seams.bankWait (8 * bar + group) } } 0x0301 (bar + 256 * group)
        (n.now - since) (n.nextToCompose bar)).releaseCommits bar Mach.loopHeld))
  ∧ (∀ (dt bar group : Nat) (s : State) (m : Mach), bar < 8 → group < 6 → s.found dt = m → (m.banks bar group).loads = [] →
    exec (.bankLoadDone dt bar group) s = s.goesOn m)
  ∧ (∀ (dt bar took : Nat) (s : State) (m : Mach), bar < 8 → s.found dt = m →
    (m.mayCompose bar (m.nextToCompose bar) && m.paced bar took) = true →
    (m.bankBusy bar (m.nextToCompose bar) = none →
      exec (.composeLine dt bar took) s = s.becomes (m.composeAt bar (m.nextToCompose bar) took))
    ∧ (∀ g, m.bankBusy bar (m.nextToCompose bar) = some g → ffind m.seams.bankWait (8 * bar + g) = none →
      exec (.composeLine dt bar took) s = s.becomes
        { m with seams := { m.seams with bankWait := fset m.seams.bankWait (8 * bar + g) m.now } }))
  ∧ (∀ (dt port : Nat) (s : State) (m n : Mach) (e gen : Nat) (data : Bytes), port < 64 → s.found dt = m → m.nextLineOf port = e →
    m.lineDue port e = true → m.policiesDue port e true = n → n.payload port e (n.port port).fire.tempCap = data →
    n.genOf port e = gen →
    exec (.lineSend dt port) s = s.becomes ((n.onFire port (fun f => { f with
      nextLine := e + 1
      lines := f.lines.filter (fun x => x.event != e && decide (n.fireNext (barOf port) ≤ x.event + 16))
        ++ [{ event := e, gen := gen, doneAt := 0, resent := false, lost := false }] })).sendFrame
          port (.line data) (some e) gen false false))
  ∧ (∀ (dt port : Nat) (s : State) (m : Mach), port < 64 → s.found dt = m → m.lineDue port (m.nextLineOf port) = false →
    exec (.lineSend dt port) s = s.becomes m)
  ∧ (∀ (dt bar t : Nat) (late : Bool) (s : State) (m : Mach), bar < 8 → s.found dt = m → m.fireDue bar = some (t, late) →
    exec (.fireSend dt bar) s = s.becomes (m.fireEvent bar (m.queueNext bar) t late))
  ∧ (∀ (dt bar : Nat) (s : State) (m : Mach), bar < 8 → s.found dt = m → m.fireDue bar = none →
    exec (.fireSend dt bar) s = s.becomes m)
  ∧ (∀ (dt bar : Nat) (s : State) (m : Mach), bar < 8 → s.found dt = m → m.firesEvents = false →
    exec (.fireSend dt bar) s = s.becomes m)

/-- A lane carries one frame at a time, the one of highest priority first (R185, R196, R197, R202): a frame sent on a busy lane
joins the queue behind those of its own priority or a higher one; on a free lane with nothing waiting it leaves at once, with the
port's next sequence number, which the acknowledged types advance by 1 modulo 65,536, and the lane is taken until its EOF and
the gap after it; an acknowledged type then waits for its acknowledgement. A port that a stop holds back, or whose STOP or
RESUME is not acknowledged, sends no FIRE, and its event counts as not fired with every cause (R207, R242, R675). -/
def Obligations.FramesAndStoppedPorts : Prop :=
  (∀ (m : Mach) (p : Nat) (body : FrameBody) (event : Option Nat) (gen : Nat) (resend applyAt : Bool) (f : Frame),
    f = { body := body, seq := 0, event := event, gen := gen, resend := resend, applyAt := applyAt } →
    m.now < (m.port p).tx.freeAt →
    m.sendFrame p body event gen resend applyAt = m.onTx p (fun t => { t with queue := enqueue t.queue f }))
  ∧ (∀ (q : List Frame) (f : Frame), ∃ a b : List Frame, q = a ++ b ∧ enqueue q f = a ++ f :: b
    ∧ (∀ x ∈ a, framePriority x ≤ framePriority f) ∧ (b = [] ∨ ∃ x y, b = x :: y ∧ framePriority f < framePriority x))
  ∧ (∀ (m : Mach) (p : Nat) (body : FrameBody) (event : Option Nat) (gen : Nat) (resend applyAt : Bool) (t : Mach) (f : Frame),
    (m.port p).tx.freeAt ≤ m.now → (m.port p).tx.queue = [] → bodyType body ≠ 0x21 →
    m.sendFrame p body event gen resend applyAt = t →
    f = { body := body, seq := (m.port p).tx.txSeq, event := event, gen := gen, resend := resend, applyAt := applyAt } →
    t.out = m.out ++ [.frame p f (frameBytes f p (m.moduleId - 1))]
      ∧ (t.port p).tx.queue = []
      ∧ (t.port p).tx.freeAt = m.now + frameTime (bodySize body) + gapTime
      ∧ (t.port p).tx.sending = some (f, m.now + frameTime (bodySize body))
      ∧ (bodySequenced body = true → (t.port p).tx.txSeq = ((m.port p).tx.txSeq + 1) % 65536
          ∧ (t.port p).tx.unacked = (m.port p).tx.unacked ++ [{ f := f, sentAt := m.now, tries := 0 }])
      ∧ (bodySequenced body = false → (t.port p).tx.txSeq = (m.port p).tx.txSeq ∧ (t.port p).tx.unacked = (m.port p).tx.unacked)
      ∧ (∀ q, q ≠ p → t.port q = m.port q))
  ∧ (∀ (m n : Mach) (p e t : Nat) (late : Bool), m.portUsed p = true → m.policiesDue p e false = n → n.unsentCauses p ≠ [] →
      m.firePort p e t late = n.notSent p e (n.unsentCauses p))
  ∧ (∀ (m : Mach) (p : Nat), (m.linkUp p = false ∨ m.stops p ≠ [] ∨ (m.port p).fire.stopUnacked = true
      ∨ (m.port p).fire.resumeKind ≠ none) ↔ m.unsentCauses p ≠ [])
  ∧ (∀ (m : Mach) (p e q : Nat) (causes : List Nat), ((m.notSent p e causes).port q).tx = (m.port q).tx)

/-- LAYER_POST, LAYER_CONFIG_WRITE, JOB_CONFIG_WRITE, NOZZLE_EDIT and HEAD_SLOT_WRITE (R106, R111, R117, R173, R174, R490): a
post that passes its checks replaces an earlier one of its layer, job and frame; a stored value goes into the shadow of the
selected layer, bar or port; content whose digest does not verify is refused and recorded. -/
def Obligations.JobObjectsAreStored : Prop :=
  (∀ (dt sid layer job frame content : Nat) (s : State) (m : Mach), s.found dt = m → m.answers (.host sid) = true →
    m.writeGate (.host sid) 0x5020 0 = .ok → okValueAt 0x5020 1 layer = true →
    (m.postStatus layer job frame content = .ok →
      exec (.layerPost dt sid layer job frame content) s = s.becomes (Mach.accept { m with comp := { m.comp with
        posts := m.comp.posts.filter (fun p => !(p.layer = layer && p.jobId = job && p.frame = frame))
          ++ [{ layer := layer, jobId := job, frame := frame, content := content, postedAt := m.now }] } }
            (.host sid) 0x5020 0 0 (postBytes layer job frame content)))
    ∧ (m.postStatus layer job frame content = .authFailed →
      exec (.layerPost dt sid layer job frame content) s
        = s.becomes ((m.record 0x0207 content frame).reply (.host sid) 0x5020 0 .authFailed)))
  ∧ (∀ (dt sid sub : Nat) (data : Bytes) (s : State) (m n : Mach) (l : Nat) (vals : List (Nat × Fld × Bytes)), s.found dt = m →
    (m.locals (.host sid)).layerSel = l → l ≠ 7 → m.admitsBytes (.host sid) 0x5010 sub 10 data vals = true →
    m.storeVals 0x5010 l vals = n → n.layerFits l = true →
    exec (.layerConfigWrite dt sid sub data) s = s.becomes (n.staged m (.host sid) 0x5010 sub l data))
  ∧ (∀ (dt sid sub : Nat) (data : Bytes) (s : State) (m : Mach) (vals : List (Nat × Fld × Bytes)), s.found dt = m → 1 < sub →
    m.admitsBytes (.host sid) 0x5001 sub 10 data vals = true →
    exec (.jobConfigWrite dt sid sub data) s = s.becomes ((m.storeVals 0x5001 0 vals).staged m (.host sid) 0x5001 sub 0 data))
  ∧ (∀ (dt sid v : Nat) (s : State) (m : Mach), s.found dt = m → m.admits (.host sid) 0x7102 0 v = true →
    exec (.nozzleEdit dt sid v) s = s.becomes ((m.setBlob 0x7101 0 (bits v 17 3) (editMap (m.blob 0x7101 0 (bits v 17 3))
      (bits v 0 17) (bits v 32 2) (bits v 24 8) (bit v 34))).acceptNum (.host sid) 0x7102 0 0 8 v))
  ∧ (∀ (dt sid slot v p : Nat) (s : State) (m n : Mach), slot < 8 → s.found dt = m → (m.locals (.host sid)).portSel = p →
    m.admits (.host sid) 0x3010 (slot + 1) v = true → m.setNum 0x3010 (slot + 1) p v = n →
    ((slotsFit (n.slots p) && n.staggerFits (n.nat 0x2010 0 0)) = true →
      exec (.headSlotWrite dt sid slot v) s = s.becomes ((n.rewriteSlots p).acceptNum (.host sid) 0x3010 (slot + 1) p 8 v))
    ∧ ((slotsFit (n.slots p) && n.staggerFits (n.nat 0x2010 0 0)) = false →
      exec (.headSlotWrite dt sid slot v) s = s.becomes (m.reply (.host sid) 0x3010 (slot + 1) .outOfRange)))

/-! ### Screening and coding -/

/-- R157 and R163: each bar nozzle takes three parts of its own pixel and one of the neighbouring pixel, and each frame line
three parts of its own contone row and one of the neighbouring row; where no neighbour lies inside, the own value stands in. -/
def Obligations.ContoneIsInterpolated : Prop :=
  (∀ (t : Tables) (row v : Nat → Nat) (i : Nat), (∀ k, v k = toned t.curve t.zones k (row k)) →
    (0 < i → across t row (2 * i) = (3 * v i + v (i - 1) + 2) / 4)
    ∧ across t row 0 = (3 * v 0 + v 0 + 2) / 4
    ∧ (2 * (i + 1) < t.width → across t row (2 * i + 1) = (3 * v i + v (i + 1) + 2) / 4)
    ∧ (t.width ≤ 2 * (i + 1) → across t row (2 * i + 1) = (3 * v i + v i + 2) / 4))
  ∧ (∀ (t : Tables) (comp : Nat → Nat → Nat) (frameLines n j : Nat) (b : Nat → Nat),
    (∀ k, b k = gained t (fun i => comp i k) n) →
    (0 < j → along t comp frameLines n (2 * j) = (3 * b j + b (j - 1) + 2) / 4)
    ∧ along t comp frameLines n 0 = (3 * b 0 + b 0 + 2) / 4
    ∧ (j ≠ (frameLines - 1) / 2 → along t comp frameLines n (2 * j + 1) = (3 * b j + b (j + 1) + 2) / 4)
    ∧ along t comp frameLines n (2 * ((frameLines - 1) / 2) + 1)
        = (3 * b ((frameLines - 1) / 2) + b ((frameLines - 1) / 2) + 2) / 4)

/-- R346: the bytes of a plane's stream, which depend only on the rectangle and the coding; and the plane of a contone layer
of the reference press. -/
def Obligations.APlaneHasItsLength : Prop :=
  (∀ c : Content, c.planeLen = c.nr * ((c.nb * blockBytes c.coding + 4 * c.ns + 63) / 64) * 64)
  ∧ (∀ c d : Content, c.x = d.x → c.y = d.y → c.w = d.w → c.h = d.h → c.coding = d.coding → c.planeLen = d.planeLen)
  ∧ (∀ c : Content, c.coding = 0 → blockBytes c.coding = 16) ∧ (∀ c : Content, c.coding = 1 → blockBytes c.coding = 8)
  ∧ (∀ c : Content, c.coding = 2 → blockBytes c.coding = 4)
  ∧ (∀ c : Content, c.x = 0 → c.y = 0 → c.w = 80314 → c.h = 24000 → c.coding = 1 →
    c.nb = 10040 ∧ c.ns = 157 ∧ c.blocksIn 156 = 56 ∧ c.nr = 3000 ∧ c.rowData = 80948 ∧ c.rowLen = 80960
      ∧ c.planeLen = 242880000
      ∧ (c.kind = 0 → c.input = 0 → c.mask = 1 → c.inputLen = 481884000))

/-- FRC_CODING_DONE and FRC_VERIFY_DONE (R349, R351): a refused stripe fails its object with the first cause in stream order;
a stream that decodes to its pixels is stored, and one that does not fails its object. -/
def Obligations.ContentIsCodedAndVerified : Prop :=
  (∀ (dt h : Nat) (c : Content) (rest : List (Nat × Content)) (disagree : List (Nat × Nat)) (s : State) (m n : Mach)
    (errors : List (Nat × List Nat)) (stored : Bool),
    s.found dt = m → m.frc.objects.filter (fun p => p.2.state = 3) = (h, c) :: rest → c.refusals disagree = [] → c.coding ≠ 0 →
    (List.range c.bars.length).map (fun p =>
      (p, (List.range (c.nr * c.ns)).map (fun k => c.stripeError p (k / c.ns) (k % c.ns)))) = errors →
    (((m.onContent h (fun c => { c with errors := errors, worst := maxOf 0 (errors.flatMap (fun e => e.2)), refused := 0 })).frcCount
      1 1).onContent h (fun c => { c with stream := c.code, raw := [] })).takeBuffers h = (n, stored) →
    (bit n.mem.quarantine 15 = false → exec (.frcCodingDone dt disagree) s
      = s.becomes ((if stored then n.onContent h (fun c => { c with state := 4 }) else n).startCoding))
    ∧ (bit n.mem.quarantine 15 = true → exec (.frcCodingDone dt disagree) s
      = s.becomes ((if stored then n.cutObject h else n).startCoding)))
  ∧ (∀ (dt : Nat) (disagree : List (Nat × Nat)) (s : State) (m : Mach), s.found dt = m →
    m.frc.objects.filter (fun p => p.2.state = 3) = [] → exec (.frcCodingDone dt disagree) s = s.becomes m)
  ∧ (∀ (dt h : Nat) (c : Content) (s : State) (m : Mach), s.found dt = m → m.content h = some c → c.state = 4 →
    (c.verify = none → exec (.frcVerifyDone dt h) s = s.becomes (m.contentStored h))
    ∧ (∀ cause bad, c.verify = some (cause, bad) → exec (.frcVerifyDone dt h) s = s.becomes
      (((m.onContent h (fun c => { c with state := 6, failCause := cause, firstBad := bad })).record 0x0211 h cause).frcCount 3 1)))

/-! ### The head links -/

/-- TS1_RECEIVED, EQ_STEP_TIMER, TS2_RECEIVED and TRAIN_TIMEOUT (R189): the eighth good TS1 in a row locks the receiver, the
widest eye wins with the lowest step on a tie, and the eighth TS2 that matches begins the delay measurement. -/
def Obligations.LinksTrainStepByStep : Prop :=
  (∀ (dt p : Nat) (o : OrderedSet) (s : State) (m : Mach), p < 64 → s.found dt = m → ((m.port p).link.phase = .ts1 ∨
    (m.port p).link.phase = .lock) → o.version = 1 → (m.port p).link.ts1Run + 1 < 8 →
    exec (.ts1Received dt p o true) s = s.becomes ((m.onLink p (fun l => { l with
      phase := .lock, ts1Run := l.ts1Run + 1, inverted := o.inverted, peerEqDone := l.peerEqDone || o.eqDone, heard := true
      startedAt := if l.heard then l.startedAt else m.now })).showTraining p (m.port p).link))
  ∧ (∀ (dt p : Nat) (o : OrderedSet) (s : State) (m : Mach), p < 64 → s.found dt = m → ((m.port p).link.phase = .ts1 ∨
    (m.port p).link.phase = .lock) → o.version = 1 → (m.port p).link.ts1Run = 7 → bit (m.port p).link.eqConfig 4 = false →
    (m.port p).link.eqDone = false →
    exec (.ts1Received dt p o true) s = s.becomes ((m.onLink p (fun l => { l with
      phase := .eq, ts1Run := 8, inverted := o.inverted, peerEqDone := l.peerEqDone || o.eqDone, heard := true
      startedAt := if l.heard then l.startedAt else m.now, rxLocked := true, eqStep := 0
      eqSince := m.now })).showTraining p (m.port p).link))
  ∧ (∀ (dt p : Nat) (o : OrderedSet) (s : State) (m : Mach), p < 64 → s.found dt = m → ((m.port p).link.phase = .ts1 ∨
    (m.port p).link.phase = .lock) →
    exec (.ts1Received dt p o false) s = s.becomes ((m.onLink p (fun l => { l with
      phase := .lock, ts1Run := 0, inverted := o.inverted, heard := true
      startedAt := if l.heard then l.startedAt else m.now })).showTraining p (m.port p).link))
  ∧ (∀ (dt p eye : Nat) (s : State) (m : Mach) (l : Link), p < 64 → s.found dt = m → (m.port p).link = l → l.phase = .eq →
    l.eqDone = false → l.eqSince + 500000 ≤ m.now → l.eqTried ≠ 15 →
    exec (.eqStepTimer dt p eye) s = s.becomes ((m.onLink p (fun l => { l with
      eqBest := if l.eqTried = 0 ∨ l.eqBest < eye then eye else l.eqBest
      eqBestStep := if l.eqTried = 0 ∨ l.eqBest < eye then l.eqStep else l.eqBestStep
      eqTried := l.eqTried + 1, eqSince := m.now, eqStep := l.eqStep + 1 })).showTraining p l))
  ∧ (∀ (dt p : Nat) (o : OrderedSet) (s : State) (m : Mach), p < 64 → s.found dt = m → (m.port p).link.phase = .config →
    o.side = m.moduleId → o.link = p → o.version = 1 →
    ((m.port p).link.ts2Run < 7 →
      exec (.ts2Received dt p o) s = s.becomes (m.onLink p (fun l => { l with ts2Run := l.ts2Run + 1 })))
    ∧ (7 ≤ (m.port p).link.ts2Run →
      exec (.ts2Received dt p o) s = s.becomes (((m.onLink p (fun l => { l with
        phase := .delay, ts2Run := 8 })).startMeasure p).sendSet p 3)))
  ∧ (∀ (dt p : Nat) (o : OrderedSet) (s : State) (m : Mach), p < 64 → s.found dt = m → (m.port p).link.phase = .config →
    o.side ≠ m.moduleId →
    exec (.ts2Received dt p o) s
      = s.becomes ((m.record 0x040C (p + 256 * o.side) o.side).onLink p (fun l => { l with ts2Run := 0 })))
  ∧ (∀ (dt p : Nat) (s : State), p < 64 →
    exec (.trainTimeout dt p) s = s.becomesUser dt (((s.found dt).trainTimeout p).tryReady))

/-- LINK_RETRAIN, LOCK_LOST, RX_INVALID_SYMBOL, REF_CONFIG_WRITE, LINK_SLEEP, EIOS_RECEIVED and WAKE_BURST_RECEIVED (R186,
R187, R189, R190, R225, R226): what makes a port train anew, and sleep. Training anew (R189, R199): sequence numbers restart
at 0, and no frame, claim or request waits; other ports stay. -/
def Obligations.LinksRetrainAndSleep : Prop :=
  ((∀ (dt sid p : Nat) (s : State) (m : Mach), s.found dt = m → (m.locals (.host sid)).portSel = p →
    m.admits (.host sid) 0x3045 0 1 = true →
    exec (.linkRetrain dt sid 1) s = s.becomes ((((m.onLink p (fun l => { l with failures := 0 })).linkCount p 5 1).startTraining
      p).acceptNum (.host sid) 0x3045 0 p 1 1))
  ∧ (∀ (dt p : Nat) (s : State) (m : Mach), p < 64 → s.found dt = m → m.linkUp p = true →
    exec (.lockLost dt p) s
      = s.becomes (((m.recordAt 0x0402 p (m.port p).link.failures m.webLine).linkCount p 5 1).startTraining p))
  ∧ (∀ (dt p gap first a b : Nat) (s : State) (m : Mach), p < 64 → s.found dt = m → m.linkUp p = true →
    (m.port p).link.badSymbols = [first, a, b] →
    exec (.rxInvalidSymbol dt p gap) s = s.becomes (if a + b + gap < 64 then m.retrain p 1
      else m.onLink p (fun l => { l with badSymbols := [a, b, gap] })))
  ∧ (∀ (dt sid v : Nat) (s : State) (m : Mach), s.found dt = m → m.admits (.host sid) 0x3101 0 v = true →
    (m.paired = false ∨ bits v 8 2 ≠ 0) →
    exec (.refConfigWrite dt sid v) s = s.becomes ((forEach allPorts ((m.setNum 0x3101 0 0 v).emit
      (.refOut (m.setNum 0x3101 0 0 v).refOutputs)) (fun p acc =>
      ((acc.onLink p (fun l => { l with failures := 0 })).linkCount p 5 1).startTraining p)).acceptNum (.host sid) 0x3101 0 0 2 v))
  ∧ (∀ (dt sid : Nat) (s : State) (m : Mach), s.found dt = m → m.paired = false →
    (m.admits (.host sid) 0x3102 0 1 = true → (m.setNum 0x3102 0 0 1).sleeps = true →
      exec (.linkSleep dt sid 1) s = s.becomes (((m.setNum 0x3102 0 0 1).sleepPorts).acceptNum (.host sid) 0x3102 0 0 1 1))
    ∧ (m.admits (.host sid) 0x3102 0 0 = true → (m.setNum 0x3102 0 0 0).sleeps = false →
      exec (.linkSleep dt sid 0) s = s.becomes (((m.setNum 0x3102 0 0 0).wakePorts).acceptNum (.host sid) 0x3102 0 0 1 0)))
  ∧ (∀ (dt sid : Nat) (s : State) (m : Mach), s.found dt = m → m.paired = true → m.admits (.host sid) 0x3102 0 1 = true →
    exec (.linkSleep dt sid 1) s = s.becomes (m.reply (.host sid) 0x3102 0 .outOfRange))
  ∧ (∀ (dt p : Nat) (s : State), p < 64 → exec (.eiosReceived dt p) s = s.becomes ((s.found dt).onLink p (fun l => { l with rxIdle := true })))
  ∧ (∀ (dt p : Nat) (s : State), p < 64 →
    exec (.wakeBurstReceived dt p) s = s.becomes ((s.found dt).onLink p (fun l => { l with rxIdle := false }))))
  ∧ (∀ (m : Mach) (p : Nat),
    ((m.startTraining p).port p).link.phase = .ts1 ∧ ((m.startTraining p).port p).tx.txSeq = 0
      ∧ ((m.startTraining p).port p).tx.rxSeq = 0 ∧ ((m.startTraining p).port p).tx.unacked = []
      ∧ ((m.startTraining p).port p).tx.token = false ∧ ((m.startTraining p).port p).tx.cfgQueue = []
      ∧ ((m.startTraining p).port p).fire.fires = (m.port p).fire.fires.filter (fun x => x.left)
      ∧ (∀ q, q ≠ p → (m.startTraining p).port q = m.port q))

/-- TIME_SYNC_TIMER, LIVENESS_TIMER, DELAY_EXCHANGE, ACK_TIME_ECHO and ACK_CUMULATIVE (R192, R195, R205 to R207): what leaves
every 1 ms and every 5 us on the active ports, and how a delay is sampled. NAK_RECEIVED and RX_FRAME_BAD (R197, R206, R207):
the frames that a NAK names are lost, with BUFFER_FULL also a LINE that an ACK covers (R213), and a bad frame is counted, recorded and answered with a NAK. -/
def Obligations.LinkTimersAndAcknowledgements : Prop :=
  ((∀ (dt : Nat) (s : State) (m : Mach), s.found dt = m → m.gate.syncAt + 1000000 ≤ m.now →
    exec (.timeSyncTimer dt) s = s.becomesUser dt (Mach.tryReady (m.activePorts.foldl (fun acc p =>
      let l := (acc.port p).link
      let d := if l.delay ≤ l.delayTarget then min l.delayTarget (l.delay + 16) else max l.delayTarget (l.delay - 16)
      (acc.onLink p (fun l => { l with delay := d })).sendPlain p (.timeSync acc.linkTime d false))
        { m with gate := { m.gate with syncAt := m.now } })))
  ∧ (∀ (dt : Nat) (s : State) (m : Mach), s.found dt = m → m.gate.liveAt + 5000 ≤ m.now →
    exec (.livenessTimer dt) s = s.becomes (m.activePorts.foldl (fun acc p =>
      let sent := (acc.sendPlain p (.liveness acc.liveRole acc.moduleId (acc.port p).tx.liveCount)).onTx p (fun t => { t with
        liveCount := (t.liveCount + 1) % 2 ^ 32 })
      if (sent.port p).tx.ackAt + 95000 ≤ m.now then sent.sendAck p else sent) { m with gate := { m.gate with liveAt := m.now } }))
  ∧ (∀ (dt p : Nat) (s : State) (m : Mach), p < 64 → (s.found dt).nextMeasure = m → (m.port p).link.measuring = true →
    (m.port p).link.exchange = none → (m.port p).link.exchangeDue ≤ m.now →
    exec (.delayExchange dt p) s = s.becomes ((m.onLink p (fun l => { l with
      exchange := some m.linkTime, exchangeDue := if l.phase = .active then m.now + 50000 else m.now })).sendPlain p
        (.timeSync m.linkTime (m.port p).link.delay true)))
  ∧ (∀ (dt p seq t1 t2 t3 lastSeq lostMask : Nat) (s : State) (m : Mach), p < 64 → (s.found dt).receives p = true →
    ((s.found dt).headerSeq p seq).ackUpTo p lastSeq lostMask = m → (m.port p).link.exchange = some t1 →
    (m.port p).link.samples.length + 1 ≠ 16 →
    exec (.ackTimeEcho dt p t2 t3 ⟨seq, lastSeq⟩ lostMask) s = s.becomes (m.onLink p (fun l => { l with
      exchange := none, samples := l.samples ++ [8 * (((m.linkTime : Int) - t1) - ((t3 : Int) - t2))] })))
  ∧ (∀ (dt p seq lastSeq lostMask : Nat) (s : State) (m : Mach), p < 64 → s.found dt = m → m.receives p = true →
    exec (.ackCumulative dt p ⟨seq, lastSeq⟩ lostMask) s = s.becomes ((m.headerSeq p seq).ackUpTo p lastSeq lostMask))
  ∧ (∀ (dt p seq t2 t3 lastSeq lostMask : Nat) (s : State) (m : Mach), p < 64 → s.found dt = m → m.receives p = false →
    exec (.ackCumulative dt p ⟨seq, lastSeq⟩ lostMask) s = s.becomes m
      ∧ exec (.ackTimeEcho dt p t2 t3 ⟨seq, lastSeq⟩ lostMask) s = s.becomes m))
  ∧ ((∀ (dt p seq first missing reason : Nat) (s : State) (m : Mach), p < 64 → (s.found dt).receives p = true →
    (s.found dt).headerSeq p seq = m → reason ≠ 4 → reason ≠ 5 →
    exec (.nakReceived dt p ⟨seq, first⟩ missing reason) s = s.becomes ((((m.port p).tx.unacked ++
        (if reason = 2 then (m.port p).tx.taken.map (fun f => ({ f := f, sentAt := m.now, tries := 0 } : Unacked)) else [])).filter (fun x =>
      decide (seqBehind x.f.seq first < missing))).foldl (fun acc x => acc.frameLost p x true) m))
  ∧ (∀ (dt p seq first missing reason : Nat) (s : State), p < 64 → (s.found dt).receives p = true → (reason = 4 ∨ reason = 5) →
    exec (.nakReceived dt p ⟨seq, first⟩ missing reason) s = s.becomes ((s.found dt).headerSeq p seq))
  ∧ (∀ (dt p : Nat) (bytes : Bytes) (symbolError : Bool) (s : State) (m : Mach), p < 64 → s.found dt = m → m.receives p = true →
    frameFault bytes symbolError = some 0 →
    exec (.rxFrameBad dt ⟨p, bytes, symbolError⟩) s = s.becomes ((((m.linkCount p 1 1).onLink p (fun l => { l with
      badTimes := l.badTimes.filter (fun t => decide (m.now < t + 1000000000)) ++ [m.now] })).record 0x0403 p 1).sendPlain p
        (.nak (m.port p).tx.rxSeq 1 0)))
  ∧ (∀ (dt p : Nat) (bytes : Bytes) (symbolError : Bool) (s : State) (m : Mach), p < 64 → s.found dt = m → m.receives p = true →
    frameFault bytes symbolError = some 3 →
    exec (.rxFrameBad dt ⟨p, bytes, symbolError⟩) s = s.becomes (m.sendPlain p (.nak (m.port p).tx.rxSeq 1 3)))
  ∧ (∀ (dt p : Nat) (bytes : Bytes) (symbolError : Bool) (s : State), p < 64 → (s.found dt).receives p = false →
    exec (.rxFrameBad dt ⟨p, bytes, symbolError⟩) s = s.becomes (s.found dt)))

/-- STATUS_RECEIVED and STATUS_TIMEOUT (R200, R245, R317, R450): a status is received in sequence and judged; none for 5 ms is
recorded once and counts as a reading at LIMIT. TOKEN_GRANT_RECEIVED and TOKEN_CLAIM_TIMEOUT (R207, R450, R453): a grant makes
this module the holder, and an answer that denies it does not; a claim without an answer is resent three times and then counts
as denied. -/
def Obligations.StatusesAndTokens : Prop :=
  ((∀ (dt p seq : Nat) (st : StatusFrame) (s : State) (m : Mach), p < 64 → s.found dt = m → m.linkUp p = true →
    exec (.statusReceived dt p seq st) s = s.becomes ((((m.received p seq).status p st).loopTemps p st.temps).statusHolder p st))
  ∧ (∀ (dt p : Nat) (s : State) (m : Mach), p < 64 → s.found dt = m → (m.port p).fire.statusAt ≠ 0 →
    (m.port p).link.phase ≠ .sleep → (m.port p).fire.statusAt + 5000000 ≤ m.linkTime → (m.port p).fire.noStatus = false →
    exec (.statusTimeout dt p) s = s.becomes (((m.onFire p (fun f => { f with noStatus := true })).record 0x0507
      (p + 256 * 0xFF) 1).judgeTemps p [(0xFF, (m.limits p).2.1)]))
  ∧ (∀ (dt p : Nat) (s : State) (m : Mach), p < 64 → s.found dt = m → (m.port p).fire.noStatus = true →
    exec (.statusTimeout dt p) s = s.becomes m))
  ∧ ((∀ (dt p seq kind sentAt tries : Nat) (g : Grant) (s : State) (m n : Mach), p < 64 → s.found dt = m → m.linkUp p = true →
    (m.received p seq).onLink p (fun l => { l with
      holder := if g.holder = 0 then 0 else if g.holder = m.moduleId then 1 else 2 }) = n →
    (n.port p).tx.claim = some (kind, sentAt, tries) → g.result ≤ 1 → kind ≠ 1 → g.lastFired = noLine →
    exec (.tokenGrantReceived dt p seq g) s = s.becomes ((((n.onTx p (fun t => { t with token := true, claim := none, denied := 0 })).record
      0x0406 (p + 256 * g.result) (g.grantTime % 2 ^ 32))).takeoverDone))
  ∧ (∀ (dt p seq kind sentAt tries : Nat) (g : Grant) (s : State) (m n : Mach), p < 64 → s.found dt = m → m.linkUp p = true →
    (m.received p seq).onLink p (fun l => { l with
      holder := if g.holder = 0 then 0 else if g.holder = m.moduleId then 1 else 2 }) = n →
    (n.port p).tx.claim = some (kind, sentAt, tries) → 1 < g.result →
    exec (.tokenGrantReceived dt p seq g) s = s.becomes ((n.denied p kind g.result).takeoverDone))
  ∧ (∀ (dt p kind sentAt tries : Nat) (s : State) (m : Mach), p < 64 → s.found dt = m → m.linkUp p = true →
    (m.port p).tx.claim = some (kind, sentAt, tries) → (m.port p).tx.queue.any (fun f => bodyType f.body = 0x10) = false →
    (∀ us u, (m.port p).tx.unacked = us ++ [u] → bodyType u.f.body = 0x10 → tries < 3 → sentAt + 5000 ≤ m.now →
      exec (.tokenClaimTimeout dt p) s = s.becomes ((m.resend p { body := .tokenClaim kind m.moduleId, seq := u.f.seq, event := none
                                                                  gen := 0, resend := true, applyAt := false }).onTx
        p (fun t => { t with claim := some (kind, m.now, tries + 1) })))
    ∧ (tries = 3 → sentAt + 21000 ≤ m.now →
      exec (.tokenClaimTimeout dt p) s = s.becomes ((m.denied p kind 3).takeoverDone))))

/-- CFG_REPLY_RECEIVED and CFG_TIMEOUT (R207, R219, R328): an answer to a request is taken in sequence; a request without an
answer for 1 ms is resent three times, and then the port retrains. (log entry 70: requests wait in a queue of the port) -/
def Obligations.RequestsAreAnsweredOrResent : Prop :=
  (∀ (dt p seq addr result : Nat) (write : Bool) (data : Bytes) (s : State) (m : Mach), p < 64 → s.found dt = m →
    m.linkUp p = true →
    exec (.cfgReplyReceived dt p seq write addr result data) s
      = s.becomesUser dt ((((m.received p seq).cfgReply p write addr result data).serialsChanged m p).tryReady))
  ∧ (∀ (dt p seq addr result : Nat) (write : Bool) (data : Bytes) (s : State) (m : Mach), p < 64 → s.found dt = m →
    m.linkUp p = false → exec (.cfgReplyReceived dt p seq write addr result data) s = s.becomes m)
  ∧ (∀ (dt p : Nat) (r : CfgReq) (rest : List CfgReq) (s : State) (m : Mach), p < 64 → s.found dt = m →
    (m.port p).tx.cfgQueue = r :: rest → r.sentAt + 1000000 ≤ m.now →
    (m.port p).tx.queue.any (fun f => f.body = cfgBody r.addr r.data && f.event = r.event) = false →
    (r.tries < 3 → exec (.cfgTimeout dt p) s = s.becomes ((m.resend p
        { body := cfgBody r.addr r.data, seq := r.seq, event := r.event, gen := 0, resend := true, applyAt := r.event.isSome }).onTx
          p (fun t => { t with cfgQueue := t.cfgQueue.map (fun x => if x = r then { x with sentAt := m.now, tries := x.tries + 1 } else x) })))
    ∧ (3 ≤ r.tries → exec (.cfgTimeout dt p) s = s.becomes (m.retrain p 3)))

/-! ### Firing, cameras, the colour loop and memory -/

/-- GATE_INHIBIT, GATE_INPUT_INACTIVE, GATE_CLEAR and HEAD_REENABLE (R248, R250 to R254): an enabled input latches and stops
its ports, its end leaves the latch, and only a write that names no active input clears it; a stopped port is enabled again
only below LIMIT less the hysteresis. -/
def Obligations.GatesLatchUntilCleared : Prop :=
  (∀ (dt k : Nat) (s : State) (m n : Mach), k < 10 → s.found dt = m →
    { m with gate := { m.gate with present := setBit m.gate.present k true } } = n →
    (bit (m.nat 0x2150 0 0) k = true → exec (.gateInhibit dt k) s = s.becomes (((n.withStops (fun x =>
      { x with gate := { x.gate with latched := setBit x.gate.latched k true } })).record 0x050A (2 ^ k)
        (m.webLine % 2 ^ 32)).reportStop 0
          (if k < 8 then portsOf k else allPorts)))
    ∧ (bit (m.nat 0x2150 0 0) k = false → exec (.gateInhibit dt k) s = s.becomes n))
  ∧ (∀ (dt k : Nat) (s : State) (m : Mach), k < 10 → s.found dt = m →
    exec (.gateInputInactive dt k) s = s.becomes { m with gate := { m.gate with present := setBit m.gate.present k false } })
  ∧ (∀ (dt sid v : Nat) (s : State) (m : Mach), s.found dt = m → m.admits (.host sid) 0x2152 0 v = true →
    ((setBits v 10).any (fun k => bit m.gate.present k) = true →
      exec (.gateClear dt sid v) s = s.becomes (m.reply (.host sid) 0x2152 0 .notReady))
    ∧ (∀ n, (setBits v 10).any (fun k => bit m.gate.present k) = false →
      m.withStops (fun x => { x with gate := { x.gate with
        latched := maskOf ((setBits x.gate.latched 10).filter (fun k => !bit v k)) } }) = n →
      exec (.gateClear dt sid v) s = s.becomes ((if allPorts.any (fun p => m.gateCovers p && !n.gateCovers p)
        then n.record 0x050B (maskOf ((setBits v 10).filter (fun k => bit m.gate.latched k))) (m.webLine % 2 ^ 32) else n).acceptNum
          (.host sid) 0x2152 0 0 2 v)))
  ∧ (∀ (dt sid p : Nat) (s : State) (m : Mach), s.found dt = m → (m.locals (.host sid)).portSel = p →
    m.admits (.host sid) 0x3025 0 1 = true → (m.port p).fire.tempStop = true →
    (m.allBelow p ((m.limits p).2.1 - (m.limits p).2.2) = true →
      exec (.headReenable dt sid 1) s = s.becomes ((((m.withStops (fun x => x.onFire p (fun f => { f with tempStop := false }))).sendVerdict
        (.headPolicy p 3 (m.queueNext (barOf p)))).record 0x0509 p (p32sat ((m.port p).fire.tempMax.getD (-32768)))).acceptNum
          (.host sid) 0x3025 0 p 1 1))
    ∧ (m.allBelow p ((m.limits p).2.1 - (m.limits p).2.2) = false →
      exec (.headReenable dt sid 1) s = s.becomes (m.reply (.host sid) 0x3025 0 .notReady)))

/-- TRIG_PULSE_END, FLASH_START, FLASH_END and CAM_SOFT_TRIGGER (R266, R268, R270, R271): pulses begin and end at their times,
and a soft trigger of a started port is issued. CSI_FRAME_START, CSI_ROW_RECEIVED, CSI_FRAME_END, FS_TIMEOUT and FE_TIMEOUT
(R273, R291): the oldest trigger gets the frame, a good row is kept, a frame without its end is short, and a trigger without a
frame is recorded as missing. -/
def Obligations.CamerasTakeFrames : Prop :=
  ((∀ (dt c e : Nat) (s : State) (m : Mach), c < 4 → s.found dt = m → (m.cam c).trigEnd = some e → e ≤ m.now →
    exec (.trigPulseEnd dt c) s = s.becomes (m.onCam c (fun x => { x with trigEnd := none })))
  ∧ (∀ (dt c e : Nat) (s : State) (m : Mach), c < 4 → s.found dt = m → (m.cam c).flashAt = some e → e ≤ m.now →
    exec (.flashStart dt c) s
      = s.becomes (m.onCam c (fun x => { x with
        flashAt := none, flashEnd := some (e + x.inEffect.strobe * 10), flashMid := some (e + x.inEffect.strobe * 5, none) })))
  ∧ (∀ (dt c e : Nat) (s : State) (m : Mach), c < 4 → s.found dt = m → (m.cam c).flashEnd = some e → e ≤ m.now →
    (m.cam c).shots = [] → (m.cam c).cur = none →
    exec (.flashEnd dt c) s = s.becomes (m.onCam c (fun x => { x with flashEnd := none, flashMid := none })))
  ∧ (∀ (dt c e : Nat) (s : State) (m : Mach), c < 4 → s.found dt = m → (m.cam c).flashEnd = some e → m.now < e →
    exec (.flashEnd dt c) s = s.becomes m)
  ∧ (∀ (dt sid c : Nat) (s : State) (m : Mach), s.found dt = m → (m.locals (.host sid)).camSel = c →
    m.admits (.host sid) 0x6011 0 1 = true → (m.cam c).phase = 2 →
    (m.trigTooSoon c = false → exec (.camSoftTrigger dt sid 1) s
      = s.becomes ((m.issue c noLine 0xFF m.enc.raw (m.calTakes c) true).acceptNum (.host sid) 0x6011 0 c 1 1))
    ∧ (m.trigTooSoon c = true → exec (.camSoftTrigger dt sid 1) s
      = s.becomes (((m.recordAt 0x0601 (camParam c 0) 1 m.webLine).camCount c 2 1).acceptNum (.host sid) 0x6011 0 c 1 1))))
  ∧ ((∀ (dt c vc wrong : Nat) (x : Shot) (rest : List Shot) (s : State) (m : Mach), c < 4 → s.found dt = m →
    m.takesPacket c vc wrong = true → (m.cam c).phase ≠ 0 → (m.cam c).cur = none → (m.cam c).shots = x :: rest →
    exec (.csiFrameStart dt ⟨c, vc, wrong⟩) s = s.becomes (m.onCam c (fun y => { y with
      shots := rest, cur := some x, rows := [], rowCount := 0, lastRow := m.now, dropFrom := none })))
  ∧ (∀ (dt c vc wrong : Nat) (s : State) (m : Mach), c < 4 → s.found dt = m → m.takesPacket c vc wrong = true →
    (m.cam c).phase ≠ 0 → (m.cam c).cur = none → (m.cam c).shots = [] →
    exec (.csiFrameStart dt ⟨c, vc, wrong⟩) s = s.becomes ((m.record 0x0606 c 1).camCount c 7 1))
  ∧ (∀ (dt c vc type wrong : Nat) (pixels : List Nat) (x : Shot) (s : State) (m : Mach), c < 4 → s.found dt = m →
    m.takesPacket c vc wrong = true → type = 0x2A + bits (m.camCfg c) 54 2 → (m.cam c).cur = some x →
    (m.cam c).rowCount < (m.sensor c).rows → pixels.length = (m.sensor c).width → bit m.mem.quarantine (8 + c) = false →
    exec (.csiRowReceived dt ⟨c, vc, wrong⟩ ⟨type, pixels⟩ true true) s = s.becomes (m.onCam c (fun y =>
      { ((y.flag 1 false).flag 2 false).flag 3 false with
        rows := y.rows ++ [some pixels], rowCount := y.rowCount + 1, lastRow := m.now, dropFrom := y.dropFrom })))
  ∧ (∀ (dt c vc type wrong : Nat) (pixels : List Nat) (ok keeps : Bool) (s : State) (m : Mach), c < 4 → s.found dt = m →
    (m.cam c).cur = none → exec (.csiRowReceived dt ⟨c, vc, wrong⟩ ⟨type, pixels⟩ ok keeps) s = s.becomes m)
  ∧ (∀ (dt c vc wrong : Nat) (s : State), c < 4 → (s.found dt).takesPacket c vc wrong = true →
    exec (.csiFrameEnd dt ⟨c, vc, wrong⟩) s = s.becomes ((s.found dt).frameDone c false))
  ∧ (∀ (dt c vc type wrong : Nat) (pixels : List Nat) (ok keeps : Bool) (s : State) (m : Mach), c < 4 → s.found dt = m →
    m.takesPacket c vc wrong = false → exec (.csiFrameStart dt ⟨c, vc, wrong⟩) s = s.becomes m
      ∧ exec (.csiRowReceived dt ⟨c, vc, wrong⟩ ⟨type, pixels⟩ ok keeps) s = s.becomes m ∧ exec (.csiFrameEnd dt ⟨c, vc, wrong⟩) s = s.becomes m)
  ∧ (∀ (m : Mach) (c : Nat) (short : Bool), (m.cam c).cur = none → m.frameDone c short = m)
  ∧ (∀ (dt c : Nat) (x : Shot) (rest : List Shot) (s : State) (m : Mach), c < 4 → s.found dt = m →
    (m.cam c).shots = x :: rest → x.issuedAt + m.fsTimeoutNs c ≤ m.now → x.cal = false →
    exec (.fsTimeout dt c) s = s.becomes ((((m.onCam c (fun y => { y with shots := rest })).recordAt 0x0602 c x.tag.frameNo
      x.tag.line).camCount c 3 1).loopAfter c x.tag.line))
  ∧ (∀ (dt c : Nat) (s : State) (m : Mach), c < 4 → s.found dt = m → (m.cam c).lastRow + m.fsTimeoutNs c ≤ m.now →
    exec (.feTimeout dt c) s = s.becomes (m.frameDone c true))
  ∧ (∀ (dt c : Nat) (s : State) (m : Mach), c < 4 → s.found dt = m → m.now < (m.cam c).lastRow + m.fsTimeoutNs c →
    exec (.feTimeout dt c) s = s.becomes m))

/-- CAM_CONFIG_WRITE, CAM_BUS_TRANSFER_DONE, CAM_EXPOSURE_COMMIT and CAM_STREAM_COMMIT (R260, R264, R277, R290): a stored
configuration restarts its port; a commit of an exposure set waits for the bus, and one with the set's own identifier is
refused; a commit of streams takes the shadow. -/
def Obligations.CameraSettingsTakeEffect : Prop :=
  (∀ (dt sid idx sub c : Nat) (data : Bytes) (s : State) (m : Mach) (vals : List (Nat × Fld × Bytes)), s.found dt = m →
    (m.locals (.host sid)).camSel = c → (idx = 0x6002 ∨ idx = 0x6003) →
    m.admitsBytes (.host sid) idx sub (writeLevels idx sub) data vals = true →
    exec (.camConfigWrite dt sid idx sub data) s
      = s.becomes (((m.storeVals idx c vals).camRestart c).accept (.host sid) idx sub c data))
  ∧ (∀ (dt sid sub c : Nat) (data : Bytes) (s : State) (m : Mach) (vals : List (Nat × Fld × Bytes)), s.found dt = m →
    (m.locals (.host sid)).camSel = c → m.admitsBytes (.host sid) 0x6001 sub (writeLevels 0x6001 sub) data vals = true →
    exec (.camConfigWrite dt sid 0x6001 sub data) s = s.becomes (if (m.storeVals 0x6001 c vals).camFits c
      then ((m.storeVals 0x6001 c vals).camRestart c).accept (.host sid) 0x6001 sub c data
      else m.reply (.host sid) 0x6001 sub .outOfRange))
  ∧ (∀ (dt c : Nat) (acked : Bool) (s : State), c < 4 →
    exec (.camBusTransferDone dt c acked) s = s.becomesUser dt (((s.found dt).camBusTransfer c acked).tryReady))
  ∧ (∀ (dt sid c : Nat) (s : State) (m : Mach), s.found dt = m → (m.locals (.host sid)).camSel = c →
    m.admits (.host sid) 0x6019 0 1 = true → (m.shadowSet c).setId ≠ (m.cam c).inEffect.setId → m.cal.phase = 0 →
    (m.cam c).expState ≠ 1 → (m.cam c).expState ≠ 2 → (m.cam c).bus = [] →
    exec (.camExposureCommit dt sid 1) s = s.becomes (((m.onCam c (fun y => { y with
      expState := 1, pendingSet := some (m.shadowSet c), effectFrame := none })).busStart c 1 (m.group c (m.shadowSet c))).acceptNum
        (.host sid) 0x6019 0 c 1 1))
  ∧ (∀ (dt sid c : Nat) (s : State) (m : Mach), s.found dt = m → (m.locals (.host sid)).camSel = c →
    m.admits (.host sid) 0x6019 0 1 = true → (m.shadowSet c).setId = (m.cam c).inEffect.setId →
    exec (.camExposureCommit dt sid 1) s = s.becomes (m.reply (.host sid) 0x6019 0 .outOfRange))
  ∧ (∀ (dt sid c : Nat) (s : State) (m : Mach), s.found dt = m → (m.locals (.host sid)).camSel = c →
    m.admits (.host sid) 0x6032 0 1 = true → m.cropFits c (m.nat 0x6030 1 c) (m.nat 0x6030 2 c) = true →
    m.cropFits c (m.nat 0x6030 4 c) (m.nat 0x6030 5 c) = true →
    exec (.camStreamCommit dt sid 1) s = s.becomes ((m.onCam c (fun x => { x with
      nextStreams := some (m.now, m.streamShadow c) })).acceptNum (.host sid) 0x6032 0 c 1 1))

/-- LOOP_COMPUTE_DONE, LOOP_COMPUTE_OVERRUN and LOOP_SEAM_RETRY (R305, R311 to R314): a cycle's results come within 20 ms of
its last frame or are left out; a seam without room is posted once more. LOOP_MODE_WRITE, LOOP_BAR_RESET, LOOP_BASELINE_SAVE
and BASELINE_SAVE_TIMER (R300, R301, R328, R330): the mode is stored for the next cycle, a bar learns anew, and baselines are
saved on request and every 10 min. -/
def Obligations.LoopCyclesAndCommands : Prop :=
  ((∀ (dt a t : Nat) (s : State) (m m1 m2 : Mach) (items : List LoopItem) (r : List (List ZoneResult)), s.found dt = m → m.loop.cycleFrom = some a →
    m.loop.computing = some t → m.now ≤ t + 20000000 → m.loopItems a (m.cycleLast a) = (m1, items) →
    allBars.map (fun k => m.barResult (m.zoneFits items) k (m.loopTarget.getD 0)) = r →
    { m1 with loop := { m1.loop with zoneErr := allBars.map (fun k => (k, (nth r k []).map (fun z => z.err))) } } = m2 →
    exec (.loopComputeDone dt) s = s.becomes (((forEach allBars (if m2.loop.mode = 2
        then m2.postCycle (fun line => allBars.map (fun k => m.barResult (m.zoneFits items) k line)) else m2)
      (fun k acc => acc.learnBar k (nth r k []))).halfCameras).nextCycle (m.cycleLast a + 1)))
  ∧ (∀ (dt a t : Nat) (s : State) (m : Mach), s.found dt = m → m.loop.cycleFrom = some a → m.loop.computing = some t →
    t + 20000000 ≤ m.now → exec (.loopComputeOverrun dt) s = s.becomes ((m.deferred 0).nextCycle (m.cycleLast a + 1)))
  ∧ (∀ (dt : Nat) (s : State) (m : Mach), s.found dt = m → m.loop.computing = none →
    exec (.loopComputeDone dt) s = s.becomes m ∧ exec (.loopComputeOverrun dt) s = s.becomes m)
  ∧ (∀ (dt : Nat) (p : LoopPost) (s : State) (m : Mach), s.found dt = m → m.loop.retry = some p →
    exec (.loopSeamRetry dt) s = s.becomes (m.loopPost p true)))
  ∧ ((∀ (dt sid v : Nat) (s : State) (m : Mach), s.found dt = m → m.admits (.host sid) 0x7001 0 v = true →
    exec (.loopModeWrite dt sid v) s = s.becomes ((m.setNum 0x7001 0 0 v).acceptNum (.host sid) 0x7001 0 0 1 v)
      ∧ (m.setNum 0x7001 0 0 v).loop.mode = m.loop.mode)
  ∧ (∀ (dt sid v : Nat) (s : State) (m : Mach), s.found dt = m → m.admits (.host sid) 0x700A 0 v = true →
    exec (.loopBarReset dt sid v) s = s.becomes
      ((Mach.learns { m with loop := { m.loop with resetBars := setBit m.loop.resetBars v true } } v 2).acceptNum (.host sid) 0x700A 0 0 1 v))
  ∧ (∀ (dt sid : Nat) (s : State) (m : Mach), s.found dt = m → m.admits (.host sid) 0x700B 0 1 = true →
    exec (.loopBaselineSave dt sid 1) s = s.becomes (m.saveBaselines.acceptNum (.host sid) 0x700B 0 0 1 1))
  ∧ (∀ (dt : Nat) (s : State) (m : Mach), s.found dt = m → m.loop.savedAt + 600000000000 ≤ m.now → m.loop.learning ≠ 0xFF →
    exec (.baselineSaveTimer dt) s = s.becomes m.saveBaselines)
  ∧ (∀ (dt : Nat) (s : State) (m : Mach), s.found dt = m → m.now < m.loop.savedAt + 600000000000 →
    exec (.baselineSaveTimer dt) s = s.becomes m))

/-- REFRESH_DUE, REFRESH_PAYBACK_START, MR4_POLL and MEM_TEMP_READ (R374 to R381, R398): a refresh is postponed up to the
limit of its rate and then forced; the rate follows MR4, and too hot a channel ends in SAFE. AGE_PROMOTION, ARB_CUTOFF,
ARB_COMMIT, URGENT_LIFT, ARB_REENABLE and MEM_READ_DONE (R370, R391 to R396, R399): a write that holds the bus too long
quarantines its requester, which a write of ARB_REENABLE frees; a committed setting takes effect; the longest read is kept,
and one above 2,000 cycles is counted and recorded. (log entry 5: what the spec leaves open is a free value) -/
def Obligations.RefreshesAndArbiters : Prop :=
  ((∀ (dt ch rate : Nat) (s : State) (m n : Mach), ch < 8 → s.found dt = m →
    (((m.onChannel ch (fun c => c.paid m.now)).takeRate ch (min rate 2)).onChannel ch (fun c => { c with paying := none })) = n →
    ((n.channel ch).debt < debtLimit (n.channel ch).rate →
      exec (.refreshDue dt ch rate true) s = s.becomes ((n.onChannel ch (fun c => { c with debt := c.debt + 1 })).memCount 1 1))
    ∧ (debtLimit (n.channel ch).rate ≤ (n.channel ch).debt →
      exec (.refreshDue dt ch rate true) s = s.becomes ((n.record 0x0805 ch 1).memCount 2 1)))
  ∧ (∀ (dt ch rate : Nat) (s : State) (m : Mach), ch < 8 → s.found dt = m → m.sys.mode = .safe →
    exec (.refreshDue dt ch rate false) s = s.becomes ((m.onChannel ch (fun c => c.paid m.now)).memCount 3 1))
  ∧ (∀ (dt ch : Nat) (s : State) (m : Mach), ch < 8 → s.found dt = m → ((m.channel ch).paid m.now).debt ≠ 0 →
    ((m.channel ch).paid m.now).paying = none → ∃ t, exec (.refreshPaybackStart dt ch) s = s.becomes t
      ∧ t.channel ch = { (m.channel ch).paid m.now with paying := some m.now } ∧ ∀ d, d ≠ ch → t.channel d = m.channel d)
  ∧ (∀ (dt ch rate : Nat) (s : State) (m : Mach), ch < 8 → s.found dt = m →
    exec (.mr4Poll dt ch rate) s = s.becomes ((m.onChannel ch (fun c => c.paid m.now)).takeRate ch (min rate 2)))
  ∧ (∀ (dt ch : Nat) (t : Int) (s : State) (m n : Mach), ch < 8 → s.found dt = m → (m.channel ch).tempHigh = false →
    t < m.num 0x8003 0 0 → t < 1050 → m.onChannel ch (fun c => { c with temp := some t }) = n →
    exec (.memTempRead dt ch t) s = s.becomes (n.judgeGuarantee m)))
  ∧ ((∀ (dt ch k : Nat) (s : State) (m : Mach), ch < 8 → s.found dt = m → bit (m.nat 0x8001 0 0) 4 = true →
    exec (.agePromotion dt ch k) s = s.becomes (m.memCount 5 1))
  ∧ (∀ (dt q addr cycles : Nat) (s : State) (m n : Mach), 8 ≤ q → q < 23 → s.found dt = m → m.nat 0x8014 0 0 < cycles →
    bit m.mem.quarantine q = false → m.granted q = n →
    exec (.arbCutoff dt q addr cycles) s = s.becomes ((Mach.record
      { n with mem := { n.mem with quarantine := setBit n.mem.quarantine q true } } 0x0806 q addr).unitCut q))
  ∧ (∀ (dt q addr cycles : Nat) (s : State) (m : Mach), q < 23 → s.found dt = m → (q < 8 ∨ cycles ≤ m.nat 0x8014 0 0) →
    exec (.arbCutoff dt q addr cycles) s = s.becomes m)
  ∧ (∀ (dt sid : Nat) (s : State) (m : Mach), s.found dt = m → m.admits (.host sid) 0x8010 0 1 = true →
    (m.arbFits = true → exec (.arbCommit dt sid 1) s = s.becomes (m.arbTake.acceptNum (.host sid) 0x8010 0 0 1 1))
    ∧ (m.arbFits = false → exec (.arbCommit dt sid 1) s = s.becomes (m.reply (.host sid) 0x8010 0 .outOfRange)))
  ∧ (∀ (dt sid v : Nat) (s : State) (m : Mach), s.found dt = m → m.admits (.host sid) 0x8011 0 v = true →
    (bit m.mem.quarantine v = false → exec (.urgentLift dt sid v) s
      = s.becomes ((m.onRequester v (fun r => { r with lifted := true })).acceptNum (.host sid) 0x8011 0 0 1 v))
    ∧ (bit m.mem.quarantine v = true → exec (.urgentLift dt sid v) s = s.becomes (m.reply (.host sid) 0x8011 0 .notReady)))
  ∧ (∀ (dt sid v : Nat) (s : State) (m : Mach), s.found dt = m → m.admits (.host sid) 0x8016 0 v = true →
    exec (.arbReenable dt sid v) s = s.becomes ((Mach.record { m with mem := { m.mem with
      quarantine := maskOf ((setBits m.mem.quarantine 23).filter (fun q => !bit v q)) } } 0x0807
        (maskOf ((setBits v 23).filter (bit m.mem.quarantine))) 0).acceptNum (.host sid) 0x8016 0 0 4 v))
  ∧ (∀ (dt ch q latency : Nat) (s : State) (m n : Mach), ch < 8 → q < 8 → (s.found dt).granted q = m →
    { m with mem := { m.mem with counters := fupd m.mem.counters 6 0 (fun x => max x (min 0xFFFFFFFF latency)) } } = n →
    exec (.memReadDone dt ch q latency) s
      = s.becomes (if 2000 < latency then (n.memCount 7 1).record 0x0809 (ch + 256 * q) latency else n)))

/-! ### Engines, semaphores and the debug port -/

/-- ENGINE_FAULT and SUPERVISOR_WATCHDOG (R404): a fault of an engine that executes, or the supervisor's watchdog, is kept,
recorded, and ends in SAFE; an engine that does not execute cannot fault. USER_IMAGE, USER_RUN, USER_WATCHDOG,
USER_WDT_RESTART and USER_DICT_REQUEST (R406 to R408, R567): an image signed by an INTEGRATOR key stops E13, is kept and
stored; RUN starts E13 and clearing it stops it; its watchdog resets it; its requests are those of its own session.
USER_MAILBOX_IN, USER_MAILBOX_POST and USER_MAILBOX_READ (R409): eight messages wait each way, in order; a ninth is refused to
the host, and shown to E13 in its mailbox status. (log entry 40: how E13 is started and watched beyond R407 is the model's;
log entry 60: the signing key) -/
def Obligations.EnginesFaultAndTheUserEngineRuns : Prop :=
  ((∀ (dt n cause : Nat) (s : State) (m : Mach), n < 13 → s.found dt = m →
    ((m.engine n).state = 1 ∨ (m.engine n).state = 4 ∨ (m.engine n).state = 5) → 1 ≤ cause → cause ≤ 4 →
    exec (.engineFault dt n cause) s = s.becomes ((((m.noLongerWaits n).onEngine n (fun e => { e with
      state := 3, cause := cause, waitSem := none })).record 0x0901 n cause).enterSafe 1 n))
  ∧ (∀ (m : Mach) (n q : Nat), q < 64 → ((m.noLongerWaits n).sem q).waiters = (m.sem q).waiters.filter (fun y => y.1 != n))
  ∧ (∀ (dt : Nat) (s : State) (m : Mach), s.found dt = m → (m.engine 12).state ≠ 0 → (m.engine 12).state ≠ 3 → exec (.supervisorWatchdog dt) s
      = s.becomes (((m.onEngine 12 (fun e => { e with state := 3, cause := 4 })).record 0x0901 12 4).enterSafe 2 12))
  ∧ (∀ (dt n cause : Nat) (s : State) (m : Mach), n < 13 → s.found dt = m → (m.engine n).state = 0 →
    exec (.engineFault dt n cause) s = s.becomes m))
  ∧ ((∀ (dt sid : Nat) (image : Bytes) (s : State) (m : Mach) (vals : List (Nat × Fld × Bytes)) (digest : Bytes), s.found dt = m →
    m.admitsBytes (.host sid) 0x9020 0 (writeLevels 0x9020 0) image vals = true → sha256 (image.take (image.length - 64)) = digest →
    ([5, 6, 7, 8].any (fun i => ecdsaOk (m.blob 0x1210 i 0) digest (image.drop (image.length - 64))) = true →
      exec (.userImage dt sid image) s = s.becomes ((((((m.stopUser.setRun false).onUser (fun u => { u with
        image := image, digest := digest })).queueItem { kind := 4, key := 0, blobs := [(0, image)] }).record 0x0908
          (leAt digest 0 4) image.length).accept (.host sid) 0x9020 0 0 image)))
    ∧ ([5, 6, 7, 8].any (fun i => ecdsaOk (m.blob 0x1210 i 0) digest (image.drop (image.length - 64))) = false →
      exec (.userImage dt sid image) s = s.becomes (m.reply (.host sid) 0x9020 0 .authFailed)))
  ∧ (∀ (dt sid v : Nat) (s : State) (m : Mach), s.found dt = m → m.admits (.host sid) 0x9021 0 v = true →
    (bit v 0 = true → m.userRun = false → exec (.userRun dt sid v) s
      = s.becomesUser dt (((m.setNum 0x9021 0 0 v).startUser).acceptNum (.host sid) 0x9021 0 0 1 v))
    ∧ (bit v 0 = false → exec (.userRun dt sid v) s
      = s.becomesUser dt (((m.setNum 0x9021 0 0 v).stopUser).acceptNum (.host sid) 0x9021 0 0 1 v)))
  ∧ (∀ (dt : Nat) (s : State) (m : Mach), s.found dt = m →
    (m.userWdtOver = true → exec (.userWatchdog dt 4) s = s.becomesUser dt (m.userFault 4))
    ∧ (m.userWdtOver = false → exec (.userWatchdog dt 4) s = s.becomesUser dt m))
  ∧ (∀ (dt : Nat) (s : State) (m : Mach), s.found dt = m → (m.engine 13).state = 1 →
    exec (.userWdtRestart dt) s = s.becomes (m.onUser (fun u => { u with wdtAt := m.now })))
  ∧ (∀ (dt idx sub : Nat) (consume : Bool) (data : Bytes) (s : State) (m : Mach), s.found dt = m → (m.engine 13).state = 1 →
    exec (.userDictRequest dt idx sub true consume data) s = s.becomesUser dt (m.writeObj .e13 idx sub data)
      ∧ exec (.userDictRequest dt idx sub false consume data) s = s.becomesUser dt (m.readObj .e13 idx sub consume)))
  ∧ ((∀ (dt sid : Nat) (msg : Bytes) (s : State) (m : Mach) (vals : List (Nat × Fld × Bytes)), s.found dt = m →
    m.admitsBytes (.host sid) 0x9024 0 (writeLevels 0x9024 0) msg vals = true →
    (m.cpu.user.mailIn.length < 8 → m.userRuns = true → exec (.userMailboxIn dt sid msg) s = s.becomes
      ((m.onUser (fun u => { u with mailIn := u.mailIn ++ [msg] })).accept (.host sid) 0x9024 0 0 msg))
    ∧ (8 ≤ m.cpu.user.mailIn.length → exec (.userMailboxIn dt sid msg) s = s.becomes (m.reply (.host sid) 0x9024 0 .busy))
    ∧ (m.cpu.user.mailIn.length < 8 → m.userRuns = false →
      exec (.userMailboxIn dt sid msg) s = s.becomes (m.reply (.host sid) 0x9024 0 .notReady)))
  ∧ (∀ (dt : Nat) (msg : Bytes) (s : State) (m n : Mach), s.found dt = m → (m.engine 13).state = 1 → 1 ≤ msg.length →
    msg.length ≤ 256 →
    (m.cpu.user.mailOut.length < 8 →
      m.onUser (fun u => { u with mailOut := u.mailOut ++ [(m.hy.resultSeq, msg)], mailStatus := 0 }) = n →
      exec (.userMailboxPost dt msg) s = s.becomes { n with hy := { n.hy with resultSeq := (n.hy.resultSeq + 1) % 2 ^ 32 } })
    ∧ (8 ≤ m.cpu.user.mailOut.length →
      exec (.userMailboxPost dt msg) s = s.becomes (m.onUser (fun u => { u with mailStatus := 1 }))))
  ∧ (∀ (dt : Nat) (msg : Bytes) (rest : List Bytes) (s : State) (m : Mach), s.found dt = m → (m.engine 13).state = 1 →
    m.cpu.user.mailIn = msg :: rest →
    exec (.userMailboxRead dt) s = s.becomes (m.onUser (fun u => { u with mailRead := msg, mailIn := rest }))))

/-- SEM_TRY, SEM_WAIT, SEM_RELEASE, SEM_RENEW, SEM_DECLARE_RECOVERY and SEM_LEASE_EXPIRED (R411 to R415): a semaphore that is
not held is granted; a held one refuses TRY and queues WAIT; only its owner releases, renews or declares recovery, and another
ID is recorded; a lease that ends leaves the semaphore ABANDONED. A grant (R411, R412): the semaphore is HELD by its new owner
with the lease now in force, RECOVERING where it was ABANDONED, and no other semaphore changes; left with no waiter it has no
owner. -/
def Obligations.SemaphoresAreGrantedAndReleased : Prop :=
  ((∀ (dt n q : Nat) (s : State) (m : Mach), n < 13 → q < 64 → s.found dt = m → (m.engine n).state = 1 →
    ((m.sem q).state ≠ 1 → exec (.semTry dt n q) s = s.becomesUser dt (m.semGrant q n)
      ∧ exec (.semWait dt n q) s = s.becomesUser dt (m.semGrant q n))
    ∧ ((m.sem q).state = 1 → (m.sem q).owner ≠ n →
      exec (.semTry dt n q) s = s.becomesUser dt (m.semAnswer n (semWord 2 (m.sem q) m.now))
        ∧ exec (.semWait dt n q) s = s.becomesUser dt (m.semQueue q n)
        ∧ exec (.semRelease dt n q) s = s.becomesUser dt (m.record 0x0907 q n)
        ∧ exec (.semRenew dt n q) s = s.becomesUser dt (m.record 0x0907 q n)
        ∧ exec (.semDeclareRecovery dt n q) s = s.becomesUser dt (m.record 0x0907 q n))
    ∧ ((m.sem q).state = 1 → (m.sem q).owner = n →
      exec (.semRelease dt n q) s = s.becomesUser dt
          (if (m.sem q).recovering then (m.record 0x0905 q n).semLeave q true else m.semLeave q false)
        ∧ exec (.semRenew dt n q) s = s.becomesUser dt (m.semRefill q)
        ∧ exec (.semDeclareRecovery dt n q) s = s.becomesUser dt (m.onSem q (fun x => { x with recovering := false }))))
  ∧ (∀ (dt q : Nat) (s : State) (m : Mach), q < 64 → s.found dt = m → (m.sem q).state = 1 → (m.sem q).frozen = none →
    (m.sem q).leaseEnd ≤ m.now → exec (.semLeaseExpired dt q) s
      = s.becomesUser dt (Mach.leaseFault ((m.record 0x0903 q (m.sem q).owner).semLeave q true) (m.sem q).owner))
  ∧ (∀ (dt q : Nat) (s : State) (m : Mach), q < 64 → s.found dt = m → m.now < (m.sem q).leaseEnd →
    exec (.semLeaseExpired dt q) s = s.becomesUser dt m))
  ∧ ((∀ (m : Mach) (q id : Nat),
    (m.semGrant q id).sem q = { m.sem q with
        state := 1, recovering := decide ((m.sem q).state = 2), owner := id, leaseEnd := m.now + m.leaseNs q
        frozen := if id ≠ 15 ∧ (m.engine id).state = 2 then some (m.leaseNs q) else none }
      ∧ ∀ r, r ≠ q → (m.semGrant q id).sem r = m.sem r)
  ∧ (∀ (m : Mach) (q : Nat) (abandoned : Bool), (m.sem q).waiters = [] →
    (m.semLeave q abandoned).sem q = { m.sem q with state := if abandoned then 2 else 0, recovering := false
                                                    lastOwner := (m.sem q).owner, owner := 14, leaseEnd := 0, frozen := none }
      ∧ ∀ r, r ≠ q → (m.semLeave q abandoned).sem r = m.sem r))

/-- R415: a semaphore that leaves HELD with IDs waiting is granted at once to the one that has waited longest, ties go to the
lowest ID, and the word that it receives says GRANTED_ABANDONED where the semaphore left HELD as ABANDONED. -/
def Obligations.TheLongestWaiterIsNext : Prop :=
  (∀ (l : List (Nat × Nat)), l ≠ [] → ∃ w, longestWaiter l = some w ∧ w ∈ l ∧ ∀ x ∈ l, w.2 < x.2 ∨ (w.2 = x.2 ∧ w.1 ≤ x.1))
  ∧ (∀ (m n : Mach) (q : Nat) (abandoned : Bool) (w : Nat × Nat), longestWaiter (m.sem q).waiters = some w →
    m.semLeave q abandoned = n →
    (n.sem q).state = 1 ∧ (n.sem q).owner = w.1 ∧ (n.sem q).recovering = abandoned
      ∧ (n.sem q).waiters = (m.sem q).waiters.filter (fun y => y.1 != w.1)
      ∧ (w.1 ≠ 15 → (n.engine w.1).grantWord = semWord (if abandoned then 1 else 0) (n.sem q) n.now)
      ∧ (w.1 = 15 → n.cpu.dbg.data = semWord (if abandoned then 1 else 0) (n.sem q) n.now))

/-- DBG_CHALLENGE and DBG_RESPONSE (R422, R423): the port that may be unlocked gives a fresh challenge, and a response signed
by a key of its scope unlocks it; a module that is locked, or a port that is blocked, gives none. TAP_BYPASS, TAP_IDCODE,
TAP_SAMPLE_PRELOAD, TAP_EXTEST, TAP_CLAMP, TAP_HIGHZ and TAP_RESET (R414, R421): the instruction register and what drives the
lands; a locked port takes EXTEST, CLAMP and HIGHZ as BYPASS. (log entry 60: the signing key; log entry 5: the bytes of a
challenge are free) -/
def Obligations.TheDebugPortUnlocksAndScans : Prop :=
  ((∀ (dt scope : Nat) (s : State) (m : Mach), s.found dt = m → m.sys.debugLock = 0 → m.nat 0x9041 0 0 ≠ 0 →
    m.cpu.dbg.blocked = false → (scope = 1 ∨ scope = 2) →
    exec (.dbgChallenge dt scope) s = s.becomes (Mach.emit ((m.onDbg (fun d => { d with ir := 0x10, driven := 0 })).drawn.onDbg (fun d => { d with
      nonce := m.randomBytes 32, challenge := m.challengeBytes (m.randomBytes 32) scope, scope := scope }))
        (.tap (m.challengeBytes (m.randomBytes 32) scope))))
  ∧ (∀ (dt scope : Nat) (s : State) (m : Mach), s.found dt = m →
    (m.sys.debugLock ≠ 0 ∨ m.nat 0x9041 0 0 = 0 ∨ m.cpu.dbg.blocked = true) →
    exec (.dbgChallenge dt scope) s = s.becomes (m.onDbg (fun d => { d with ir := 0x10, driven := 0, challenge := [] })))
  ∧ (∀ (dt scope i : Nat) (key sig : Bytes) (s : State) (m : Mach), s.found dt = m → m.cpu.dbg.blocked = false →
    m.cpu.dbg.challenge ≠ [] → m.sys.debugLock = 0 → scope = m.cpu.dbg.scope → m.hashSlot (scopeSlots scope) key = some i →
    (ecdsaOk key (sha256 m.cpu.dbg.challenge) sig = true → exec (.dbgResponse dt scope key sig) s = s.becomes
      (((m.onDbg (fun d => { d with ir := 0x11, driven := 0, unlocked := scope })).record 0x0909 scope i).trailRec 0x0B0A scope i))
    ∧ (ecdsaOk key (sha256 m.cpu.dbg.challenge) sig = false → exec (.dbgResponse dt scope key sig) s
      = s.becomes ((m.onDbg (fun d => { d with ir := 0x11, driven := 0 })).dbgFailed scope)))
  ∧ (∀ (dt scope : Nat) (key sig : Bytes) (s : State) (m : Mach), s.found dt = m → m.cpu.dbg.blocked = true →
    exec (.dbgResponse dt scope key sig) s = s.becomes (m.onDbg (fun d => { d with ir := 0x11, driven := 0 }))))
  ∧ ((∀ (dt code : Nat) (s : State), tapCodes.contains code = false →
    exec (.tapBypass dt code) s = s.becomes ((s.found dt).onDbg (fun d => { d with ir := 0xFF, driven := 0 })))
  ∧ (∀ (dt : Nat) (s : State), exec (.tapIdcode dt) s = s.becomes
      (Mach.emit ((s.found dt).onDbg (fun d => { d with ir := 0x01, driven := 0 })) (.tap [0xA3, 0xC0, 0x64, 0x18])))
  ∧ (∀ (dt : Nat) (preload lands : Bytes) (s : State), exec (.tapSamplePreload dt preload lands) s = s.becomes
      (Mach.emit ((s.found dt).onDbg (fun d => { d with ir := 0x02, driven := 0, scan := preload })) (.tap lands)))
  ∧ (∀ (dt : Nat) (s : State) (m : Mach), s.found dt = m → m.cpu.dbg.unlocked ≠ 0 →
    exec (.tapExtest dt) s = s.becomes (m.onDbg (fun d => { d with ir := 0x00, driven := 1 }))
      ∧ exec (.tapClamp dt) s = s.becomes (m.onDbg (fun d => { d with ir := 0x03, driven := 2 }))
      ∧ exec (.tapHighz dt) s = s.becomes (m.onDbg (fun d => { d with ir := 0x04, driven := 3 })))
  ∧ (∀ (dt : Nat) (s : State) (m : Mach), s.found dt = m → m.cpu.dbg.unlocked = 0 →
    exec (.tapExtest dt) s = s.becomes (m.onDbg (fun d => { d with ir := 0xFF, driven := 0 }))
      ∧ exec (.tapClamp dt) s = s.becomes (m.onDbg (fun d => { d with ir := 0xFF, driven := 0 }))
      ∧ exec (.tapHighz dt) s = s.becomes (m.onDbg (fun d => { d with ir := 0xFF, driven := 0 })))
  ∧ (∀ (dt : Nat) (s : State), exec (.tapReset dt) s = s.becomes (((s.found dt).semsAbandoned 15).onDbg (fun d => { d with
      ir := 0x01, driven := 0, semWait := none, access := none }))))

/-- DBG_HALT, DBG_RESUME, DBG_STEP, DBG_SET_BP, DBG_CLEAR_BP, DBG_READ_REG, DBG_WRITE_REG and BREAKPOINT_HIT (R425, R427):
what an unlocked port does to an engine in its scope. `m` is the module with DEBUG_CMD selected. A locked debug port takes a
debug command as BYPASS (R421), and an engine outside the scope is refused with status 1 (R424). (log entry 41: an access
completes at once; log entry 5: what an engine's own program does is free) -/
def Obligations.TheDebugPortHaltsAndSteps : Prop :=
  (∀ (dt n : Nat) (s : State) (m : Mach), n < 16 → (s.found dt).cpu.dbg.unlocked ≠ 0 → (s.found dt).inScopeEngine n = true →
    (s.found dt).onDbg (fun d => { d with ir := 0x20, driven := 0, access := none }) = m →
    (((m.engine n).state = 1 ∨ (m.engine n).state = 4 ∨ (m.engine n).state = 5) → exec (.dbgHalt dt n) s = s.becomes ((m.haltEngine n).dbgStatus 0 0))
    ∧ ((m.engine n).state = 2 →
        exec (.dbgResume dt n) s = s.becomes (((m.engineRan n (if (m.engine n).waitSem.isSome then 5 else 1)).thawLeases n).dbgStatus 0 0)
        ∧ exec (.dbgStep dt n) s = s.becomes ((m.engineRan n 2).dbgStatus 0 0)
        ∧ (∀ reg, isReg reg = true → exec (.dbgReadReg dt n reg) s = s.becomes (m.dbgStatus 0 (m.engineReg n reg)))
        ∧ (∀ reg data, isReg reg = true → exec (.dbgWriteReg dt n reg data) s = s.becomes
            ((m.onEngine n (fun e => { e with regs := fset e.regs reg (data % 2 ^ 32) })).dbgStatus 0 0)))
    ∧ ((m.engine n).state ≠ 2 → exec (.dbgStep dt n) s = s.becomes (m.dbgStatus 3 0))
    ∧ (∀ bp data, bp < 4 → exec (.dbgSetBp dt n bp data) s = s.becomes
        ((m.onEngine n (fun e => { e with bps := fset e.bps bp (bpOf data) })).dbgStatus 0 0))
    ∧ (∀ bp, bp < 4 → exec (.dbgClearBp dt n bp) s
        = s.becomes ((m.onEngine n (fun e => { e with bps := fdel e.bps bp })).dbgStatus 0 0))
    ∧ (∀ bp, bp < 4 → ((s.found dt).engine n).state = 1 → (ffind ((s.found dt).engine n).bps bp).isSome = true →
        exec (.breakpointHit dt n bp) s = s.becomes ((s.found dt).haltEngine n)))
  ∧ (∀ (dt n : Nat) (s : State) (m : Mach), n < 16 → s.found dt = m →
    (m.cpu.dbg.unlocked = 0 → exec (.dbgHalt dt n) s = s.becomes (m.onDbg (fun d => { d with ir := 0xFF, driven := 0 }))
      ∧ exec (.dbgStep dt n) s = s.becomes (m.onDbg (fun d => { d with ir := 0xFF, driven := 0 })))
    ∧ (m.cpu.dbg.unlocked ≠ 0 → m.inScopeEngine n = false →
      exec (.dbgHalt dt n) s = s.becomes ((m.onDbg (fun d => { d with ir := 0x20, driven := 0, access := none })).dbgStatus 1 0)
        ∧ exec (.dbgStep dt n) s = s.becomes ((m.onDbg (fun d => { d with ir := 0x20, driven := 0, access := none })).dbgStatus 1 0)))

/-- DBG_READ_MEM, DBG_WRITE_MEM and DBG_TIMEOUT (R426): eight bytes of an engine's local memory or of its window of job
memory; what an access that timed out wrote is undone (log entry 41: the model's choice). DBG_SEM_ACQUIRE, DBG_SEM_RELEASE and
DBG_SEM_RECOVERED (R425): as an engine's operations, with owner ID 15. -/
def Obligations.TheDebugPortReachesMemoryAndSemaphores : Prop :=
  ((∀ (dt n a : Nat) (s : State) (m : Mach), n < 16 → (s.found dt).cpu.dbg.unlocked ≠ 0 →
    (s.found dt).memAllowed n (a % 2 ^ 32) = true → okOffset (a % 2 ^ 32) = true → bit (a % 2 ^ 32) 31 = false →
    (s.found dt).onDbg (fun d => { d with ir := 0x20, driven := 0, access := none }) = m →
    exec (.dbgReadMem dt n a) s
      = s.becomes (m.dbgStatus 0 (ofLe ((List.range 8).map (fun i => m.localByte n (a % 2 ^ 32 + i)))))
    ∧ ∀ data, exec (.dbgWriteMem dt n a data) s = s.becomes (((List.range 8).foldl (fun acc i => Mach.onEngine acc n (fun e =>
        { e with local_ := fset e.local_ (a % 2 ^ 32 + i) (nth (leBytes 8 data) i 0) })) m).dbgStatus 0 0))
  ∧ (∀ (dt n a data : Nat) (s : State) (m : Mach), n < 16 → s.found dt = m → m.dbgReachesJob n (a % 2 ^ 32) = true →
    exec (.dbgWriteMem dt n a data) s = .next { s with
      m := (m.dbgWriteJob s.mem n (a % 2 ^ 32) data).1, mem := (m.dbgWriteJob s.mem n (a % 2 ^ 32) data).2 })
  ∧ (∀ (dt t a : Nat) (old : Bytes) (s : State) (m : Mach), s.found dt = m → m.cpu.dbg.access = some (t, a, old) →
    (t + 1000000 ≤ m.now → exec (.dbgTimeout dt) s = .next { s with
        m := ((jobWriteAll (m, s.mem) a old).1.dbgStatus 2 0).onDbg (fun d => { d with access := none })
        mem := (jobWriteAll (m, s.mem) a old).2 })
    ∧ (m.now < t + 1000000 → exec (.dbgTimeout dt) s = s.becomes m)))
  ∧ (∀ (dt q : Nat) (s : State) (m : Mach), q < 64 → (s.found dt).cpu.dbg.unlocked ≠ 0 → (s.found dt).inScopeSem q = true →
    (s.found dt).onDbg (fun d => { d with ir := 0x20, driven := 0, access := none }) = m →
    (∀ wait, (m.sem q).state ≠ 1 → exec (.dbgSemAcquire dt q wait) s = s.becomes ((m.dbgStatus 0 0).semGrant q 15))
    ∧ ((m.sem q).state = 1 → (m.sem q).owner = 15 → (m.sem q).recovering = false →
        exec (.dbgSemRelease dt q) s = s.becomes ((m.semLeave q false).dbgStatus 0 0))
    ∧ ((m.sem q).state = 1 → (m.sem q).owner = 15 → exec (.dbgSemRecovered dt q) s
        = s.becomes ((m.onSem q (fun x => { x with recovering := false })).dbgStatus 0 0)))

/-! ### Pairs -/

/-- HEARTBEAT_TIMER, HAREBELL_TIMER, HAREBELL_FRAME and BINDWEED_HEARTBEAT (R435 to R437): what a module of a pair sends every
5 us, and what it takes from its peer; a frame that is not valid changes nothing, and a module without a peer sends none.
PATH_ABSENT, YIELD_RECEIVED and DISCOVERY_END (R432, R437, R451, R452): one absent path of two fails, both count as the peer's
failure; a standby takes a yield as the active module's failure; the table of discovery gives the role. (log entries 43 and
71: the byte order of a heartbeat and the cases of discovery that the spec leaves open are the model's) -/
def Obligations.PairsHearEachOtherAndTakeRoles : Prop :=
  ((∀ (dt : Nat) (s : State) (m : Mach), s.found dt = m → m.paired = true → m.sys.mode ≠ .reset →
    (m.pair.beatAt + 5000 ≤ m.now → exec (.heartbeatTimer dt) s = s.becomes ((m.onPair (fun p => { p with beatAt := m.now })).emit
      (.peer (.heartbeat (leBytes 1 m.pair.role ++ leBytes 1 m.sys.mode.code ++ leBytes 4 m.pair.verdictNo
        ++ leBytes 4 m.pair.lastMirror ++ leBytes 6 (m.fireNext 0 + 2 ^ 48 - 1) ++ leBytes 8 m.linkTime)))))
    ∧ (m.pair.hareAt + 5000 ≤ m.now → exec (.harebellTimer dt) s = s.becomes ((m.onPair (fun p => { p with
        hareAt := m.now, hareSeq := (p.hareSeq + 1) % 128 })).emit
          (.harebell (beBytes 4 m.harebellWord ++ leBytes 1 (crc8 (beBytes 4 m.harebellWord)))))))
  ∧ (∀ (dt : Nat) (s : State) (m : Mach), s.found dt = m → m.paired = false →
    exec (.heartbeatTimer dt) s = s.becomes m ∧ exec (.harebellTimer dt) s = s.becomes m)
  ∧ (∀ (dt v : Nat) (s : State) (m : Mach), s.found dt = m → m.paired = true → bits (v % 2 ^ 40) 32 8 = 0xD5 →
    crc8 (beBytes 4 (v % 2 ^ 40 / 256)) = v % 2 ^ 40 % 256 → bits (v % 2 ^ 40) 10 6 = 0 → bit (v % 2 ^ 40) 9 = false →
    exec (.harebellFrame dt v) s = s.becomes (((if m.pair.hareFailed then m.record 0x0A0B 0 0 else m).onPair (fun p => { p with
      heardHare := true, lastHare := m.now, hareFailed := false, peerModule := bits (v % 2 ^ 40) 30 2 })).hearRole
        (bits (v % 2 ^ 40) 27 3) (bits (v % 2 ^ 40) 23 4) false))
  ∧ (∀ (dt v : Nat) (s : State), (bits (v % 2 ^ 40) 32 8 ≠ 0xD5 ∨ crc8 (beBytes 4 (v % 2 ^ 40 / 256)) ≠ v % 2 ^ 40 % 256
      ∨ bits (v % 2 ^ 40) 10 6 ≠ 0) → exec (.harebellFrame dt v) s = s.becomes (s.found dt))
  ∧ (∀ (dt role mode lastVerdict lastMirror phi0 linkTime : Nat) (s : State) (m : Mach), s.found dt = m → m.paired = true →
    exec (.bindweedHeartbeat dt role mode lastVerdict lastMirror phi0 linkTime) s = s.goesOn
      ((((if m.pair.bindFailed then m.record 0x0A09 0 0 else m).onPair (fun p => { p with
        heardBind := true, lastBind := m.now, bindFailed := false, peerPhi0 := phi0, peerLink := linkTime, peerVerdict := lastVerdict
        peerMirror := lastMirror, declaredAt := if p.role = 1 then none else p.declaredAt })).hearRole role mode true).tryResync linkTime)))
  ∧ ((∀ (dt lanes : Nat) (s : State) (m : Mach), s.found dt = m → m.paired = true → m.pair.role ≠ 5 →
    m.pair.bindFailed = false → m.absent m.pair.lastBind = true → m.pair.hareFailed = false → m.absent m.pair.lastHare = false →
    exec (.pathAbsent dt 0 lanes) s = s.goesOn (m.bindweedFails 0 lanes))
  ∧ (∀ (dt lanes : Nat) (s : State) (m : Mach), s.found dt = m → m.paired = true → m.pair.role ≠ 5 →
    m.pair.hareFailed = false → m.absent m.pair.lastHare = true → m.pair.bindFailed = false → m.absent m.pair.lastBind = false →
    exec (.pathAbsent dt 1 lanes) s = s.goesOn m.harebellFails)
  ∧ (∀ (dt : Nat) (s : State) (m : Mach), s.found dt = m →
    (m.pair.role = 2 → exec (.yieldReceived dt) s = s.goesOn (m.peerFails 1))
    ∧ (m.pair.role = 0 ∨ m.pair.role = 1 → exec (.yieldReceived dt) s = s.goesOn m))
  ∧ (∀ (dt delay : Nat) (list : List (Nat × Bytes × Nat)) (s : State) (m : Mach), s.found dt = m → m.pair.role = 5 →
    m.sys.mode = .assemble → m.pair.discoveryAt + 100000000 ≤ m.now → bit m.pair.flags 2 = false →
    m.pair.heardHare = false → m.pair.heardBind = false →
    (m.moduleId = 1 → exec (.discoveryEnd dt delay list) s
      = s.becomesUser dt ((m.onPair (fun p => { p with delay := delay })).takeRole 1))
    ∧ (m.moduleId ≠ 1 → m.pair.secondWait = false → exec (.discoveryEnd dt delay list) s
      = s.becomesUser dt (m.onPair (fun p => { p with secondWait := true, discoveryAt := m.now })))))

/-- VERDICT_RECORD_RECEIVED, VERDICT_ACK_RECEIVED, VERDICT_ACK_TIMEOUT, FORWARD_ACK_RECEIVED and FORWARDED_WRITE_RECEIVED
(R438, R439, R443, R444): a record is acknowledged and applied in order, one that has been applied only acknowledged; an
acknowledgement ends the wait for its number; one that is late makes Bindweed fail. (log entry 42: a JOINING peer's are not
awaited, the model's choice) -/
def Obligations.VerdictsAndWritesAreAcknowledged : Prop :=
  (∀ (dt no : Nat) (v : VerdictBody) (s : State) (m : Mach), s.found dt = m → m.pair.role = 2 →
    (no ≤ m.pair.verdictApplied → exec (.verdictRecordReceived dt no v) s = s.becomes (m.emit (.peer (.verdictAck no))))
    ∧ (∀ n, m.pair.verdictApplied < no → m.pair.verdictQueue.any (fun x => x.1 = no) = false →
      (m.emit (.peer (.verdictAck no))).onPair (fun p => { p with verdictQueue := p.verdictQueue ++ [(no, v)] }) = n →
      exec (.verdictRecordReceived dt no v) s = s.becomes ((n.drainVerdicts n.pair.verdictQueue.length).applyMirror)))
  ∧ (∀ (dt no : Nat) (s : State) (m : Mach), s.found dt = m → ∃ f : PrintFrame → Bool, exec (.verdictAckReceived dt no) s = s.becomes
      ((m.onPair (fun p => { p with sentVerdicts := p.sentVerdicts.filter (fun v => v.no != no) })).releasePulses f))
  ∧ (∀ (dt lanes : Nat) (s : State) (m : Mach) (v : SentVerdict), s.found dt = m → v ∈ m.pair.sentVerdicts → v.sentAt + 20000 ≤ m.now →
    exec (.verdictAckTimeout dt lanes) s = s.goesOn (m.bindweedFails 4 lanes))
  ∧ (∀ (dt lanes : Nat) (s : State) (m : Mach), s.found dt = m → m.pair.sentVerdicts = [] → m.pair.sentForwards = [] →
    exec (.verdictAckTimeout dt lanes) s = s.goesOn m)
  ∧ (∀ (dt no : Nat) (st : Status) (s : State) (m : Mach), s.found dt = m →
    exec (.forwardAckReceived dt no .ok) s = s.goesOn (m.releaseAnswers (fun n => n = no))
      ∧ (st ≠ .ok → exec (.forwardAckReceived dt no st) s = s.goesOn ((m.releaseAnswers (fun n => n = no)).peerCold 3)))
  ∧ (∀ (dt no idx sub dev : Nat) (data : Bytes) (s : State) (m n : Mach), s.found dt = m → m.pair.role = 2 → idx ≠ 0 →
    Mach.writeObj { m.onPair (fun p => { p with forwardApplied := no }) with out := [] } (.peer dev) idx sub data = n →
    answerIn (.peer dev) n.out = none →
    exec (.forwardedWriteReceived dt no idx sub dev data) s = s.becomesUser dt
      (Mach.emit { n with out := m.out ++ withoutAnswer (.peer dev) n.out } (.peer (.forwardAck no .ok))))
  ∧ (∀ (dt no idx sub dev : Nat) (data : Bytes) (s : State) (m : Mach), s.found dt = m → m.pair.role = 1 →
    exec (.forwardedWriteReceived dt no idx sub dev data) s = s.becomesUser dt m)

/-- MIRROR_CYCLE, MIRROR_CHUNK_RECEIVED and ORIGIN_STAMP_RECEIVED (R441, R446 to R448): the mirror record leaves in chunks of
4,096 bytes with the count since the origin; a record that is not whole waits; a count that differs by more than 2 makes a
standby cold. (log entry 45: the layout of the mirror record is the model's) -/
def Obligations.TheStandbyMirrorsTheActive : Prop :=
  (∀ (dt no : Nat) (b : Bytes) (s : State) (m : Mach), s.found dt = m → m.inStepPeer = true → m.pair.mirrorAt + 1000000 ≤ m.now →
    m.pair.mirrorNo + 1 = no → m.mirrorRecord no = b → m.pair.resync = 0 → m.enc.origin = none →
    exec (.mirrorCycle dt) s = s.becomes ((List.range (divUp b.length 4096)).foldl
      (fun acc i => acc.emit (.peer (.mirror no i (slice b (4096 * i) 4096))))
        (m.onPair (fun p => { p with mirrorNo := no, lastMirror := no, mirrorAt := m.now }))))
  ∧ (∀ (dt : Nat) (s : State) (m : Mach), s.found dt = m → m.pair.role ≠ 1 → exec (.mirrorCycle dt) s = s.becomes m)
  ∧ (∀ (dt no chunk : Nat) (data : Bytes) (s : State) (m : Mach), s.found dt = m → m.pair.role = 2 → 1 ≤ chunk → chunk < 16 →
    data.length ≤ 4096 → m.pair.mirrorPart = none →
    exec (.mirrorChunkReceived dt no chunk data) s
      = s.becomes (m.onPair (fun p => { p with mirrorPart := some (no, [(chunk, data)]) })))
  ∧ (∀ (dt time : Nat) (count : Int) (s : State) (m : Mach), s.found dt = m → m.pair.role = 2 → m.enc.origin.isSome = true →
    (2 < (m.countAt time - count).natAbs → exec (.originStampReceived dt true time count) s
      = s.becomes ((m.record 0x0A0F (m.countAt time - count).natAbs 1).goCold))
    ∧ ((m.countAt time - count).natAbs ≤ 2 → exec (.originStampReceived dt true time count) s = s.becomes m))
  ∧ (∀ (dt time : Nat) (count : Int) (s : State) (m : Mach), s.found dt = m → m.paired = true → m.enc.origin = none →
    exec (.originStampReceived dt false time count) s = s.becomes (m.onPair (fun p => { p with peerStamp := some time })))

/-- PEER_STATS_RECEIVED, STOP_REPORT_RECEIVED, DIGEST_RECEIVED, INGEST_WAIT_EXPIRY and RESYNC_DATA_RECEIVED (R326, R440, R442,
R449, R459): what the peer reports is taken; the same digest ends the wait of a content, and a wait without one ends in a cold
standby. (log entry 45: the layout of the copied content is the model's) -/
def Obligations.PeerReportsAreTaken : Prop :=
  (∀ (dt c line : Nat) (profiles : List (List Nat)) (s : State) (m : Mach), s.found dt = m → m.paired = true →
    exec (.peerStatsReceived dt (.band c line profiles)) s
      = s.becomes { m with loop := { m.loop with peerBands := m.loop.peerBands ++ [(c, line, profiles)] } })
  ∧ (∀ (dt event : Nat) (s : State) (m : Mach), s.found dt = m → m.pair.role = 1 →
    exec (.stopReportReceived dt 2 0 event) s = s.becomes (m.recordPeer 0x090B 0 (m.webLine % 2 ^ 32)))
  ∧ (∀ (dt cause ports event : Nat) (s : State) (m : Mach), s.found dt = m → m.pair.role ≠ 1 →
    exec (.stopReportReceived dt cause ports event) s = s.becomes m)
  ∧ (∀ (dt h since : Nat) (c : Content) (s : State) (m : Mach), s.found dt = m → m.content h = some c → c.waitSince = some since →
    exec (.digestReceived dt h c.hash) s = s.becomes (m.onContent h (fun x => { x with
      peerDigest := c.hash, ready := true, doneAt := m.now, waitSince := none })))
  ∧ (∀ (dt h : Nat) (digest : Bytes) (c : Content) (s : State) (m : Mach), s.found dt = m → m.content h = some c →
    c.state = 5 → digest ≠ c.hash → m.inStepPeer = true → c.waitSince = none →
    exec (.digestReceived dt h digest) s = s.becomes ((m.onContent h (fun x => { x with peerDigest := digest })).emit
      (.peer (.resync (.content h c.hash c.copy)))))
  ∧ (∀ (dt h since : Nat) (c : Content) (s : State) (m : Mach), s.found dt = m → m.content h = some c → c.waitSince = some since →
    (since + m.nat 0xA005 0 0 * 1000000 ≤ m.now → exec (.ingestWaitExpiry dt h) s = s.goesOn (((m.onContent h (fun x => { x with
        ready := true, waitSince := none, doneAt := m.now })).record 0x0A10 h ((m.now - since) / 1000000)).peerCold 1))
    ∧ (m.now < since + m.nat 0xA005 0 0 * 1000000 → exec (.ingestWaitExpiry dt h) s = s.goesOn m))
  ∧ (∀ (dt : Nat) (table : List Seam) (vals : List SeamVals) (s : State) (m : Mach), s.found dt = m → m.pair.role = 4 →
    exec (.resyncDataReceived dt (.seams table vals)) s
      = s.becomes { m with seams := { m.seams with table := table, vals := vals } })

/-! ### Yarrow -/

/-- YR_ENC_COUNT and ENC_X_COUNT (R469, R470, R478, R479): a count that raises the highest count is one step, metered at the
factor in effect or kept for the run; a step back of more than 4 aborts the run; a run that may be made begins at a count of
ENC_X. -/
def Obligations.YarrowMetersTheWeb : Prop :=
  (∀ (dt : Nat) (aLeads : Bool) (s : State) (m : Mach), s.found dt = m → m.yarrow.up = true → m.yarrow.run = none →
    (aLeads != bit m.yarrow.params.encConfig 8) = true → m.yarrow.highest < m.yarrow.count + 1 →
    exec (.yrEncCount dt aLeads) s = s.becomes (m.onYarrow (fun y => { y with
      count := y.count + 1, highest := y.count + 1, acc := y.acc + y.pEff
      job := y.job.map (fun j => if j.lengthOpen then { j with acc := j.acc + y.pEff } else j) })))
  ∧ (∀ (dt : Nat) (aLeads : Bool) (s : State) (m : Mach), s.found dt = m → m.yarrow.up = true → m.yarrow.run = none →
    (aLeads != bit m.yarrow.params.encConfig 8) = false → m.yarrow.count - 1 ≤ m.yarrow.highest →
    exec (.yrEncCount dt aLeads) s = s.becomes (m.onYarrow (fun y => { y with count := y.count - 1 })))
  ∧ (∀ (dt : Nat) (aLeads : Bool) (s : State) (m : Mach), s.found dt = m → m.yarrow.up = true → m.yarrow.run = none →
    m.yarrow.openX = [] → (aLeads != bit m.yarrow.params.encConfig 9) = true → m.yarrow.calDue = true → m.yarrow.params.calAuto = 1 →
    m.yarrow.full = false → m.yarrow.ready = true → m.yarrow.restarting = false →
    exec (.encXCount dt aLeads) s = s.becomes (m.onYarrow (fun y => { y with
      xPresent := true, run := some { startP := y.count, countX := 0, highX := 0, highP := y.count } })))
  ∧ (∀ (dt : Nat) (aLeads : Bool) (r : CalLenRun) (s : State) (m : Mach), s.found dt = m → m.yarrow.up = true → m.yarrow.run = some r →
    (aLeads != bit m.yarrow.params.encConfig 9) = true → max r.highX (r.countX + 1) - (r.countX + 1) ≤ 4 →
    r.countX + 1 < (m.yarrow.runLength : Int) →
    exec (.encXCount dt aLeads) s = s.becomes (m.onYarrow (fun y => { y with
      xPresent := y.openX.isEmpty, run := some { r with countX := r.countX + 1, highX := max r.highX (r.countX + 1) } })))
  ∧ (∀ (dt : Nat) (aLeads : Bool) (s : State) (m : Mach), s.found dt = m → m.yarrow.up = false →
    exec (.yrEncCount dt aLeads) s = s.becomes m ∧ exec (.encXCount dt aLeads) s = s.becomes m)

/-- CAL_LEN_START, SEAL_CHECK, LOCKSTEP_MISMATCH, YR_ENC_ILLEGAL, YR_OPEN_LINE and YR_TEMP_READ (R469, R477, R481 to R485):
what makes a length calibration due, and the causes that Yarrow keeps. (log entry 50: the restart after a lockstep mismatch) -/
def Obligations.YarrowKeepsItsCauses : Prop :=
  (∀ (dt sid : Nat) (s : State) (m : Mach), s.found dt = m → m.admits (.host sid) 0xC021 0 1 = true →
    (m.yarrowAnswers = true → exec (.calLenStart dt sid 1) s
      = s.becomes (((m.onYarrow (fun y => { y with requested := true })).calDue 1).acceptNum (.host sid) 0xC021 0 0 1 1))
    ∧ (m.yarrowAnswers = false → exec (.calLenStart dt sid 1) s = s.becomes (m.reply (.host sid) 0xC021 0 .notReady)))
  ∧ (∀ (dt : Nat) (s : State) (m : Mach), s.found dt = m → m.yarrow.up = true → m.yarrow.sealClosed = true →
    exec (.sealCheck dt false) s = s.becomes
      (((m.onYarrow (fun y => { y.abortRun with sealClosed := false, sealOpenedAt := m.now })).trailRec 0x0B05 0 0).raiseCause 0)
    ∧ exec (.sealCheck dt true) s = s.becomes m)
  ∧ (∀ (dt : Nat) (s : State) (m : Mach), s.found dt = m → m.yarrow.up = true → m.yarrow.sealClosed = false →
    exec (.sealCheck dt true) s = s.becomes ((m.onYarrow (fun y => { y with sealClosed := true })).trailRec 0x0B06
      ((m.now - m.yarrow.sealOpenedAt) / 1000000) 0))
  ∧ (∀ (dt n : Nat) (s : State) (m : Mach), s.found dt = m → m.yarrow.up = true → m.yarrow.ready = true →
    m.yarrow.lockRestarts + 1 = n → exec (.lockstepMismatch dt) s = s.becomes ((((m.onYarrow (fun y => { y with
      lockRestarts := n })).trailRec 0x0B07 n 0).raiseCause 1).onYarrow (fun y => y.restart m.now)))
  ∧ (∀ (dt : Nat) (times : List Nat) (s : State) (m n : Mach), s.found dt = m → m.yarrow.up = true →
    m.yarrow.illegalTimes.filter (fun t => decide (m.now < t + 1000000)) ++ [m.now] = times →
    m.onYarrow (fun y => { y with illegalTimes := times }) = n →
    exec (.yrEncIllegal dt) s = s.becomes
      (if times.length = 4 then ((n.onYarrow Yarrow.abortRun).trailRec 0x0B09 0 0).raiseCause 6 else n))
  ∧ (∀ (dt : Nat) (line : EncLine) (s : State) (m : Mach), s.found dt = m → m.yarrow.up = true →
    (m.yarrow.openP.contains line = false → exec (.yrOpenLine dt .encP line true) s = s.becomes ((((m.onYarrow (fun y => { y with
        openP := y.openP ++ [line] })).onYarrow Yarrow.abortRun).trailRec 0x0B09 1 0).raiseCause 6))
    ∧ exec (.yrOpenLine dt .encP line false) s = s.becomes (m.onYarrow (fun y => { y with openP := y.openP.filter (· != line) }))
    ∧ exec (.yrOpenLine dt .encX line false) s = s.becomes (m.onYarrow (fun y => { y with
        openX := y.openX.filter (· != line), xPresent := (y.openX.filter (· != line)).isEmpty })))
  ∧ (∀ (dt : Nat) (temps : List (Option Int)) (t : Int) (s : State) (m : Mach), s.found dt = m → m.yarrowAnswers = true →
    nth (temps.map tempReading) m.yarrow.params.rollerInput none = some t → (t - m.yarrow.refTemp).natAbs ≤ m.yarrow.params.calDt →
    exec (.yrTempRead dt temps) s = s.becomes (m.onYarrow (fun y => { y with temps := temps.map tempReading })))
  ∧ (∀ (dt : Nat) (temps : List (Option Int)) (s : State) (m : Mach), s.found dt = m → m.yarrowAnswers = true →
    nth (temps.map tempReading) m.yarrow.params.rollerInput none = none →
    exec (.yrTempRead dt temps) s = s.becomes ((m.onYarrow (fun y => { y with temps := temps.map tempReading })).calDue 2))

/-- The records of the drop-report link (R471 to R475): YR_JOB_START, YR_JOB_END, YR_ORIGIN, YR_IDLE, YR_TICK, YR_GAP and
YR_DROP_BLOCK, each once its number is checked; one that fails its check is a missing one, and those that arrive while E14 and
E15 restart are kept, 4,096 at most. -/
def Obligations.DropReportsAreTakenInOrder : Prop :=
  (∀ (dt seq : Nat) (s : State) (m n : Mach), s.found dt = m → m.yarrow.up = true → m.yarrow.ready = true →
    m.yarrow.restarting = false → m.yrSeq seq = n →
    (∀ jobId line channels increment, exec (.yrJobStart dt seq true jobId line channels increment) s = s.becomes
      (n.onYarrow (fun y => { y.endLength with
        job := some { jobId := jobId, line := line, channels := channels, increment := increment }
        closed := y.endLength.closed.map (closesAt line), tick := { y.endLength.tick with jobAcc := 0 } })))
    ∧ (n.yarrow.job.isSome = true → exec (.yrJobEnd dt seq true) s = s.becomes (n.onYarrow Yarrow.endLength)
        ∧ exec (.yrIdle dt seq true) s = s.becomes (n.onYarrow Yarrow.endLength))
    ∧ (n.yarrow.job = none → exec (.yrIdle dt seq true) s = s.becomes n)
    ∧ exec (.yrOrigin dt seq true) s = s.becomes (n.onYarrow (fun y => { y with lastBlock := [] }))
    ∧ (∀ time domain line, exec (.yrTick dt seq true time domain line noLine) s = s.becomes (n.onYarrow (fun y => { y with
        tick := { time := time, domain := domain, line := line, phi7 := noLine, at_ := n.now
                  jobAcc := (y.job.map (fun j => j.acc)).getD 0 } })))
    ∧ exec (.yrGap dt seq true false) s = s.becomes ((n.trailRec 0x0B08 seq seq).raiseCause 2)
    ∧ (∀ p b, p < 64 → b.isOpen = false → ffind n.yarrow.lastBlock p = none → n.yarrow.jobAt b.firstEvent = none →
        exec (.yrDropBlock dt seq true p b) s = s.becomes (n.onYarrow (fun y => { y with
          lastBlock := fset y.lastBlock p b.firstEvent, drops := addDrops y.drops (barOf p) b })))
    ∧ (∀ p b, p < 64 → b.isOpen = true → exec (.yrDropBlock dt seq true p b) s = s.becomes n)
    ∧ exec (.yrOrigin dt seq false) s = s.becomes m)
  ∧ (∀ (dt seq : Nat) (s : State) (m : Mach), s.found dt = m → m.yarrow.up = true → m.yarrow.restarting = true →
    m.yarrow.buffer.length < 4096 → exec (.yrOrigin dt seq true) s
      = s.becomes (m.onYarrow (fun y => { y with buffer := y.buffer ++ [.yrOrigin 0 seq true] })))
  ∧ (∀ (m : Mach) (seq : Nat), (m.yarrow.expect = some seq ∨ m.yarrow.expect = none) →
    m.yrSeq seq = m.onYarrow (fun y => { y with expect := some ((seq + 1) % 2 ^ 32) }))

/-- TOTALS_SAVE, YR_RESTART_DONE, YARROW_SELF_TEST_DONE and YARROW_SILENT (R466 to R468, R473, R483, R503): the totals are
saved every 1 s, kept records are taken after a restart, the stored totals are loaded, and a silent Yarrow is recorded.
REPORT_REQUEST, REPORT_READY and MARK_RENDER_DONE (R496, R500, R502): a report takes the next number, is signed with free
bytes (log entry 5) and takes the next result number; a mark becomes a content that is posted for its frame. (log entry 51:
how a mark finds its line and handle is the model's) -/
def Obligations.YarrowSavesAndReports : Prop :=
  ((∀ (dt : Nat) (s : State) (m : Mach), s.found dt = m → m.yarrowAnswers = true →
    (m.yarrow.saved.savedAt + 1000000000 ≤ m.now → exec (.totalsSave dt) s = s.becomes (m.onYarrow (fun y => { y with saved := {
        acc := y.acc, highest := y.highest, drops := y.drops, causes := y.causes, savedAt := m.now, clean := false } })))
    ∧ (m.now < m.yarrow.saved.savedAt + 1000000000 → exec (.totalsSave dt) s = s.becomes m))
  ∧ (∀ (dt : Nat) (s : State) (m : Mach), s.found dt = m → m.yarrow.restarting = true → m.yarrow.buffer = [] →
    exec (.yrRestartDone dt) s
      = s.becomes (m.onYarrow (fun y => { y with restarting := false, answerAt := m.now, buffer := [] })))
  ∧ (∀ (dt : Nat) (key hash : Bytes) (s : State) (m : Mach), s.found dt = m → m.yarrow.up = true → m.yarrow.ready = false →
    m.yarrow.saved.clean = true → exec (.yarrowSelfTestDone dt 0 key hash) s
      = s.becomes (((m.onYarrow (fun y => { y with
        ready := true, answerAt := m.now, acc := y.saved.acc, drops := y.saved.drops, causes := y.saved.causes
        saved := { y.saved with highest := y.highest } })).judgeMetro).yrReplay))
  ∧ (∀ (dt : Nat) (key hash : Bytes) (s : State) (m : Mach), s.found dt = m → m.yarrow.up = true → m.yarrow.ready = false →
    exec (.yarrowSelfTestDone dt 1 key hash) s
      = s.becomes (((m.onYarrow (fun y => { y with
        ready := true, answerAt := m.now, foreign := true, foreignKey := key, foreignHash := hash
        causes := setBit y.causes 4 true })).judgeMetro).yrReplay))
  ∧ (∀ (dt : Nat) (s : State) (m : Mach), s.found dt = m → m.yarrowAnswers = false → m.yarrow.answerAt + 100000000 ≤ m.now →
    m.sys.mode ≠ .reset →
    exec (.yarrowSilent dt) s = s.becomes (m.record 0x0B24 ((m.now - m.yarrow.answerAt) / 1000000) 0)))
  ∧ ((∀ (dt sid : Nat) (data : Bytes) (s : State) (m : Mach) (vals : List (Nat × Fld × Bytes)), s.found dt = m →
    m.admitsBytes (.host sid) 0xC040 0 15 data vals = true → m.yarrowAnswers = true → leAt data 32 1 ≤ 1 → leAt data 33 1 ≤ 64 →
    leAt data 34 6 = 0 → exec (.reportRequest dt sid data) s = s.becomes ((m.onYarrow (fun y => { y with
      reportNo := m.yarrow.reportNo + 1
      pendingReport := some (m.reportBody (slice data 0 32) (leAt data 32 1) (leAt data 33 1) (m.yarrow.reportNo + 1), m.now) })).accept
        (.host sid) 0xC040 0 0 data))
  ∧ (∀ (dt sid : Nat) (data : Bytes) (s : State) (m : Mach) (vals : List (Nat × Fld × Bytes)), s.found dt = m →
    m.admitsBytes (.host sid) 0xC040 0 15 data vals = true → m.yarrowAnswers = true → (1 < leAt data 32 1 ∨ 64 < leAt data 33 1) →
    exec (.reportRequest dt sid data) s = s.becomes (m.reply (.host sid) 0xC040 0 .outOfRange))
  ∧ (∀ (dt t : Nat) (body : Bytes) (s : State) (m n : Mach), s.found dt = m → m.yarrow.pendingReport = some (body, t) →
    m.yarrowAnswers = true → m.drawn.onYarrow (fun y => { y with
      report := some (body ++ m.randomBytes 64, m.hy.resultSeq), pendingReport := none }) = n →
    exec (.reportReady dt) s = s.becomes { n with hy := { n.hy with resultSeq := (n.hy.resultSeq + 1) % 2 ^ 32 } })
  ∧ (∀ (dt jobId frame t : Nat) (s : State) (m n k : Mach) (stored : Bool), s.found dt = m → m.yarrow.markFrame = some (jobId, frame, t) →
    m.yarrowAnswers = true → m.pair.role ≠ 2 → m.pair.role ≠ 4 → m.freeBuffers (0xFF000000 + frame % 256) = n →
    Mach.takeBuffers { n with frc := { n.frc with
      objects := fset n.frc.objects (0xFF000000 + frame % 256) (m.markContent jobId frame) } } (0xFF000000 + frame % 256) = (k, stored) →
    exec (.markRenderDone dt) s = s.becomes (if stored then ((k.onYarrow (fun y => { y with markFrame := none })).shareContent (0xFF000000 + frame % 256)).enterPost 7 jobId
      frame (0xFF000000 + frame % 256) else m.onYarrow (fun y => { y with markFrame := none }))))

/-- METRO_NONCE, NONCE_EXPIRY, METRO_WRITE, METRO_STOP_CLEAR, YR_FW_IMAGE and TRAIL_RENEW (R484, R487, R489, R494): each read
of the nonce gives a new one that lasts 60 s; a signed write that passes every check is put; METRO_STOP clears only without a
cause; a trail is renewed from the hash that its reader read. (log entry 60: the signing key) -/
def Obligations.SignedWritesNeedTheNonce : Prop :=
  (∀ (dt sid : Nat) (s : State) (m : Mach), s.found dt = m → m.answers (.host sid) = true →
    (m.yarrowAnswers = true → exec (.metroNonce dt sid) s = s.becomes
      ((m.drawn.onYarrow (fun y => { y with nonce := some (m.randomBytes 16, m.now) })).emit (.value (.host sid) 0xC019 0 (m.randomBytes 16) 0)))
    ∧ (m.yarrowAnswers = false → exec (.metroNonce dt sid) s = s.becomes (m.reply (.host sid) 0xC019 0 .notReady)))
  ∧ (∀ (dt t : Nat) (n : Bytes) (s : State) (m : Mach), s.found dt = m → m.yarrow.nonce = some (n, t) →
    (t + 60000000000 ≤ m.now → exec (.nonceExpiry dt) s = s.becomes (m.onYarrow (fun y => { y with nonce := none })))
    ∧ (m.now < t + 60000000000 → exec (.nonceExpiry dt) s = s.becomes m))
  ∧ (∀ (dt sid slot : Nat) (data key : Bytes) (s : State) (m : Mach) (vals : List (Nat × Fld × Bytes)), s.found dt = m →
    m.admitsBytes (.host sid) 0xC01A 0 4 data vals = true → m.yarrowAnswers = true → m.yarrow.full = false →
    (m.nonceOk (slice data 4 16) = false →
      exec (.metroWrite dt sid data key) s = s.becomes (m.reply (.host sid) 0xC01A 0 .authFailed))
    ∧ (m.nonceOk (slice data 4 16) = true → m.metroSigner (leAt data 0 2) key = some slot →
      ecdsaOk key (sha256 (data.take (data.length - 64))) (data.drop (data.length - 64)) = true → leAt data 3 1 = 0 →
      leAt data 20 4 + 88 = data.length → m.metroValueOk (leAt data 0 2) (leAt data 2 1) (slice data 24 (data.length - 88)) = true →
      m.foreignProof (leAt data 0 2) (slice data 24 (data.length - 88)) = true →
      exec (.metroWrite dt sid data key) s = s.becomes ((m.metroPut (leAt data 0 2) (leAt data 2 1) slot
        (slice data 24 (data.length - 88))).accept (.host sid) 0xC01A 0 0 data)))
  ∧ (∀ (dt sid : Nat) (s : State) (m : Mach), s.found dt = m → m.admits (.host sid) 0xC050 0 1 = true →
    (stopCauses m.yarrow.causes = 0 → exec (.metroStopClear dt sid 1) s = s.becomes ((m.withStops (fun x =>
      x.onYarrow (fun y => { y with metroStop := false }))).acceptNum (.host sid) 0xC050 0 0 1 1))
    ∧ (stopCauses m.yarrow.causes ≠ 0 → exec (.metroStopClear dt sid 1) s = s.becomes (m.reply (.host sid) 0xC050 0 .notReady)))
  ∧ (∀ (dt sid : Nat) (image sig key : Bytes) (s : State) (m : Mach) (vals : List (Nat × Fld × Bytes)), s.found dt = m →
    m.admitsBytes (.host sid) 0xC051 0 4 image vals = true → m.yarrowAnswers = true → m.yarrow.full = false →
    (sha256 key = m.yarrow.fwHash → ecdsaOk key (sha256 image) sig = true → exec (.yrFwImage dt sid image sig key) s = s.becomes
      (((m.trailRec 0x0B0B (leAt (sha256 image) 0 4) (leAt m.yarrow.fwDigest 0 4)).onYarrow (fun y =>
        { (y.restart m.now) with fwDigest := sha256 image })).accept (.host sid) 0xC051 0 0 image))
    ∧ (sha256 key ≠ m.yarrow.fwHash →
      exec (.yrFwImage dt sid image sig key) s = s.becomes (m.reply (.host sid) 0xC051 0 .authFailed)))
  ∧ (∀ (dt sid slot : Nat) (data key : Bytes) (s : State) (m n : Mach) (vals : List (Nat × Fld × Bytes)), s.found dt = m →
    m.admitsBytes (.host sid) 0xC04B 0 4 data vals = true → m.yarrowAnswers = true → m.yarrow.sealClosed = true →
    m.nonceOk (slice data 0 16) = true → m.keySlot key = some slot → ecdsaOk key (sha256 (data.take 48)) (data.drop 48) = true →
    (slice data 16 32 = m.yarrow.runningHash → m.onYarrow (fun y => { y with
        trailBase := y.runningHash, trail := [], trailLost := 0, renewals := y.renewals + 1, lockRestarts := 0
        causes := setBit (setBit (setBit (setBit y.causes 0 false) 1 false) 2 false) 6 false }) = n →
      exec (.trailRenew dt sid data key) s
        = s.becomes ((n.trailRec 0x0B0C n.yarrow.renewals slot).accept (.host sid) 0xC04B 0 0 data))
    ∧ (slice data 16 32 ≠ m.yarrow.runningHash →
      exec (.trailRenew dt sid data key) s = s.becomes (m.reply (.host sid) 0xC04B 0 .commitRejected)))

/-! ### The network and time -/

/-- NET_FRAME_RECEIVED, NET_LINK_UP, NET_LINK_DOWN and NET_CONFIG_WRITE (R504 to R507): a frame that passes counts once, one
with a bad FCS as such, one that the buffer has no room for is recorded; a port comes up at the speed of NET_CONFIG, whose
write is answered before the link restarts. -/
def Obligations.NetworkPortsPassFrames : Prop :=
  (∀ (dt p : Nat) (f : NetFrame) (s : State) (m : Mach), p < 2 → s.found dt = m → (m.netPort p).linkUp = true →
    bit (m.netCfg p) 0 = true →
    (f.fcsOk = false → exec (.netFrameReceived dt p f) s = s.becomes (m.netCount p 3))
    ∧ (f.fcsOk = true → m.takesDst p f = true → m.tagOk p f = true → 64 ≤ f.length → f.length ≤ 9216 → f.kind ≠ 7 →
      (f.buffered + f.length ≤ 262144 → f.kind = 6 → exec (.netFrameReceived dt p f) s
        = s.becomes ((((m.netCount p 1).netReply p f).netCount p 6).onNet p (fun n => { n with ptpRxAt := some m.now })))
      ∧ (f.buffered + f.length ≤ 262144 → f.kind = 1 → exec (.netFrameReceived dt p f) s
        = s.becomes ((m.netCount p 1).netReply p f))
      ∧ (262144 < f.buffered + f.length → exec (.netFrameReceived dt p f) s = s.becomes ((m.netCount p 4).record 0x0C03 p 1)))
    ∧ (f.fcsOk = true → (f.length < 64 ∨ 9216 < f.length) → exec (.netFrameReceived dt p f) s = s.becomes (m.netCount p 5)))
  ∧ (∀ (dt p sp : Nat) (s : State) (m : Mach), p < 2 → s.found dt = m → bit (m.netCfg p) 0 = true → (m.netPort p).linkUp = false →
    m.sys.mode ≠ .reset → bits (m.netCfg p) 1 1 = sp → exec (.netLinkUp dt p) s = s.becomes ((m.onNet p (fun n => { n with
      linkUp := true, blockLock := true, fecLock := bit (m.netCfg p) 2, remoteFault := false, speedNow := sp })).record 0x0C01 p sp))
  ∧ (∀ (dt p : Nat) (s : State) (m : Mach), p < 2 → s.found dt = m → (m.netPort p).linkUp = true →
    exec (.netLinkDown dt p 1) s = s.becomes (((m.onNet p (fun n => { n with linkUp := false, remoteFault := true })).netCount
      p 7).record 0x0C02 p 1))
  ∧ (∀ (dt p cause : Nat) (s : State) (m : Mach), p < 2 → s.found dt = m → (m.netPort p).linkUp = false →
    exec (.netLinkDown dt p cause) s = s.becomes m)
  ∧ (∀ (dt sid p v : Nat) (s : State) (m : Mach), p < 2 → s.found dt = m → m.admits (.host sid) 0xD001 (p + 1) v = true →
    ((bit v 2 = false ∨ bit v 1 = true) → exec (.netConfigWrite dt sid p v) s
      = s.becomes (((m.setNum 0xD001 (p + 1) 0 v).acceptNum (.host sid) 0xD001 (p + 1) 0 4 v).netDown p 2))
    ∧ (bit v 2 = true → bit v 1 = false →
      exec (.netConfigWrite dt sid p v) s = s.becomes (m.reply (.host sid) 0xD001 (p + 1) .outOfRange)))

/-- PTP_ANNOUNCE, PTP_SYNC, PTP_FOLLOW_UP and PTP_HOLDOVER (R513 to R517): an announcement is kept and the best master
followed; a Sync of that master, or the follow-up of one, gives an offset; without Syncs a locked domain holds over. -/
def Obligations.DomainsFollowTheirMaster : Prop :=
  (∀ (dt d p : Nat) (a : Announce) (s : State) (m : Mach), d < 2 → p < 2 → s.found dt = m →
    (m.tdOn d && m.carries d p && (m.netPort p).linkUp) = true →
    (a.steps < 255 → exec (.ptpAnnounce dt d p a) s = s.becomes ((m.onDomain d (fun t => { t with
      foreigns := t.foreigns.filter (fun x => !(x.1.sender = a.sender && x.2.1 = p)) ++ [(a, p, m.now)] })).follow d))
    ∧ (255 ≤ a.steps → exec (.ptpAnnounce dt d p a) s = s.becomes m))
  ∧ (∀ (dt d p sender seq origin stamp : Nat) (corr log : Int) (s : State) (m n : Mach), d < 2 → p < 2 → s.found dt = m →
    m.fromMaster d p sender = true → m.onDomain d (fun t => { t with syncInterval := intervalNs log }) = n →
    exec (.ptpSync dt d p sender seq false origin corr stamp log) s
        = s.becomes (n.syncDone d p ((origin : Int) + corr) (m.rxStamp p stamp))
      ∧ exec (.ptpSync dt d p sender seq true origin corr stamp log) s
        = s.becomes (n.onDomain d (fun t => { t with twoStep := some (seq, sender, m.rxStamp p stamp, corr) })))
  ∧ (∀ (dt d p sender seq origin : Nat) (rx c corr : Int) (s : State) (m : Mach), d < 2 → p < 2 → s.found dt = m →
    m.fromMaster d p sender = true → (m.domain d).twoStep = some (seq, sender, rx, c) →
    exec (.ptpFollowUp dt d p sender seq origin corr) s = s.becomes (m.syncDone d p ((origin : Int) + corr + c) rx))
  ∧ (∀ (dt d p sender seq origin stamp : Nat) (two : Bool) (corr log : Int) (s : State) (m : Mach), d < 2 → p < 2 →
    s.found dt = m → m.fromMaster d p sender = false →
    exec (.ptpSync dt d p sender seq two origin corr stamp log) s = s.becomes m
      ∧ exec (.ptpFollowUp dt d p sender seq origin corr) s = s.becomes m)
  ∧ (∀ (dt d : Nat) (s : State) (m : Mach), d < 2 → s.found dt = m → m.tdOn d = true → (m.domain d).master.isSome = true →
    (m.domain d).lockedSince ≠ 0 → (m.domain d).quality = 2 →
    (m.domain d).lastSync + m.nat 0xD025 3 0 * (m.domain d).syncInterval ≤ m.now →
    exec (.ptpHoldover dt d) s = s.becomes (m.setQuality d 3))

/-- PTP_DELAY_RESP, PTP_PDELAY_REQ, PTP_PDELAY_RESP, DELAY_REQ_TIMER and PDELAY_REQ_TIMER (R513): the requests, their answers
and the path delay that they give. (log entry 52: the average's rounding is the model's) -/
def Obligations.PathDelaysAreMeasured : Prop :=
  (∀ (dt d p sender seq time t0 : Nat) (t1 t2 t3 corr log : Int) (s : State) (m : Mach), d < 2 → p < 2 → s.found dt = m →
    m.fromMaster d p sender = true → m.p2p d = false → seq = (m.domain d).reqSeq → (m.domain d).reqSent = some (t0, t3) →
    (m.domain d).syncPair = some (t1, t2) → exec (.ptpDelayResp dt d p sender seq time corr log) s
      = s.becomes (m.onDomain d (fun t => { t with
        pathDelay := min (2 ^ 32 - 1)
          (((m.domain d).at_ t2.toNat - t1 + ((time : Int) - corr - (m.domain d).at_ t3.toNat)) / 2).toNat
        reqInterval := intervalNs log })))
  ∧ (∀ (dt d p sender seq stamp : Nat) (s : State) (m : Mach), d < 2 → p < 2 → s.found dt = m →
    (m.tdOn d && m.p2p d && m.carries d p && (m.netPort p).linkUp) = true → exec (.ptpPdelayReq dt d p sender seq stamp) s
      = s.becomes (((((m.netCount p 2).netCount p 2).emit
        (.net p 3 d [sender, seq, ((m.domain d).at_ (m.rxStamp p stamp).toNat).toNat]))).emit
          (.net p 4 d [sender, seq, ((m.domain d).at_ (m.txStamp p).toNat).toNat])))
  ∧ (∀ (dt d p sender time stamp t0 : Nat) (corr t1 t2 t4 c : Int) (s : State) (m : Mach), d < 2 → p < 2 → s.found dt = m →
    (m.tdOn d && m.p2p d && m.carries d p) = true →
    exec (.ptpPdelayResp dt d p sender (fget (m.domain d).pdSeq p 0) false time corr stamp) s = s.becomes (m.onDomain d (fun t =>
        { t with pdGot := fset t.pdGot p ((time : Int), m.rxStamp p stamp, corr) }))
    ∧ (ffind (m.domain d).pdSent p = some (t0, t1) → ffind (m.domain d).pdGot p = some (t2, t4, c) →
      exec (.ptpPdelayResp dt d p sender (fget (m.domain d).pdSeq p 0) true time corr stamp) s = s.becomes (m.onDomain d (fun t =>
        { t with
          pdDelay := fset t.pdDelay p ((((t4 - t1) - ((time : Int) - t2)) - corr - c) / 2).toNat
          pathDelay := min (2 ^ 32 - 1) ((((t4 - t1) - ((time : Int) - t2)) - corr - c) / 2).toNat, pdGot := fdel t.pdGot p }))))
  ∧ (∀ (dt d p : Nat) (s : State) (m : Mach), d < 2 → s.found dt = m → m.tdOn d = true → m.p2p d = false →
    (m.domain d).master.isSome = true → (m.domain d).portNow = p → (m.netPort p).linkUp = true → (m.domain d).reqSent = none →
    exec (.delayReqTimer dt d) s = s.becomes (((m.onDomain d (fun t => { t with
      reqSeq := (t.reqSeq + 1) % 65536, reqSent := some (m.now, m.txStamp p) })).netCount p 2).emit
        (.net p 1 d [((m.domain d).reqSeq + 1) % 65536])))
  ∧ (∀ (dt d p seq : Nat) (s : State) (m : Mach), d < 2 → p < 2 → s.found dt = m →
    (m.tdOn d && m.p2p d && m.carries d p && (m.netPort p).linkUp) = true → ffind (m.domain d).pdSent p = none →
    (fget (m.domain d).pdSeq p 0 + 1) % 65536 = seq →
    exec (.pdelayReqTimer dt d p) s = s.becomes (((m.onDomain d (fun t => { t with
      pdSeq := fset t.pdSeq p seq, pdSent := fset t.pdSent p (m.now, m.txStamp p), pdGot := fdel t.pdGot p })).netCount p 2).emit
        (.net p 2 d [seq])))

/-- TD_CONFIG_WRITE, TD_SET, TIME_SELECT_WRITE and SLEW_END (R514, R519, R522, R523): a domain that is enabled waits for a
master, one that is off is set by hand, the selected domain is switched only to one that has a time, and the switch's
difference ends at 0. R523: K moves towards 0 by 100 ns for each ms since the switch, and never past it. -/
def Obligations.TimeIsSetSelectedAndSlewed : Prop :=
  ((∀ (dt sid d v : Nat) (s : State) (m n : Mach), d < 2 → s.found dt = m → m.admits (.host sid) 0xD020 (d + 1) v = true →
    m.setNum 0xD020 (d + 1) 0 v = n → bit v 0 = true → bits (n.tdCfg 0) 16 8 ≠ bits (n.tdCfg 1) 16 8 →
    exec (.tdConfigWrite dt sid d v) s = s.becomes (((n.onDomain d (fun t => { t with
      master := none, foreigns := [], gm := 0, steps := 0, portNow := 0xFF, samples := [], freq := 0, good := 0, twoStep := none
      syncPair := none, reqSent := none, pdGot := [] })).setQuality d 1).acceptNum (.host sid) 0xD020 (d + 1) 0 4 v))
  ∧ (∀ (dt sid d v : Nat) (s : State) (m : Mach), d < 2 → s.found dt = m → m.admits (.host sid) 0xD023 (d + 1) v = true →
    (m.tdOn d = false → m.time.sel ≠ d → exec (.tdSet dt sid d v) s = s.becomes ((Mach.record
      ((m.adjust d ((v : Int) - (m.domain d).at_ m.linkTime)).onDomain d (fun t => { t with everLocked := true }))
        0x0C09 d (p32sat ((v : Int) - (m.domain d).at_ m.linkTime))).acceptNum (.host sid) 0xD023 (d + 1) 0 8 v))
    ∧ (m.tdOn d = true → exec (.tdSet dt sid d v) s = s.becomes (m.reply (.host sid) 0xD023 (d + 1) .notReady)))
  ∧ (∀ (dt sid v : Nat) (s : State) (m : Mach), s.found dt = m → m.admits (.host sid) 0xD030 0 v = true →
    (bits v 0 1 = m.time.sel → exec (.timeSelectWrite dt sid v) s
      = s.becomes ((m.setNum 0xD030 0 0 v).acceptNum (.host sid) 0xD030 0 0 1 v))
    ∧ (bits v 0 1 ≠ m.time.sel → 2 ≤ (m.domain (bits v 0 1)).quality → exec (.timeSelectWrite dt sid v) s
      = s.becomes (((m.setNum 0xD030 0 0 v).switchTo (bits v 0 1)).acceptNum (.host sid) 0xD030 0 0 1 v))
    ∧ (bits v 0 1 ≠ m.time.sel → (m.domain (bits v 0 1)).quality ≤ 1 →
      exec (.timeSelectWrite dt sid v) s = s.becomes (m.reply (.host sid) 0xD030 0 .notReady)))
  ∧ (∀ (dt : Nat) (s : State) (m : Mach), s.found dt = m → m.time.slewFrom.isSome = true →
    (m.time.kAt m.linkTime = 0 → exec (.slewEnd dt) s = s.becomes { m with time := { m.time with k := 0, slewFrom := none } })
    ∧ (m.time.kAt m.linkTime ≠ 0 → exec (.slewEnd dt) s = s.becomes m)))
  ∧ (∀ (t : Time) (c0 c : Nat), t.slewFrom = some c0 →
    (t.kAt c).natAbs = t.k.natAbs - (c - c0) / 10000 ∧ (0 ≤ t.k → 0 ≤ t.kAt c) ∧ (t.k ≤ 0 → t.kAt c ≤ 0)
      ∧ (c0 ≤ c → t.kAt (c + 10000) ≠ 0 → (t.kAt (c + 10000)).natAbs + 1 = (t.kAt c).natAbs))

/-! ### Hyaskion: sessions, requests, transfers and notices -/

/-- What a message is before it acts (R530, R535, R536): a blocked source is not answered; a wrong MAC is recorded and
counted; a number that is not the next is STALE_SEQUENCE; the last request again is answered with what was kept. (log entry
61: a request before AUTH is ACCESS_DENIED, the model's choice) -/
def Obligations.RequestsAreCheckedFirst : Prop :=
  ∀ (m : Mach) (x : HyMsg) (op : Nat) (s : Session) (f : Session → Mach → Mach),
    (m.hears x op s → (s.authed = true ∨ op = 2) → m.request x op f = f s (m.heard x))
    ∧ (m.hears x op s → s.authed = false → op ≠ 2 →
        m.request x op f = (m.heard x).respond s.kRsp op x.src x.sid x.seq .accessDenied [] [])
    ∧ (m.isBlocked x.src = true → m.request x op f = m)
    ∧ (m.takesFrom x.net = false → m.request x op f = m)
    ∧ (m.takesFrom x.net = true → m.isBlocked x.src = false → hyFormed x = true → ffind m.hy.sessions x.sid = some s →
        (x.mac ≠ hyExpected x s.kReq op → m.request x op f = (m.record 0x0D04 x.sid 1).hyCount 2)
        ∧ (x.mac = hyExpected x s.kReq op → x.seq ≠ s.lastSeq → x.seq ≠ s.lastSeq + 1 → m.request x op f
            = (m.hyCount 3).sendOn x.net (hyResponse s.kRsp op x.src x.sid x.seq .staleSequence [] []))
        ∧ (x.mac = hyExpected x s.kReq op → x.seq = s.lastSeq → x.mac ≠ s.lastMac → m.request x op f
            = (m.hyCount 3).sendOn x.net (hyResponse s.kRsp op x.src x.sid x.seq .staleSequence [] []))
        ∧ (∀ o, x.mac = hyExpected x s.kReq op → x.seq = s.lastSeq → x.mac = s.lastMac → s.kept = some o → m.request x op f
            = ((m.hyCount 4).onSession x.sid (fun s => { s with net := x.net, lastReq := m.now })).sendOn x.net (o.sentTo x.src)))

/-- HELLO, AUTH, CLOSE, KEEPALIVE, AUTH_TIMEOUT, IDLE_TIMEOUT and AUTH_BLOCK_EXPIRY (R531 to R535): a session opens with fresh
keys (free values, log entry 5), is authenticated by a key of its level, and ends by its request or its time. A closed session
exists no more, and no request of it waits; other sessions stay (R531, R535). (log entry 61: the cases that the spec leaves
open) -/
def Obligations.SessionsOpenAndEnd : Prop :=
  ((∀ (dt : Nat) (x : HyMsg) (s : State) (m : Mach) (nm secret : Bytes), s.found dt = m → m.takesFrom x.net = true → m.isBlocked x.src = false →
    hyFormed x = true → x.sid = 0 → x.seq = 0 → x.mac = List.replicate 32 0 → x.body.length = 84 → leAt x.body 1 3 = 0 →
    1 ≤ leAt x.body 0 1 → leAt x.body 0 1 ≤ 4 → (ecPoint (slice x.body 20 64)).isSome = true → m.hy.sessions.length < 16 →
    m.randomBytes 16 = nm → m.drawn.randomBytes 32 = secret →
    exec (.hello dt x) s = s.becomes (Mach.sendOn { m.drawn.drawn.drawn with hy := { m.hy with
        sessions := fset m.hy.sessions m.hy.nextSid (m.newSession x nm secret), nextSid := m.hy.nextSid + 1 } } x.net
      (.response x.src m.hy.nextSid 0 .ok [] (nm ++ ecBytes (ecMul 256 (scalarOf secret) p256G) ++ m.drawn.drawn.randomBytes 64)
        (List.replicate 32 0))))
  ∧ (∀ (dt : Nat) (x : HyMsg) (c : Session) (s : State) (m : Mach), s.found dt = m → m.hears x 2 c → c.authed = false →
    (m.heard x).keyMatches c.level (slice x.body 0 64) = true → x.body.length = 128 →
    (ecdsaOk (slice x.body 0 64) (sha256 (c.transcript ++ ascii "auth")) (slice x.body 64 64) = true →
      exec (.auth dt x) s = s.becomes (((m.heard x).takeIn x.sid c.level).respond c.kRsp 2 x.src x.sid x.seq .ok [] []))
    ∧ (ecdsaOk (slice x.body 0 64) (sha256 (c.transcript ++ ascii "auth")) (slice x.body 64 64) = false → exec (.auth dt x) s
      = s.becomes (((m.heard x).respond c.kRsp 2 x.src x.sid x.seq .authFailed [] []).refuseAuth x.src c.level)))
  ∧ (∀ (dt : Nat) (x : HyMsg) (c : Session) (s : State) (m : Mach), s.found dt = m → c.authed = true →
    (m.hears x 3 c → exec (.close dt x) s
      = s.becomes (((m.heard x).respond c.kRsp 3 x.src x.sid x.seq .ok [] []).closeSession x.sid 0))
    ∧ (m.hears x 4 c → exec (.keepalive dt x) s = s.becomes ((m.heard x).respond c.kRsp 4 x.src x.sid x.seq .ok [] [])))
  ∧ (∀ (dt sid : Nat) (c : Session) (s : State) (m : Mach), s.found dt = m → ffind m.hy.sessions sid = some c →
    (c.authed = false → c.openedAt + 1000000000 ≤ m.now → exec (.authTimeout dt sid) s = s.becomes (m.closeSession sid 2))
    ∧ (c.authed = true → exec (.authTimeout dt sid) s = s.becomes m)
    ∧ (c.lastReq + m.nat 0x1201 1 0 * 1000000000 ≤ m.now → exec (.idleTimeout dt sid) s = s.becomes (m.closeSession sid 1))
    ∧ (m.now < c.lastReq + m.nat 0x1201 1 0 * 1000000000 → exec (.idleTimeout dt sid) s = s.becomes m))
  ∧ (∀ (dt src : Nat) (s : State) (m : Mach), s.found dt = m → (ffind m.hy.blocked src).isSome = true → m.isBlocked src = false →
    exec (.authBlockExpiry dt src) s = s.becomes { m with hy := { m.hy with blocked := fdel m.hy.blocked src } }))
  ∧ (∀ (m : Mach) (sid cause : Nat),
    ffind (m.closeSession sid cause).hy.sessions sid = none
      ∧ (∀ c, c ≠ sid → (ffind (m.closeSession sid cause).hy.sessions c).isSome = (ffind m.hy.sessions c).isSome)
      ∧ (∀ r ∈ (m.closeSession sid cause).hy.queue, r.sid ≠ sid)
      ∧ (∀ r, (m.closeSession sid cause).hy.run = some r → r.sid ≠ sid))

/-- ACCESS (R537, R538, R568): the entries of a request run in order and are answered together; while another request waits,
the request goes behind it. (log entries 61 and 62: how a request waits is the model's) -/
def Obligations.EntriesRunInOrder : Prop :=
  (∀ (dt : Nat) (x : HyMsg) (c : Session) (e : HyEntry) (es : List HyEntry) (s : State) (m n : Mach) (mem : List Host.Cell), s.found dt = m →
    m.hy.run = none → m.hy.queue = [] → m.hears x 0x10 c → c.authed = true → parseEntries 64 x.body = some (e :: es) →
    (m.heard x).hy.run = none → (m.heard x).hy.queue = [] →
    runEntries (e :: es) { sid := x.sid, src := x.src, seq := x.seq, stop := x.stopOnError, small := x.small, rest := e :: es
                           kRsp := c.kRsp } (m.heard x) s.mem = (n, mem) →
    exec (.access dt x) s = .next { s with m := n, mem := mem })
  ∧ (∀ (r : HyRun) (m : Mach) (mem : List Host.Cell), runEntries [] r m mem = (m.runDone r, mem))
  ∧ (∀ (e : HyEntry) (es : List HyEntry) (r : HyRun) (d : EntryReply) (m m1 : Mach) (mem mem1 : List Host.Cell),
    sumOf (r.done.map (fun d => 16 + 4 * divUp d.data.length 4)) + m.entrySize (.host r.sid) e ≤ r.limit →
    m.runEntry mem r.sid e = (m1, mem1, some d) → (r.stop = false ∨ d.status = .ok) →
    runEntries (e :: es) r m mem = runEntries es { r with done := r.done ++ [d] } m1 mem1)

/-- BULK_OPEN, BULK_STATUS, BULK_CLOSE, BULK_CHUNK and BULK_TIMEOUT (R543 to R546): a transfer and its object get the next
numbers; a chunk's new bytes are kept once; a transfer fails when it is closed or silent. SUBSCRIBE, UNSUBSCRIBE and NOTICE
(R531, R549, R550): a session asks for records or previews and ends either; up to 32 records that wait leave in one notice,
which takes the next number. (log entry 61: the cases that the spec leaves open) -/
def Obligations.TransfersAndSubscriptions : Prop :=
  ((∀ (dt : Nat) (x : HyMsg) (c : Session) (s : State) (m n : Mach), s.found dt = m → m.hears x 0x20 c → c.authed = true →
    m.heard x = n → levelHas c.level 10 = true → n.pair.role = 0 → n.stages = true → openOk x.body = true →
    (n.hy.transfers.filter (fun t => t.2.state = 0)).length < 8 → n.roomFor (openedContent x.body) = true →
    (openedContent x.body).streamBytes ≠ 0 →
    exec (.bulkOpen dt x) s = s.becomes (((Mach.startTransfer { n with hy := { n.hy with
        nextTransfer := (n.hy.nextTransfer + 1) % 2 ^ 32, nextHandle := 1 + n.freeHandle % 0xFFFFFFFE } } n.hy.nextTransfer n.freeHandle
          x.net x.body)).respond c.kRsp 0x20 x.src x.sid x.seq .ok []
            (leBytes 4 n.hy.nextTransfer ++ leBytes 4 n.freeHandle ++ leBytes 4 8192)))
  ∧ (∀ (dt tid : Nat) (x : HyMsg) (c : Session) (t : Transfer) (s : State) (m n : Mach), s.found dt = m → c.authed = true →
    m.heard x = n → leAt x.body 0 4 = tid → ffind n.hy.transfers tid = some t →
    (m.hears x 0x21 c → t.state ≠ 0 → exec (.bulkStatus dt x) s
      = s.becomes (n.respond c.kRsp 0x21 x.src x.sid x.seq .ok [] t.status))
    ∧ (m.hears x 0x22 c → exec (.bulkClose dt x) s
      = s.becomes ((n.failTransfer tid 4).respond c.kRsp 0x22 x.src x.sid x.seq .ok [] [])))
  ∧ (∀ (dt n off : Nat) (d : Bytes) (t : Transfer) (s : State) (m : Mach), s.found dt = m → m.hyUp = true → chunkOk d = true →
    leAt d 4 2 = n → leAt d 8 8 = off → ffind m.hy.transfers (leAt d 0 4) = some t → t.state = 0 → off + n ≤ t.total →
    (n % 64 = 0 ∨ off + n = t.total) → bit m.mem.quarantine (12 + t.net) = false → missing (addRange t.received (off, off + n)) 0 t.total ≠ [] →
    exec (.bulkChunk dt d) s = s.becomes { m with hy := { m.hy with transfers := fset m.hy.transfers (leAt d 0 4) { t with
      received := addRange t.received (off, off + n), lastChunk := m.now
      data := ((missing t.received off (off + n)).map (fun r => (r.1, slice d (16 + (r.1 - off)) (r.2 - r.1)))).foldl addPiece t.data } } })
  ∧ (∀ (dt : Nat) (d : Bytes) (s : State), chunkOk d = false → exec (.bulkChunk dt d) s = s.becomes (s.found dt))
  ∧ (∀ (dt tid : Nat) (t : Transfer) (s : State) (m : Mach), s.found dt = m → ffind m.hy.transfers tid = some t → t.state = 0 →
    (t.lastChunk + m.nat 0x1201 2 0 * 1000000 ≤ m.now → exec (.bulkTimeout dt tid) s = s.becomes (m.failTransfer tid 2))
    ∧ (m.now < t.lastChunk + m.nat 0x1201 2 0 * 1000000 → exec (.bulkTimeout dt tid) s = s.becomes m)))
  ∧ ((∀ (dt : Nat) (x : HyMsg) (c : Session) (s : State) (m n : Mach), s.found dt = m → m.hears x 0x30 c → c.authed = true →
    m.heard x = n → 4 ≤ x.body.length →
    (leAt x.body 0 1 = 0 → exec (.subscribe dt x) s = s.becomes ((n.onSession x.sid (fun s => { s with
        eventMask := some (leAt x.body 2 2) })).respond c.kRsp 0x30 x.src x.sid x.seq .ok [] []))
    ∧ (leAt x.body 0 1 = 1 → exec (.subscribe dt x) s = s.becomes ((n.onSession x.sid (fun s => { s with
        preview := some (leAt x.body 1 1, leAt x.body 2 2) })).respond c.kRsp 0x30 x.src x.sid x.seq .ok [] []))
    ∧ (1 < leAt x.body 0 1 → exec (.subscribe dt x) s
        = s.becomes (n.respond c.kRsp 0x30 x.src x.sid x.seq .outOfRange [] [])))
  ∧ (∀ (dt : Nat) (x : HyMsg) (c : Session) (s : State) (m n : Mach), s.found dt = m → m.hears x 0x31 c → c.authed = true →
    m.heard x = n → x.body ≠ [] →
    (leAt x.body 0 1 = 0 → exec (.unsubscribe dt x) s = s.becomes ((n.onSession x.sid (fun s => { s with
        eventMask := none, waiting := [] })).respond c.kRsp 0x31 x.src x.sid x.seq .ok [] []))
    ∧ (leAt x.body 0 1 = 1 → exec (.unsubscribe dt x) s = s.becomes ((n.onSession x.sid (fun s => { s with
        preview := none })).respond c.kRsp 0x31 x.src x.sid x.seq .ok [] [])))
  ∧ (∀ (dt sid : Nat) (c : Session) (s : State) (m : Mach), s.found dt = m → ffind m.hy.sessions sid = some c → m.hyUp = true →
    c.waiting ≠ [] → exec (.notice dt sid) s = s.becomes ((m.onSession sid (fun s => { s with
      noticeSeq := s.noticeSeq + 1, waiting := s.waiting.drop 32 })).sendOn c.net
        (hyNotice c.kRsp sid (c.noticeSeq + 1) (c.waiting.take 32)))))

/-! ### The dictionary, the recorder, the store and calibration -/

/-- DICT_WRITE, DICT_QUERY, CONTENT_RELEASE and JOB_MEM_READ (R548, R557, R571, R573): an object that is only stored takes its
values; a query is kept; a content that nothing holds is released; a segment of job memory is read where the level and the
range allow. RC_CONSUME (R542): a consumed object answers its value and is consumed, in that order; what cannot be read is
answered with its status. (log entry 76: JOB_MEM_READ of length 0 is not part of this statement) -/
def Obligations.TheDictionaryReadsAndWrites : Prop :=
  ((∀ (dt sid idx sub : Nat) (data : Bytes) (s : State) (m n : Mach) (o : Obj) (vals : List (Nat × Fld × Bytes)), s.found dt = m →
    findObj idx = some o → m.admitsBytes (.host sid) idx sub (writeLevels idx sub) data vals = true →
    m.accessGate (.host sid) idx sub 15 = .ok → m.writeOwn (.host sid) idx sub data = none →
    [0x7010, 0xC011, 0xC049].contains idx = false → m.storeVals idx (m.instOf (.host sid) o.sel) vals = n →
    vals.all (fun v => n.stored idx v.1 (m.instOf (.host sid) o.sel)) = true →
    exec (.dictWrite dt sid idx sub data) s = s.becomesUser dt
      ((n.afterStored m idx).accept (.host sid) idx sub (m.instOf (.host sid) o.sel) data))
  ∧ (∀ (dt sid v : Nat) (s : State) (m : Mach), s.found dt = m → m.admits (.host sid) 0x1100 0 v = true →
    (bit v 31 = false → exec (.dictQuery dt sid v) s
      = s.becomes ((m.setLocals (.host sid) { m.locals (.host sid) with query := v }).reply (.host sid) 0x1100 0 .ok))
    ∧ (∀ q, bit v 31 = true → nextObject (bits v 0 24) = some q → exec (.dictQuery dt sid v) s
      = s.becomes ((m.setLocals (.host sid) { m.locals (.host sid) with query := q }).reply (.host sid) 0x1100 0 .ok)))
  ∧ (∀ (dt sid h : Nat) (s : State) (m n : Mach), s.found dt = m → m.admits (.host sid) 0x1224 0 h = true →
    (m.content h).isSome = true →
    (m.contentHeld h = false → m.freeBuffers h = n → exec (.contentRelease dt sid h) s = s.becomes (Mach.acceptNum
      { n with frc := { n.frc with objects := fdel n.frc.objects h, queue := n.frc.queue.filter (· != h) } } (.host sid) 0x1224 0 0 4 h))
    ∧ (m.contentHeld h = true → exec (.contentRelease dt sid h) s = s.becomes (m.reply (.host sid) 0x1224 0 .busy)))
  ∧ (∀ (dt sid offset length a : Nat) (s : State) (m : Mach), s.found dt = m → m.answers (.host sid) = true →
    m.readGate (.host sid) 0x1105 0 false = .ok → m.sys.mode ≠ .boot → (m.locals (.host sid)).memBase + offset = a → 1 ≤ length →
    (length ≤ 8192 → a + length ≤ 2 ^ 35 → exec (.jobMemRead dt sid offset length) s
      = s.becomes (m.emit (.value (.host sid) 0x1105 0 (m.jobBytes s.mem a length) 0)))
    ∧ (8192 < length → exec (.jobMemRead dt sid offset length) s = s.becomes (m.reply (.host sid) 0x1105 0 .outOfRange))))
  ∧ ((∀ (dt sid idx sub n : Nat) (b : Bytes) (s : State) (m : Mach), s.found dt = m → m.answers (.host sid) = true →
    m.look (.host sid) idx sub true = .ok (b, n) →
    exec (.rcConsume dt sid idx sub) s = s.becomes ((m.looked (.host sid) idx true).emit (.value (.host sid) idx sub b n)))
  ∧ (∀ (dt sid idx sub : Nat) (st : Status) (s : State) (m : Mach), s.found dt = m → m.answers (.host sid) = true →
    m.look (.host sid) idx sub true = .error st →
    exec (.rcConsume dt sid idx sub) s = s.becomes (m.reply (.host sid) idx sub st)))

/-- RECORD_WINDOW_CLOSE, RECORDER_CLEAR, STORE_SAVE and STORE_WRITE_DONE (R587, R593, R608, R609): a record closes when its
window has passed; clearing keeps the first records; a save is answered after its write, and a failed write is tried once
more. CAL_LINK_MEASURE, CAL_CAM_START, CAM_TEMP_READ, CAL_CAM_STARTED, CAL_ARM_SETTLE and CAL_FRAME_TRIGGER (R598, R599,
R604): what makes a calibration due, and how it goes on. -/
def Obligations.RecordsItemsAndCalibrations : Prop :=
  ((∀ (dt k : Nat) (o : OpenRec) (s : State) (m : Mach), s.found dt = m → m.recorder.openRecs[k]? = some o →
    (o.lastAt + m.nat 0xB001 0 0 * 1000000 < m.now → exec (.recordWindowClose dt k) s
      = s.becomes { m with recorder := m.recorder.closeAt k })
    ∧ (m.now ≤ o.lastAt + m.nat 0xB001 0 0 * 1000000 → exec (.recordWindowClose dt k) s = s.becomes m))
  ∧ (∀ (dt sid : Nat) (s : State) (m : Mach), s.found dt = m → m.admits (.host sid) 0xB020 0 1 = true →
    (m.recorder.layout = 1 → exec (.recorderClear dt sid 1) s = s.becomes ((Mach.record { m with recorder := { m.recorder with
        fore := [], areaFull := false } } 0x0F0A m.recorder.fore.length 1).acceptNum (.host sid) 0xB020 0 0 1 1))
    ∧ (m.recorder.layout ≠ 1 → exec (.recorderClear dt sid 1) s = s.becomes ((Mach.record { m with recorder := { m.recorder with
        last := [], lastBase := 0, areaFull := false
        openRecs := m.recorder.openRecs.filter (fun o => decide (o.r.num < 1024)) } } 0x0F0A m.recorder.lastView.1.length 0).acceptNum
          (.host sid) 0xB020 0 0 1 1)))
  ∧ (∀ (dt sid : Nat) (s : State) (m n : Mach), s.found dt = m → m.admits (.host sid) 0xE001 0 1 = true →
    (m.store.saver = none → m.queueItem m.configItem = n → exec (.storeSave dt sid 1) s
      = s.becomes { n with store := { n.store with saver := some (.host sid) } })
    ∧ (m.store.saver.isSome = true → exec (.storeSave dt sid 1) s = s.becomes (m.reply (.host sid) 0xE001 0 .busy)))
  ∧ (∀ (dt : Nat) (x : StoreItem) (retry : Bool) (rest : List (StoreItem × Bool)) (s : State) (m n : Mach), s.found dt = m →
    m.store.writes = (x, retry) :: rest →
    { m.drawn with store := { m.store with erasesMax := max m.store.erasesMax (m.freeNat % 2 ^ 32) } } = n →
    exec (.storeWriteDone dt true) s = s.goesOn (Mach.saveEnds { n with store := { n.store with
        writes := rest, items := keepCopies n.store.items x } } x true)
    ∧ (retry = false → exec (.storeWriteDone dt false) s
      = s.goesOn { n with store := { n.store with writes := (x, true) :: rest } })))
  ∧ ((∀ (dt sid v : Nat) (s : State) (m : Mach), s.found dt = m → m.admits (.host sid) 0xE020 0 v = true →
    exec (.calLinkMeasure dt sid v) s
      = s.becomes (((forEach (setBits v 64) m (fun p acc => acc.portDue p)).nextMeasure).acceptNum (.host sid) 0xE020 0 0 8 v))
  ∧ (∀ (dt sid : Nat) (s : State) (m : Mach), s.found dt = m → m.admits (.host sid) 0xE012 0 1 = true →
    exec (.calCamStart dt sid 1) s = s.becomes
      ((forEach m.calCams m (fun c acc => acc.onCam c (fun x => x.fallDue 1))).acceptNum (.host sid) 0xE012 0 0 1 1))
  ∧ (∀ (dt c reg : Nat) (s : State) (m : Mach), c < 4 → s.found dt = m → bit (m.calCfg c) 0 = true →
    bits (m.calCfg c) 16 16 ≠ 0xFFFF → bit (m.calCfg c) 1 = false →
    exec (.camTempRead dt c (some reg)) s = s.becomes (m.onCam c (fun x => { x with temp := some (m.camTemp c reg) })))
  ∧ (∀ (dt c : Nat) (s : State), c < 4 → exec (.camTempRead dt c none) s = s.becomes (s.found dt))
  ∧ (∀ (dt cause : Nat) (takes : List Nat) (s : State) (m n : Mach), s.found dt = m → m.calMayStart = true →
    m.calCams.filter (fun c => (m.cam c).phase = 2) = takes → ((m.calCams.filterMap (fun c => (m.cam c).due)).head?).getD 0 = cause →
    forEach takes m (fun c acc => acc.onCam c (fun x => { x with calState := 3, calCause := 0, due := none })) = n →
    exec (.calCamStarted dt) s = s.becomes (Mach.record { n with
      cal := { n.cal with phase := 1, cams := maskOf takes, since := m.now, startedAt := m.now, black := [], lit := []
                          cause := [], result := [] }
      loop := { n.loop with pausedAt := some m.now } } 0x0F01 (maskOf takes) cause))
  ∧ (∀ (dt : Nat) (s : State) (m : Mach), s.found dt = m → m.cal.since + m.armSettle ≤ m.now →
    (m.cal.phase = 1 → exec (.calArmSettle dt) s = s.becomes ((forEach (setBits m.cal.cams 4)
      { m with cal := { m.cal with phase := 2 } } (fun c acc => acc.calFrame c)).calDone))
    ∧ (m.cal.phase = 4 → exec (.calArmSettle dt) s = s.becomes m.calEnd))
  ∧ (∀ (dt c : Nat) (s : State) (m : Mach), c < 4 → s.found dt = m → m.cal.phase = 2 → m.calTakes c = true →
    (ffind m.cal.black c).isSome = true → ffind m.cal.cause c = none → (m.cam c).lastTrig = none → (m.cam c).cur = none →
    (m.cam c).shots = [] → (fget m.cal.lit c []).length < 3 →
    exec (.calFrameTrigger dt c) s = s.becomes (m.issue c noLine 0xFF m.enc.raw true true)))

/-! ### Modes, starts, firmware and the supply -/

/-- The MODE_REQUESTs (R613 to R624, R629): each is taken from the modes that allow it, told to the standby, and answered. A
mode is entered (R641, R642): MODE holds it and the one before it, and a request from a mode that does not allow the target is
refused with OUT_OF_RANGE while nothing else happens (R613). STATIONARY_START and STATIONARY_LINE (R620, R621): stationary
firing runs as STATIONARY_FIRE says, line after line. (log entries 77 and 78: the cases that the spec leaves open) -/
def Obligations.ModeRequestsAreTaken : Prop :=
  (∀ (dt sid : Nat) (s : State) (m : Mach), s.found dt = m →
    (m.takes sid .prime = true → exec (.modeRequestPrime dt sid) s = s.becomes ((((((m.sendVerdict (.mode .prime m.webLine)).wakePorts).mayFire).setMode
        .prime).startStationary).reply (.host sid) 0x1011 0 .ok))
    ∧ (m.takes sid .service = true → exec (.modeRequestService dt sid) s
        = s.becomes (((((m.sendVerdict (.mode .service m.webLine)).wakePorts).mayFire).setMode .service).reply (.host sid) 0x1011 0 .ok))
    ∧ (m.takes sid .calibrate = true → exec (.modeRequestCalibrate dt sid) s
        = s.becomes ((((m.sendVerdict (.mode .calibrate m.webLine)).wakePorts).setMode .calibrate).reply (.host sid) 0x1011 0 .ok))
    ∧ (m.takes sid .verify = true → exec (.modeRequestVerify dt sid) s
        = s.becomes (((((m.sendVerdict (.mode .verify m.webLine)).wakePorts).withStops (fun x => { x with gate := { x.gate with
          modeStop := true } })).setMode .verify).reply (.host sid) 0x1011 0 .ok))
    ∧ (m.takes sid .hold = true → exec (.modeRequestHold dt sid) s
        = s.becomes ((((m.sendVerdict (.mode .hold m.webLine)).withStops (fun x => { x with sys := { x.sys with
          holdRequested := true } })).setMode .hold).reply (.host sid) 0x1011 0 .ok))
    ∧ (∀ n, m.takes sid .print = true → (m.sendVerdict (.mode .print m.webLine)).withStops (fun x => { x with sys := { x.sys with
          holdRequested := false } }) = n → exec (.modeRequestPrint dt sid) s
        = s.becomes ((if n.enc.speedState = 2 then n.setMode .print else n).reply (.host sid) 0x1011 0 .ok))
    ∧ (m.takes sid .idle = true → m.sys.mode ≠ .safe → (m.sendVerdict (.mode .idle m.webLine)).printing = false →
        exec (.modeRequestIdle dt sid) s = s.becomes (((m.sendVerdict (.mode .idle m.webLine)).toIdle).reply (.host sid) 0x1011 0 .ok))
    ∧ (∀ n, m.takes sid .idle = true → m.sys.mode ≠ .safe → m.sendVerdict (.mode .idle m.webLine) = n → n.printing = true →
        exec (.modeRequestIdle dt sid) s = s.becomes ((((n.withStops (fun x => { x with
          gate := { x.gate with modeStop := true }, sys := { x.sys with holdRequested := false } })).leaveRun 1).toIdle).reply
            (.host sid) 0x1011 0 .ok))
    ∧ (∀ n, m.takes sid .armed = true → m.armRefused = false → m.enc.fault = false →
        m.sendVerdict (.mode .armed m.sys.nNext) = n → exec (.modeRequestArmed dt sid) s
          = s.becomes ((Mach.enterArmed { n with sys := { n.sys with nNext := m.sys.nNext } }).reply (.host sid) 0x1011 0 .ok))
    ∧ (m.takes sid .armed = true → m.armRefused = true →
        exec (.modeRequestArmed dt sid) s = s.becomes (m.reply (.host sid) 0x1011 0 .outOfRange))
    ∧ (m.takes sid .safe = true → exec (.modeRequestSafe dt sid) s = s.becomes
        (((if m.sys.mode = .idle then m.wakePorts else m).enterSafe 6 0).reply (.host sid) 0x1011 0 .ok))
    ∧ (m.takes sid .idle = true → m.sys.mode = .safe → exec (.modeRequestIdle dt sid) s
        = s.becomes (if m.safeCleared then (m.reply (.host sid) 0x1011 0 .ok).leaveSafe else m.reply (.host sid) 0x1011 0 .notReady))
    ∧ (m.takes sid .reset = true → exec (.modeRequestReset dt sid) s
        = s.becomes (((((if m.sys.mode = .idle then m.wakePorts else m).reply (.host sid) 0x1011 0 .ok).flushRecorder).finishWrites).mainReset)))
  ∧ ((∀ (m : Mach) (t : Mode), m.sys.mode ≠ t →
    (m.setMode t).sys = { m.sys with mode := t, previous := m.sys.mode, enteredAt := m.linkTime } ∧ (m.setMode t).enc = m.enc
      ∧ (m.setMode t).ports = m.ports ∧ (m.setMode t).seams = m.seams ∧ (m.setMode t).gate = m.gate)
  ∧ (∀ (dt sid : Nat) (s : State) (m : Mach), s.found dt = m → m.answers (.host sid) = true →
    m.pairRefuses (.host sid) 0x1011 = false → levelHas (m.level (.host sid)) (modeLevels m.sys.mode .print) = true →
    (m.sys.mode = .idle ∨ m.sys.mode = .armed ∨ m.sys.mode = .prime ∨ m.sys.mode = .safe) →
    exec (.modeRequestPrint dt sid) s = s.becomes (m.reply (.host sid) 0x1011 0 .outOfRange)))
  ∧ ((∀ (dt sid : Nat) (s : State) (m : Mach), s.found dt = m → m.admits (.host sid) 0x2025 0 1 = true →
    (m.sys.mode = .prime ∨ m.sys.mode = .service) →
    (setBits (m.nat 0x2024 1 0) 64).any (fun p => decide (m.nat 0x2024 4 0 * 1000 < m.tMin p 0)) = false →
    exec (.stationaryStart dt sid 1) s = s.becomes (Mach.acceptNum { m with sys := { m.sys with stationary := {
      active := true, ports := m.nat 0x2024 1 0, pattern := m.nat 0x2024 2 0, level := m.nat 0x2024 3 0
      period := m.nat 0x2024 4 0 * 1000, left := if m.nat 0x2024 5 0 = 0 then none else some (m.nat 0x2024 5 0)
      dueAt := m.now, lineNo := 0 } } } (.host sid) 0x2025 0 0 1 1))
  ∧ (∀ (dt : Nat) (st : Stationary) (s : State) (m n : Mach), s.found dt = m → m.sys.stationary = st → st.active = true →
    m.sys.mode = .prime → m.pair.role = 0 → st.dueAt ≤ m.now → st.left = none →
    forEach (setBits st.ports 64) m (fun p acc => acc.stationaryPort p m.sys.nNext) = n →
    exec (.stationaryLine dt) s = s.becomes { n with sys := { n.sys with
      nNext := m.sys.nNext + 1
      stationary := { st with dueAt := m.now + st.period, left := none, lineNo := st.lineNo + 1, active := true } } })
  ∧ (∀ (dt : Nat) (s : State) (m : Mach), s.found dt = m → m.sys.stationary.active = false →
    exec (.stationaryLine dt) s = s.becomes m))

/-- POWER_GOOD, FW_VERIFY_DONE, DRAM_TRAINING_DONE, STORE_LOAD_DONE, PORT_GROUP_TRAIN, RESET_N and RESET_RELEASE (R626 to
R629, R645): the steps of a start in their order; a command of another step changes nothing. What a reset of the main die
keeps (R629, R643): Yarrow's totals, the supply, the recorder's closed records, the store's items, firmware and OTP; what it
clears: everything else of the main die, its links, its run and its sessions. (log entries 2, 3 and 79: values without a
stated reset value, and the moment at which BOOT acts, are the model's) -/
def Obligations.TheModuleStartsInOrder : Prop :=
  ((∀ (dt : Nat) (s : State) (m : Mach), s.found dt = m → m.sys.mode = .reset → m.power.alwaysOn = true → m.power.held = false →
    m.power.tripped = none → m.power.failAt = none →
    exec (.powerGood dt) s = s.becomes m.starts ∧ exec (.resetRelease dt) s = s.becomes m.starts)
  ∧ (∀ (dt : Nat) (s : State) (m : Mach), s.found dt = m → m.sys.mode = .boot →
    (m.sys.step = 2 → exec (.fwVerifyDone dt) s = s.becomes (forEach (List.range 13) { m with sys := { m.sys with step := 4 } }
        (fun n acc => acc.onEngine n (fun e => { e with state := 1 }))))
    ∧ (m.sys.step ≠ 2 → exec (.fwVerifyDone dt) s = s.becomes m)
    ∧ (m.sys.step = 4 → exec (.dramTrainingDone dt) s = s.becomes { m with sys := { m.sys with step := 5 } })
    ∧ (m.sys.step ≠ 4 → exec (.dramTrainingDone dt) s = s.becomes m)
    ∧ (∀ bad gone n, m.sys.step = 5 → ((m.loadStore bad gone).endBoot).setMode .assemble = n →
        exec (.storeLoadDone dt bad gone) s = s.becomes (forEach allCams (if bit n.pair.cfg 0
          then (n.emit (.refOut n.refOutputs)).onPair (fun p => { p with
            role := 5, discoveryAt := m.now, heardBind := false, heardHare := false, lastBind := m.now, lastHare := m.now })
          else n.emit (.refOut n.refOutputs)) (fun c acc => acc.camRestart c)))
    ∧ (∀ bad gone, m.sys.step ≠ 5 → exec (.storeLoadDone dt bad gone) s = s.becomes m))
  ∧ (∀ (dt : Nat) (s : State) (m n : Mach), s.found dt = m → m.sys.mode = .assemble → m.sys.group < 8 → m.sys.groupDue ≤ m.now →
    10 ≤ m.sys.step → forEach (portsOf m.sys.group) m (fun p acc => acc.startTraining p) = n →
    exec (.portGroupTrain dt) s = s.becomes { n with sys := { n.sys with
      group := m.sys.group + 1, groupDue := m.now + 5000000, step := max 10 n.sys.step } })
  ∧ (∀ (dt : Nat) (s : State) (m : Mach), s.found dt = m →
    (m.sys.mode ≠ .reset → m.power.failAt = none → exec (.resetN dt) s = s.becomes m.mainReset)
    ∧ (m.sys.mode = .reset → exec (.resetN dt) s = s.becomes m)))
  ∧ (∀ m : Mach, m.mainReset.sys.mode = .reset ∧ m.mainReset.power = m.power ∧ m.mainReset.yarrow.acc = m.yarrow.acc
    ∧ m.mainReset.yarrow.trail = m.yarrow.trail ∧ m.mainReset.recorder.first = m.recorder.first
    ∧ m.mainReset.recorder.last = m.recorder.last ∧ m.mainReset.recorder.openRecs = [] ∧ m.mainReset.store.items = m.store.items
    ∧ m.mainReset.store.writes = [] ∧ m.mainReset.sys.slots = m.sys.slots ∧ m.mainReset.sys.otpConfig = m.sys.otpConfig
    ∧ m.mainReset.hy.sessions = [] ∧ m.mainReset.enc.origin = none ∧ m.mainReset.seams.table = []
    ∧ m.mainReset.cpu.dbg.unlocked = 0 ∧ ∀ p, m.mainReset.port p = {})

/-- FW_IMAGE, FW_ACTIVATE, FW_CONFIRM, OTP_CONFIG_WRITE and OTP_REVOKE (R634, R639): an image whose check fails leaves its
slot empty; a slot that verifies is activated, as a trial where OTP says so; a revocation that would leave no key is refused.
(log entry 3: the factory firmware and an empty OTP are the model's) -/
def Obligations.FirmwareAndOtpAreWritten : Prop :=
  (∀ (dt sid i : Nat) (data : Bytes) (s : State) (m n : Mach) (vals : List (Nat × Fld × Bytes)), s.found dt = m →
    m.admitsBytes (.host sid) 0x2030 0 (writeLevels 0x2030 0) data vals = true → m.imageSlot = i →
    { m with sys := { m.sys with
      slots := (List.range 3).map (fun k => if k = i then data else m.sys.slotBytes k)
      factory := (List.range 3).map (fun k => k != i && m.sys.isFactory k) } } = n →
    (n.sys.slotCheck i = none → exec (.fwImage dt sid data) s
      = s.becomes ((n.record 0x0E08 i (n.sys.slotVersion i)).accept (.host sid) 0x2030 0 0 data))
    ∧ (∀ c, n.sys.slotCheck i = some c → exec (.fwImage dt sid data) s = s.becomes ((Mach.record { m with sys := { m.sys with
      slots := (List.range 3).map (fun k => if k = i then [] else m.sys.slotBytes k)
      factory := (List.range 3).map (fun k => k != i && m.sys.isFactory k) } } 0x0E06 i c).reply (.host sid) 0x2030 0 .authFailed)))
  ∧ (∀ (dt sid v : Nat) (s : State) (m : Mach), s.found dt = m → m.admits (.host sid) 0x2032 0 v = true →
    (m.sys.slotCheck v = none → bit m.sys.otpFlags 0 = true → exec (.fwActivate dt sid v) s
      = s.becomes (Mach.acceptNum { m with sys := { m.sys with bootNext := v, trial := true, tries := 0 } } (.host sid) 0x2032 0 0 1 v))
    ∧ (m.sys.slotCheck v = none → bit m.sys.otpFlags 0 = false → exec (.fwActivate dt sid v) s
      = s.becomes (Mach.acceptNum { m with sys := { m.sys with bootNext := v, confirmed := v, trial := false, confirmDue := true } }
        (.host sid) 0x2032 0 0 1 v))
    ∧ ((m.sys.slotCheck v).isSome = true → exec (.fwActivate dt sid v) s = s.becomes (m.reply (.host sid) 0x2032 0 .outOfRange)))
  ∧ (∀ (dt sid : Nat) (s : State) (m : Mach), s.found dt = m → m.admits (.host sid) 0x2033 0 1 = true →
    (m.sys.mode = .idle → m.sys.trial = true → m.sys.running = m.sys.bootNext →
      exec (.fwConfirm dt sid 1) s = s.becomes (m.confirmSlot.acceptNum (.host sid) 0x2033 0 0 1 1))
    ∧ (m.sys.trial = false → exec (.fwConfirm dt sid 1) s = s.becomes (m.reply (.host sid) 0x2033 0 .notReady)))
  ∧ (∀ (dt sid g : Nat) (block : Bytes) (s : State) (m : Mach) (vals : List (Nat × Fld × Bytes)), s.found dt = m →
    m.admitsBytes (.host sid) 0xF003 0 (writeLevels 0xF003 0) block vals = true → otpValid block = true →
    firstWhere (fun g => otpEmpty (m.sys.otpGen g)) (List.range 4) = some g →
    exec (.otpConfigWrite dt sid block true) s = s.becomes ((Mach.record { m with sys := { m.sys with
        otpConfig := (List.range 4).map (fun k => if k = g then block else m.sys.otpGen k) } } 0x0E0A g 0).accept (.host sid) 0xF003 0 0 block)
    ∧ exec (.otpConfigWrite dt sid block false) s = s.becomes ((Mach.record { m with sys := { m.sys with
        otpConfig := (List.range 4).map (fun k => if k = g then spentBlock block else m.sys.otpGen k) } } 0x0E0B g 0).accept
          (.host sid) 0xF003 0 0 block))
  ∧ (∀ (dt sid slot : Nat) (s : State) (m : Mach), s.found dt = m → m.admits (.host sid) 0xF005 0 slot = true →
    (m.sys.slotKey m.sys.running ≠ some slot → [0, 1, 2, 3].any (fun k => m.sys.hashSet k && !bit (setBit m.sys.otpRevoked slot true) k) = true →
      exec (.otpRevoke dt sid slot true) s = s.becomes (Mach.acceptNum { m with sys := { m.sys with
        otpRevoked := setBit m.sys.otpRevoked slot true } } (.host sid) 0xF005 0 0 1 slot))
    ∧ (m.sys.slotKey m.sys.running = some slot →
      exec (.otpRevoke dt sid slot true) s = s.becomes (m.reply (.host sid) 0xF005 0 .commitRejected)))

/-- POWER_FAIL, POWER_FAIL_HOLD_END, POWER_RESTORED, VIN_BROWNOUT and VIN_START_THRESHOLD (R643, R645 to R648): a power
failure is counted and recorded and its sequence runs once; after it the main die is held in reset until the supply is good
again; a brown-out leaves nothing powered. JUNCTION_TEMP_READ, THERMAL_TRIP_RELEASE, VIN_HIGH, VIN_OUT_OF_RANGE and RAIL_FAULT
(R651, R652, R655, R673): readings are kept; a condition begins once, with its record, and ends in SAFE; a trip's reset is
released when it has cooled. (log entry 8: supply readings come with JUNCTION_TEMP_READ, the model's choice) -/
def Obligations.PowerFailsAndSuppliesAreJudged : Prop :=
  ((∀ (dt source vin : Nat) (s : State) (m n : Mach), s.found dt = m → m.power.alwaysOn = true → m.power.held = false →
    (m.readVin vin).onPower (fun p => { p with held := true, fails := satAdd 0xFFFFFFFF p.fails 1 }) = n →
    (m.power.failAt = none → exec (.powerFail dt source vin) s = s.becomes ((n.record 0x0E20 source vin).failSequence))
    ∧ (m.power.failAt.isSome = true → exec (.powerFail dt source vin) s = s.becomes n))
  ∧ (∀ (dt t : Nat) (s : State) (m : Mach), s.found dt = m → m.power.failAt = some t →
    (t + 2000000 ≤ m.now → exec (.powerFailHoldEnd dt) s = s.becomes (m.mainReset.onPower (fun p => { p with failAt := none })))
    ∧ (m.now < t + 2000000 → exec (.powerFailHoldEnd dt) s = s.becomes m))
  ∧ (∀ (dt : Nat) (s : State) (m : Mach), s.found dt = m → m.power.held = true → m.power.failAt = none → m.sys.mode = .reset →
    m.power.tripped = none → exec (.powerRestored dt) s = s.becomes ((m.onPower (fun p => { p with held := false })).starts))
  ∧ (∀ (dt : Nat) (s : State), exec (.vinBrownout dt) s = s.becomes (s.found dt).brownout
      ∧ (s.found dt).brownout.power = { fails := (s.found dt).power.fails } ∧ (s.found dt).brownout.yarrow.up = false)
  ∧ (∀ (dt vin : Nat) (s : State) (m : Mach), s.found dt = m →
    (m.power.alwaysOn = false → exec (.vinStartThreshold dt vin) s = s.becomes (m.onPower (fun p => { p with
        alwaysOn := true, repeater := true, rails := 0x100, vin := vin })))
    ∧ (m.power.alwaysOn = true → exec (.vinStartThreshold dt vin) s = s.becomes m)))
  ∧ ((∀ (dt vin iin pin : Nat) (main yarrow dcdc : Option Int) (s : State) (m : Mach), s.found dt = m → m.power.alwaysOn = true →
    m.sys.mode = .reset → exec (.junctionTempRead dt main yarrow dcdc vin iin pin) s = s.becomes ((((m.onPower (fun p => { p with
      tjMain := main, tjYarrow := yarrow, dcdc := dcdc, tjMax := hotter p.tjMax main, iin := iin, pin := pin })).readVin vin).coolSince
        main dcdc)))
  ∧ (∀ (dt vin iin pin : Nat) (main yarrow dcdc : Option Int) (s : State), (s.found dt).power.alwaysOn = false →
    exec (.junctionTempRead dt main yarrow dcdc vin iin pin) s = s.becomes (s.found dt))
  ∧ (∀ (dt who t0 : Nat) (t : Int) (s : State) (m : Mach), s.found dt = m → m.sys.mode = .reset → m.power.failAt = none →
    m.power.held = false → m.power.tripped = some (who, t) → m.power.belowSince = some t0 →
    (t0 + 1000000000 ≤ m.now → exec (.thermalTripRelease dt) s = s.becomes m.starts)
    ∧ (m.now < t0 + 1000000000 → exec (.thermalTripRelease dt) s = s.becomes m))
  ∧ (∀ (dt vin : Nat) (s : State) (m : Mach), s.found dt = m → m.power.alwaysOn = true → m.sys.mode ≠ .reset →
    (7800 < vin → bit m.power.conditions 2 = false → exec (.vinHigh dt vin) s = s.becomes ((((m.readVin vin).onPower (fun p => { p with
        conditions := setBit p.conditions 2 true })).record 0x0E25 2 vin).enterSafe 5 0))
    ∧ (vin ≤ 7800 → exec (.vinHigh dt vin) s = s.becomes m)
    ∧ (∀ side, m.power.failAt = none → exec (.vinOutOfRange dt side vin) s = s.becomes ((m.readVin vin).record 0x0E21 side vin)))
  ∧ (∀ (dt rails : Nat) (s : State) (m n : Mach), s.found dt = m → m.power.alwaysOn = true → m.power.failAt = none →
    m.sys.mode ≠ .reset → m.onPower (fun p => { p with rails := bits rails 0 9 }) = n →
    (bits rails 0 9 = 0x1FF → exec (.railFault dt rails) s
      = s.becomes (n.onPower (fun p => { p with conditions := setBit p.conditions 3 false })))
    ∧ (bits rails 0 9 ≠ 0x1FF → bit m.power.conditions 3 = true → exec (.railFault dt rails) s = s.becomes n)
    ∧ (bits rails 0 9 ≠ 0x1FF → bit m.power.conditions 3 = false → exec (.railFault dt rails) s
      = s.becomes ((n.record 0x0E22 (bits rails 0 9) 0).thermalSafe 3 0))))
end

