-- ==== Sys2Proof/Laws/Access.lean ====
section
/-! SUPPORT. What the shared frames and checks do: the frame in which a command acts, the checks of a write, its answer, and
what may change job memory. -/

namespace Sys2Proof.Machine

/-! ### The frame in which a command acts -/

theorem State.act_eq (s : State) (dt : Nat) (f : Mach → Mach) : s.act dt f = s.becomes (f (s.found dt)) := rfl

theorem State.actUser_eq (s : State) (dt : Nat) (f : Mach → Mach) : s.actUser dt f = s.becomesUser dt (f (s.found dt)) := rfl

/-- A command that starts no engine leaves job memory. -/
theorem State.becomesUser_eq {s : State} {dt : Nat} {m : Mach} (h : m.cpu.user.starts = (s.found dt).cpu.user.starts) :
    s.becomesUser dt m = s.becomes m := by
  simp [State.becomesUser, State.becomes, clearWindow, h]

theorem State.actUnit_of_lt {s : State} {dt : Nat} {name : String} {n limit : Nat} {f : Mach → Mach} (h : n < limit) :
    s.actUnit dt name n limit f = s.becomes (f (s.found dt)) := by
  simp [State.actUnit, h, State.act_eq]

theorem State.actUnits_of_lt {s : State} {dt : Nat} {name₁ name₂ : String} {n₁ limit₁ n₂ limit₂ : Nat} {f : Mach → Mach}
    (h₁ : n₁ < limit₁) (h₂ : n₂ < limit₂) :
    s.actUnits dt name₁ n₁ limit₁ name₂ n₂ limit₂ f = s.becomes (f (s.found dt)) := by
  simp [State.actUnits, h₁, State.actUnit_of_lt h₂]

theorem State.actSem_of_runs {s : State} {dt n q : Nat} {f : Mach → Mach} (hn : n < 13) (hq : q < 64)
    (hs : ((s.found dt).engine n).state = 1) : s.actSem dt n q f = s.becomesUser dt (f (s.found dt)) := by
  have h14 : n < 14 := by omega
  have h13 : n ≠ 13 := by omega
  simp [State.actSem, h14, Nat.not_le.mpr hq, State.actUser_eq, Mach.semAccess, hs, h13]

theorem resumed_becomes (s : State) (m : Mach) : resumed (s.becomes m) = s.goesOn m := rfl

/-! ### The checks of a write (R558) -/

theorem Mach.guarded_of_ok {m : Mach} {w : Who} {idx sub : Nat} (ha : m.answers w = true) (hg : m.writeGate w idx sub = .ok)
    (f : Mach → Mach) : m.guarded w idx sub f = f m := by
  simp [Mach.guarded, ha, hg]

theorem Mach.guardedNum_of_admits {m : Mach} {w : Who} {idx sub : Nat} {v : Int} (h : m.admits w idx sub v = true)
    (f : Mach → Mach) : m.guardedNum w idx sub v f = f m := by
  simp [Mach.admits] at h
  simp [Mach.guardedNum, Mach.guarded, h]

theorem Mach.guardedBytes_of_admits {m : Mach} {w : Who} {idx sub levels : Nat} {data : Bytes} {vals : List (Nat × Fld × Bytes)}
    (h : m.admitsBytes w idx sub levels data vals = true) (f : List (Nat × Fld × Bytes) → Mach → Mach) :
    m.guardedBytes w idx sub levels data f = f vals m := by
  simp only [Mach.admitsBytes, Bool.and_eq_true, decide_eq_true_eq] at h
  obtain ⟨⟨⟨⟨h1, h2⟩, h3⟩, h4⟩, h5⟩ := h
  simp only [Mach.guardedBytes, h1, h2, h3, h4, h5, if_true]

/-- A write without a pair, or of an object that is not forwarded, is answered at once. -/
theorem Mach.accept_alone {m : Mach} {w : Who} {idx sub dev : Nat} {data : Bytes} (hw : ∀ i, w ≠ .peer i)
    (h : forwarded idx = false ∨ m.pair.role ≠ 1) : m.accept w idx sub dev data = m.reply w idx sub .ok := by
  cases w with
  | peer i => exact absurd rfl (hw i)
  | host sid => rcases h with h | h <;> simp [Mach.accept, h, Mach.inStepPeer, Mach.joiningPeer]
  | e13 => rcases h with h | h <;> simp [Mach.accept, h, Mach.inStepPeer, Mach.joiningPeer]

end Sys2Proof.Machine
end

