-- ==== Sys2Proof/Laws/Exec.lean ====
section
/-! SUPPORT. Each command runs its meaning: what `exec` is at each constructor. -/

namespace Sys2Proof.Machine

theorem exec_encCount (dt : Nat) (aLeads : Bool) (s : State) : exec (.encCount dt aLeads) s = execEncCount dt aLeads s := rfl
theorem exec_encIllegal (dt : Nat) (s : State) : exec (.encIllegal dt) s = execEncIllegal dt s := rfl
theorem exec_openLine (dt : Nat) (line : EncLine) (s : State) : exec (.openLine dt line) s = execOpenLine dt line s := rfl
theorem exec_openLineEnded (dt : Nat) (line : EncLine) (s : State) :
    exec (.openLineEnded dt line) s = execOpenLineEnded dt line s := rfl
theorem exec_encFaultClear (dt sid v : Nat) (s : State) : exec (.encFaultClear dt sid v) s = execEncFaultClear dt sid v s := rfl
theorem exec_indexPulse (dt : Nat) (s : State) : exec (.indexPulse dt) s = execIndexPulse dt s := rfl
theorem exec_indexArm (dt sid v : Nat) (s : State) : exec (.indexArm dt sid v) s = execIndexArm dt sid v s := rfl
theorem exec_gpinEdge (dt n : Nat) (s : State) : exec (.gpinEdge dt n) s = execGpinEdge dt n s := rfl
theorem exec_speedStall (dt : Nat) (s : State) : exec (.speedStall dt) s = execSpeedStall dt s := rfl
theorem exec_psoPulseEnd (dt n : Nat) (s : State) : exec (.psoPulseEnd dt n) s = execPsoPulseEnd dt n s := rfl
theorem exec_psoSchedule (dt sid n v : Nat) (s : State) : exec (.psoSchedule dt sid n v) s = execPsoSchedule dt sid n v s := rfl
theorem exec_commitSeam (dt sid target scope id flags : Nat) (s : State) :
    exec (.commitSeam dt sid target scope id flags) s = execCommitSeam dt sid target scope id flags s := rfl
theorem exec_seamCancel (dt sid id : Nat) (s : State) : exec (.seamCancel dt sid id) s = execSeamCancel dt sid id s := rfl
theorem exec_bankLoadDone (dt bar group : Nat) (s : State) :
    exec (.bankLoadDone dt bar group) s = execBankLoadDone dt bar group s := rfl
theorem exec_composeLine (dt bar took : Nat) (s : State) :
    exec (.composeLine dt bar took) s = execComposeLine dt bar took s := rfl
theorem exec_fireSend (dt bar : Nat) (s : State) : exec (.fireSend dt bar) s = execFireSend dt bar s := rfl
theorem exec_lineSend (dt port : Nat) (s : State) : exec (.lineSend dt port) s = execLineSend dt port s := rfl
theorem exec_layerPost (dt sid layer job frame content : Nat) (s : State) :
    exec (.layerPost dt sid layer job frame content) s = execLayerPost dt sid layer job frame content s := rfl
theorem exec_layerConfigWrite (dt sid sub : Nat) (data : Bytes) (s : State) :
    exec (.layerConfigWrite dt sid sub data) s = execLayerConfigWrite dt sid sub data s := rfl
theorem exec_jobConfigWrite (dt sid sub : Nat) (data : Bytes) (s : State) :
    exec (.jobConfigWrite dt sid sub data) s = execJobConfigWrite dt sid sub data s := rfl
theorem exec_rcConsume (dt sid idx sub : Nat) (s : State) :
    exec (.rcConsume dt sid idx sub) s = execRcConsume dt sid idx sub s := rfl
theorem exec_nozzleEdit (dt sid v : Nat) (s : State) : exec (.nozzleEdit dt sid v) s = execNozzleEdit dt sid v s := rfl
theorem exec_headSlotWrite (dt sid slot v : Nat) (s : State) :
    exec (.headSlotWrite dt sid slot v) s = execHeadSlotWrite dt sid slot v s := rfl
theorem exec_linkRetrain (dt sid v : Nat) (s : State) : exec (.linkRetrain dt sid v) s = execLinkRetrain dt sid v s := rfl
theorem exec_ts1Received (dt port : Nat) (o : OrderedSet) (good : Bool) (s : State) :
    exec (.ts1Received dt port o good) s = execTs1Received dt port o good s := rfl
theorem exec_ts2Received (dt port : Nat) (o : OrderedSet) (s : State) :
    exec (.ts2Received dt port o) s = execTs2Received dt port o s := rfl
theorem exec_eqStepTimer (dt port eye : Nat) (s : State) :
    exec (.eqStepTimer dt port eye) s = execEqStepTimer dt port eye s := rfl
theorem exec_trainTimeout (dt port : Nat) (s : State) : exec (.trainTimeout dt port) s = execTrainTimeout dt port s := rfl
theorem exec_lockLost (dt port : Nat) (s : State) : exec (.lockLost dt port) s = execLockLost dt port s := rfl
theorem exec_rxInvalidSymbol (dt port gap : Nat) (s : State) :
    exec (.rxInvalidSymbol dt port gap) s = execRxInvalidSymbol dt port gap s := rfl
theorem exec_linkSleep (dt sid v : Nat) (s : State) : exec (.linkSleep dt sid v) s = execLinkSleep dt sid v s := rfl
theorem exec_eiosReceived (dt port : Nat) (s : State) : exec (.eiosReceived dt port) s = execEiosReceived dt port s := rfl
theorem exec_wakeBurstReceived (dt port : Nat) (s : State) :
    exec (.wakeBurstReceived dt port) s = execWakeBurstReceived dt port s := rfl
theorem exec_timeSyncTimer (dt : Nat) (s : State) : exec (.timeSyncTimer dt) s = execTimeSyncTimer dt s := rfl
theorem exec_delayExchange (dt port : Nat) (s : State) : exec (.delayExchange dt port) s = execDelayExchange dt port s := rfl
theorem exec_ackTimeEcho (dt port t2 t3 : Nat) (lastSeq : Heard) (lostMask : Nat) (s : State) :
    exec (.ackTimeEcho dt port t2 t3 lastSeq lostMask) s = execAckTimeEcho dt port t2 t3 lastSeq lostMask s := rfl
theorem exec_ackCumulative (dt port : Nat) (lastSeq : Heard) (lostMask : Nat) (s : State) :
    exec (.ackCumulative dt port lastSeq lostMask) s = execAckCumulative dt port lastSeq lostMask s := rfl
theorem exec_livenessTimer (dt : Nat) (s : State) : exec (.livenessTimer dt) s = execLivenessTimer dt s := rfl
theorem exec_nakReceived (dt port : Nat) (first : Heard) (missing reason : Nat) (s : State) :
    exec (.nakReceived dt port first missing reason) s = execNakReceived dt port first missing reason s := rfl
theorem exec_rxFrameBad (dt : Nat) (port : BadFrame) (s : State) :
    exec (.rxFrameBad dt port) s = execRxFrameBad dt port s := rfl
theorem exec_statusReceived (dt port seq : Nat) (st : StatusFrame) (s : State) :
    exec (.statusReceived dt port seq st) s = execStatusReceived dt port seq st s := rfl
theorem exec_statusTimeout (dt port : Nat) (s : State) : exec (.statusTimeout dt port) s = execStatusTimeout dt port s := rfl
theorem exec_tokenGrantReceived (dt port seq : Nat) (g : Grant) (s : State) :
    exec (.tokenGrantReceived dt port seq g) s = execTokenGrantReceived dt port seq g s := rfl
theorem exec_tokenClaimTimeout (dt port : Nat) (s : State) :
    exec (.tokenClaimTimeout dt port) s = execTokenClaimTimeout dt port s := rfl
theorem exec_cfgReplyReceived (dt port seq : Nat) (write : Bool) (addr result : Nat) (data : Bytes) (s : State) :
    exec (.cfgReplyReceived dt port seq write addr result data) s = execCfgReplyReceived dt port seq write addr result data s := rfl
theorem exec_cfgTimeout (dt port : Nat) (s : State) : exec (.cfgTimeout dt port) s = execCfgTimeout dt port s := rfl
theorem exec_refConfigWrite (dt sid v : Nat) (s : State) :
    exec (.refConfigWrite dt sid v) s = execRefConfigWrite dt sid v s := rfl
theorem exec_headReenable (dt sid v : Nat) (s : State) : exec (.headReenable dt sid v) s = execHeadReenable dt sid v s := rfl
theorem exec_gateInhibit (dt k : Nat) (s : State) : exec (.gateInhibit dt k) s = execGateInhibit dt k s := rfl
theorem exec_gateClear (dt sid v : Nat) (s : State) : exec (.gateClear dt sid v) s = execGateClear dt sid v s := rfl
theorem exec_gateInputInactive (dt k : Nat) (s : State) : exec (.gateInputInactive dt k) s = execGateInputInactive dt k s := rfl
theorem exec_trigPulseEnd (dt cam : Nat) (s : State) : exec (.trigPulseEnd dt cam) s = execTrigPulseEnd dt cam s := rfl
theorem exec_flashStart (dt cam : Nat) (s : State) : exec (.flashStart dt cam) s = execFlashStart dt cam s := rfl
theorem exec_flashEnd (dt cam : Nat) (s : State) : exec (.flashEnd dt cam) s = execFlashEnd dt cam s := rfl
theorem exec_csiFrameStart (dt : Nat) (cam : CsiHead) (s : State) :
    exec (.csiFrameStart dt cam) s = execCsiFrameStart dt cam s := rfl
theorem exec_csiRowReceived (dt : Nat) (cam : CsiHead) (pixels : CsiRow) (crcOk writerKeepsUp : Bool) (s : State) :
    exec (.csiRowReceived dt cam pixels crcOk writerKeepsUp) s = execCsiRowReceived dt cam pixels crcOk writerKeepsUp s := rfl
theorem exec_csiFrameEnd (dt : Nat) (cam : CsiHead) (s : State) :
    exec (.csiFrameEnd dt cam) s = execCsiFrameEnd dt cam s := rfl
theorem exec_fsTimeout (dt cam : Nat) (s : State) : exec (.fsTimeout dt cam) s = execFsTimeout dt cam s := rfl
theorem exec_feTimeout (dt cam : Nat) (s : State) : exec (.feTimeout dt cam) s = execFeTimeout dt cam s := rfl
theorem exec_camSoftTrigger (dt sid v : Nat) (s : State) :
    exec (.camSoftTrigger dt sid v) s = execCamSoftTrigger dt sid v s := rfl
theorem exec_camConfigWrite (dt sid idx sub : Nat) (data : Bytes) (s : State) :
    exec (.camConfigWrite dt sid idx sub data) s = execCamConfigWrite dt sid idx sub data s := rfl
theorem exec_camBusTransferDone (dt cam : Nat) (acked : Bool) (s : State) :
    exec (.camBusTransferDone dt cam acked) s = execCamBusTransferDone dt cam acked s := rfl
theorem exec_camExposureCommit (dt sid v : Nat) (s : State) :
    exec (.camExposureCommit dt sid v) s = execCamExposureCommit dt sid v s := rfl
theorem exec_camStreamCommit (dt sid v : Nat) (s : State) :
    exec (.camStreamCommit dt sid v) s = execCamStreamCommit dt sid v s := rfl
theorem exec_loopComputeDone (dt : Nat) (s : State) : exec (.loopComputeDone dt) s = execLoopComputeDone dt s := rfl
theorem exec_loopComputeOverrun (dt : Nat) (s : State) : exec (.loopComputeOverrun dt) s = execLoopComputeOverrun dt s := rfl
theorem exec_loopSeamRetry (dt : Nat) (s : State) : exec (.loopSeamRetry dt) s = execLoopSeamRetry dt s := rfl
theorem exec_loopModeWrite (dt sid v : Nat) (s : State) : exec (.loopModeWrite dt sid v) s = execLoopModeWrite dt sid v s := rfl
theorem exec_loopBarReset (dt sid v : Nat) (s : State) : exec (.loopBarReset dt sid v) s = execLoopBarReset dt sid v s := rfl
theorem exec_loopBaselineSave (dt sid v : Nat) (s : State) :
    exec (.loopBaselineSave dt sid v) s = execLoopBaselineSave dt sid v s := rfl
theorem exec_baselineSaveTimer (dt : Nat) (s : State) : exec (.baselineSaveTimer dt) s = execBaselineSaveTimer dt s := rfl
theorem exec_frcCodingDone (dt : Nat) (disagree : List (Nat × Nat)) (s : State) :
    exec (.frcCodingDone dt disagree) s = execFrcCodingDone dt disagree s := rfl
theorem exec_frcVerifyDone (dt handle : Nat) (s : State) :
    exec (.frcVerifyDone dt handle) s = execFrcVerifyDone dt handle s := rfl
theorem exec_refreshDue (dt ch rate : Nat) (pQueued : Bool) (s : State) :
    exec (.refreshDue dt ch rate pQueued) s = execRefreshDue dt ch rate pQueued s := rfl
theorem exec_refreshPaybackStart (dt ch : Nat) (s : State) :
    exec (.refreshPaybackStart dt ch) s = execRefreshPaybackStart dt ch s := rfl
theorem exec_mr4Poll (dt ch rate : Nat) (s : State) : exec (.mr4Poll dt ch rate) s = execMr4Poll dt ch rate s := rfl
theorem exec_memTempRead (dt ch : Nat) (temp : Int) (s : State) :
    exec (.memTempRead dt ch temp) s = execMemTempRead dt ch temp s := rfl
theorem exec_agePromotion (dt ch k : Nat) (s : State) : exec (.agePromotion dt ch k) s = execAgePromotion dt ch k s := rfl
theorem exec_arbCutoff (dt q addr cycles : Nat) (s : State) :
    exec (.arbCutoff dt q addr cycles) s = execArbCutoff dt q addr cycles s := rfl
theorem exec_arbCommit (dt sid v : Nat) (s : State) : exec (.arbCommit dt sid v) s = execArbCommit dt sid v s := rfl
theorem exec_urgentLift (dt sid v : Nat) (s : State) : exec (.urgentLift dt sid v) s = execUrgentLift dt sid v s := rfl
theorem exec_arbReenable (dt sid v : Nat) (s : State) : exec (.arbReenable dt sid v) s = execArbReenable dt sid v s := rfl
theorem exec_memReadDone (dt ch q latency : Nat) (s : State) :
    exec (.memReadDone dt ch q latency) s = execMemReadDone dt ch q latency s := rfl
theorem exec_engineFault (dt n cause : Nat) (s : State) : exec (.engineFault dt n cause) s = execEngineFault dt n cause s := rfl
theorem exec_supervisorWatchdog (dt : Nat) (s : State) : exec (.supervisorWatchdog dt) s = execSupervisorWatchdog dt s := rfl
theorem exec_userImage (dt sid : Nat) (image : Bytes) (s : State) :
    exec (.userImage dt sid image) s = execUserImage dt sid image s := rfl
theorem exec_userRun (dt sid v : Nat) (s : State) : exec (.userRun dt sid v) s = execUserRun dt sid v s := rfl
theorem exec_userWatchdog (dt cause : Nat) (s : State) : exec (.userWatchdog dt cause) s = execUserWatchdog dt cause s := rfl
theorem exec_userWdtRestart (dt : Nat) (s : State) : exec (.userWdtRestart dt) s = execUserWdtRestart dt s := rfl
theorem exec_userDictRequest (dt idx sub : Nat) (write consume : Bool) (data : Bytes) (s : State) :
    exec (.userDictRequest dt idx sub write consume data) s = execUserDictRequest dt idx sub write consume data s := rfl
theorem exec_userMailboxIn (dt sid : Nat) (msg : Bytes) (s : State) :
    exec (.userMailboxIn dt sid msg) s = execUserMailboxIn dt sid msg s := rfl
theorem exec_userMailboxPost (dt : Nat) (msg : Bytes) (s : State) :
    exec (.userMailboxPost dt msg) s = execUserMailboxPost dt msg s := rfl
theorem exec_userMailboxRead (dt : Nat) (s : State) : exec (.userMailboxRead dt) s = execUserMailboxRead dt s := rfl
theorem exec_semTry (dt n sm : Nat) (s : State) : exec (.semTry dt n sm) s = execSemTry dt n sm s := rfl
theorem exec_semWait (dt n sm : Nat) (s : State) : exec (.semWait dt n sm) s = execSemWait dt n sm s := rfl
theorem exec_semRelease (dt n sm : Nat) (s : State) : exec (.semRelease dt n sm) s = execSemRelease dt n sm s := rfl
theorem exec_semRenew (dt n sm : Nat) (s : State) : exec (.semRenew dt n sm) s = execSemRenew dt n sm s := rfl
theorem exec_semDeclareRecovery (dt n sm : Nat) (s : State) :
    exec (.semDeclareRecovery dt n sm) s = execSemDeclareRecovery dt n sm s := rfl
theorem exec_semLeaseExpired (dt sm : Nat) (s : State) : exec (.semLeaseExpired dt sm) s = execSemLeaseExpired dt sm s := rfl
theorem exec_dbgChallenge (dt scope : Nat) (s : State) : exec (.dbgChallenge dt scope) s = execDbgChallenge dt scope s := rfl
theorem exec_dbgResponse (dt scope : Nat) (key sig : Bytes) (s : State) :
    exec (.dbgResponse dt scope key sig) s = execDbgResponse dt scope key sig s := rfl
theorem exec_tapBypass (dt code : Nat) (s : State) : exec (.tapBypass dt code) s = execTapBypass dt code s := rfl
theorem exec_tapIdcode (dt : Nat) (s : State) : exec (.tapIdcode dt) s = execTapIdcode dt s := rfl
theorem exec_tapSamplePreload (dt : Nat) (preload lands : Bytes) (s : State) :
    exec (.tapSamplePreload dt preload lands) s = execTapSamplePreload dt preload lands s := rfl
theorem exec_tapExtest (dt : Nat) (s : State) : exec (.tapExtest dt) s = execTapExtest dt s := rfl
theorem exec_tapClamp (dt : Nat) (s : State) : exec (.tapClamp dt) s = execTapClamp dt s := rfl
theorem exec_tapHighz (dt : Nat) (s : State) : exec (.tapHighz dt) s = execTapHighz dt s := rfl
theorem exec_tapReset (dt : Nat) (s : State) : exec (.tapReset dt) s = execTapReset dt s := rfl
theorem exec_dbgHalt (dt n : Nat) (s : State) : exec (.dbgHalt dt n) s = execDbgHalt dt n s := rfl
theorem exec_dbgResume (dt n : Nat) (s : State) : exec (.dbgResume dt n) s = execDbgResume dt n s := rfl
theorem exec_dbgStep (dt n : Nat) (s : State) : exec (.dbgStep dt n) s = execDbgStep dt n s := rfl
theorem exec_dbgSetBp (dt n bp data : Nat) (s : State) : exec (.dbgSetBp dt n bp data) s = execDbgSetBp dt n bp data s := rfl
theorem exec_dbgClearBp (dt n bp : Nat) (s : State) : exec (.dbgClearBp dt n bp) s = execDbgClearBp dt n bp s := rfl
theorem exec_dbgReadReg (dt n reg : Nat) (s : State) : exec (.dbgReadReg dt n reg) s = execDbgReadReg dt n reg s := rfl
theorem exec_dbgWriteReg (dt n reg data : Nat) (s : State) :
    exec (.dbgWriteReg dt n reg data) s = execDbgWriteReg dt n reg data s := rfl
theorem exec_dbgReadMem (dt n addr : Nat) (s : State) : exec (.dbgReadMem dt n addr) s = execDbgReadMem dt n addr s := rfl
theorem exec_dbgWriteMem (dt n addr data : Nat) (s : State) :
    exec (.dbgWriteMem dt n addr data) s = execDbgWriteMem dt n addr data s := rfl
theorem exec_dbgSemAcquire (dt sm : Nat) (wait : Bool) (s : State) :
    exec (.dbgSemAcquire dt sm wait) s = execDbgSemAcquire dt sm wait s := rfl
theorem exec_dbgSemRelease (dt sm : Nat) (s : State) : exec (.dbgSemRelease dt sm) s = execDbgSemRelease dt sm s := rfl
theorem exec_dbgSemRecovered (dt sm : Nat) (s : State) : exec (.dbgSemRecovered dt sm) s = execDbgSemRecovered dt sm s := rfl
theorem exec_breakpointHit (dt n bp : Nat) (s : State) : exec (.breakpointHit dt n bp) s = execBreakpointHit dt n bp s := rfl
theorem exec_dbgTimeout (dt : Nat) (s : State) : exec (.dbgTimeout dt) s = execDbgTimeout dt s := rfl
theorem exec_heartbeatTimer (dt : Nat) (s : State) : exec (.heartbeatTimer dt) s = execHeartbeatTimer dt s := rfl
theorem exec_harebellTimer (dt : Nat) (s : State) : exec (.harebellTimer dt) s = execHarebellTimer dt s := rfl
theorem exec_bindweedHeartbeat (dt role mode lastVerdict lastMirror phi0 linkTime : Nat) (s : State) :
    exec (.bindweedHeartbeat dt role mode lastVerdict lastMirror phi0 linkTime) s = execBindweedHeartbeat dt role mode lastVerdict lastMirror phi0 linkTime s := rfl
theorem exec_harebellFrame (dt bits : Nat) (s : State) : exec (.harebellFrame dt bits) s = execHarebellFrame dt bits s := rfl
theorem exec_pathAbsent (dt path lanes : Nat) (s : State) :
    exec (.pathAbsent dt path lanes) s = execPathAbsent dt path lanes s := rfl
theorem exec_yieldReceived (dt : Nat) (s : State) : exec (.yieldReceived dt) s = execYieldReceived dt s := rfl
theorem exec_verdictRecordReceived (dt no : Nat) (v : VerdictBody) (s : State) :
    exec (.verdictRecordReceived dt no v) s = execVerdictRecordReceived dt no v s := rfl
theorem exec_verdictAckReceived (dt no : Nat) (s : State) :
    exec (.verdictAckReceived dt no) s = execVerdictAckReceived dt no s := rfl
theorem exec_verdictAckTimeout (dt lanes : Nat) (s : State) :
    exec (.verdictAckTimeout dt lanes) s = execVerdictAckTimeout dt lanes s := rfl
theorem exec_forwardedWriteReceived (dt no idx sub inst : Nat) (data : Bytes) (s : State) :
    exec (.forwardedWriteReceived dt no idx sub inst data) s = execForwardedWriteReceived dt no idx sub inst data s := rfl
theorem exec_mirrorCycle (dt : Nat) (s : State) : exec (.mirrorCycle dt) s = execMirrorCycle dt s := rfl
theorem exec_mirrorChunkReceived (dt recordNo chunk : Nat) (data : Bytes) (s : State) :
    exec (.mirrorChunkReceived dt recordNo chunk data) s = execMirrorChunkReceived dt recordNo chunk data s := rfl
theorem exec_originStampReceived (dt : Nat) (isCount : Bool) (time : Nat) (count : Int) (s : State) :
    exec (.originStampReceived dt isCount time count) s = execOriginStampReceived dt isCount time count s := rfl
theorem exec_peerStatsReceived (dt : Nat) (p : PeerStats) (s : State) :
    exec (.peerStatsReceived dt p) s = execPeerStatsReceived dt p s := rfl
theorem exec_stopReportReceived (dt cause ports event : Nat) (s : State) :
    exec (.stopReportReceived dt cause ports event) s = execStopReportReceived dt cause ports event s := rfl
theorem exec_digestReceived (dt handle : Nat) (digest : Bytes) (s : State) :
    exec (.digestReceived dt handle digest) s = execDigestReceived dt handle digest s := rfl
theorem exec_ingestWaitExpiry (dt handle : Nat) (s : State) :
    exec (.ingestWaitExpiry dt handle) s = execIngestWaitExpiry dt handle s := rfl
theorem exec_discoveryEnd (dt delay : Nat) (list : List (Nat × Bytes × Nat)) (s : State) :
    exec (.discoveryEnd dt delay list) s = execDiscoveryEnd dt delay list s := rfl
theorem exec_forwardAckReceived (dt no : Nat) (st : Status) (s : State) :
    exec (.forwardAckReceived dt no st) s = execForwardAckReceived dt no st s := rfl
theorem exec_resyncDataReceived (dt : Nat) (d : ResyncData) (s : State) :
    exec (.resyncDataReceived dt d) s = execResyncDataReceived dt d s := rfl
theorem exec_yrEncCount (dt : Nat) (aLeads : Bool) (s : State) :
    exec (.yrEncCount dt aLeads) s = execYrEncCount dt aLeads s := rfl
theorem exec_encXCount (dt : Nat) (aLeads : Bool) (s : State) : exec (.encXCount dt aLeads) s = execEncXCount dt aLeads s := rfl
theorem exec_calLenStart (dt sid v : Nat) (s : State) : exec (.calLenStart dt sid v) s = execCalLenStart dt sid v s := rfl
theorem exec_yrJobStart (dt seq : Nat) (good : Bool) (jobId line channels increment : Nat) (s : State) :
    exec (.yrJobStart dt seq good jobId line channels increment) s = execYrJobStart dt seq good jobId line channels increment s := rfl
theorem exec_yrJobEnd (dt seq : Nat) (good : Bool) (s : State) :
    exec (.yrJobEnd dt seq good) s = execYrJobEnd dt seq good s := rfl
theorem exec_yrOrigin (dt seq : Nat) (good : Bool) (s : State) :
    exec (.yrOrigin dt seq good) s = execYrOrigin dt seq good s := rfl
theorem exec_yrIdle (dt seq : Nat) (good : Bool) (s : State) : exec (.yrIdle dt seq good) s = execYrIdle dt seq good s := rfl
theorem exec_yrTick (dt seq : Nat) (good : Bool) (time domain line phi7 : Nat) (s : State) :
    exec (.yrTick dt seq good time domain line phi7) s = execYrTick dt seq good time domain line phi7 s := rfl
theorem exec_yrGap (dt seq : Nat) (good restart : Bool) (s : State) :
    exec (.yrGap dt seq good restart) s = execYrGap dt seq good restart s := rfl
theorem exec_yrDropBlock (dt seq : Nat) (good : Bool) (port : Nat) (b : StatusBlock) (s : State) :
    exec (.yrDropBlock dt seq good port b) s = execYrDropBlock dt seq good port b s := rfl
theorem exec_totalsSave (dt : Nat) (s : State) : exec (.totalsSave dt) s = execTotalsSave dt s := rfl
theorem exec_yrTempRead (dt : Nat) (temps : List (Option Int)) (s : State) :
    exec (.yrTempRead dt temps) s = execYrTempRead dt temps s := rfl
theorem exec_sealCheck (dt : Nat) (loopClosed : Bool) (s : State) :
    exec (.sealCheck dt loopClosed) s = execSealCheck dt loopClosed s := rfl
theorem exec_lockstepMismatch (dt : Nat) (s : State) : exec (.lockstepMismatch dt) s = execLockstepMismatch dt s := rfl
theorem exec_yrRestartDone (dt : Nat) (s : State) : exec (.yrRestartDone dt) s = execYrRestartDone dt s := rfl
theorem exec_metroNonce (dt sid : Nat) (s : State) : exec (.metroNonce dt sid) s = execMetroNonce dt sid s := rfl
theorem exec_nonceExpiry (dt : Nat) (s : State) : exec (.nonceExpiry dt) s = execNonceExpiry dt s := rfl
theorem exec_metroWrite (dt sid : Nat) (data key : Bytes) (s : State) :
    exec (.metroWrite dt sid data key) s = execMetroWrite dt sid data key s := rfl
theorem exec_metroStopClear (dt sid v : Nat) (s : State) :
    exec (.metroStopClear dt sid v) s = execMetroStopClear dt sid v s := rfl
theorem exec_yrFwImage (dt sid : Nat) (image sig key : Bytes) (s : State) :
    exec (.yrFwImage dt sid image sig key) s = execYrFwImage dt sid image sig key s := rfl
theorem exec_trailRenew (dt sid : Nat) (data key : Bytes) (s : State) :
    exec (.trailRenew dt sid data key) s = execTrailRenew dt sid data key s := rfl
theorem exec_reportRequest (dt sid : Nat) (data : Bytes) (s : State) :
    exec (.reportRequest dt sid data) s = execReportRequest dt sid data s := rfl
theorem exec_reportReady (dt : Nat) (s : State) : exec (.reportReady dt) s = execReportReady dt s := rfl
theorem exec_markRenderDone (dt : Nat) (s : State) : exec (.markRenderDone dt) s = execMarkRenderDone dt s := rfl
theorem exec_yarrowSilent (dt : Nat) (s : State) : exec (.yarrowSilent dt) s = execYarrowSilent dt s := rfl
theorem exec_yrEncIllegal (dt : Nat) (s : State) : exec (.yrEncIllegal dt) s = execYrEncIllegal dt s := rfl
theorem exec_yrOpenLine (dt : Nat) (input : EncInput) (line : EncLine) (opens : Bool) (s : State) :
    exec (.yrOpenLine dt input line opens) s = execYrOpenLine dt input line opens s := rfl
theorem exec_yarrowSelfTestDone (dt region : Nat) (foreignKey foreignHash : Bytes) (s : State) :
    exec (.yarrowSelfTestDone dt region foreignKey foreignHash) s = execYarrowSelfTestDone dt region foreignKey foreignHash s := rfl
theorem exec_netFrameReceived (dt port : Nat) (f : NetFrame) (s : State) :
    exec (.netFrameReceived dt port f) s = execNetFrameReceived dt port f s := rfl
theorem exec_netLinkUp (dt port : Nat) (s : State) : exec (.netLinkUp dt port) s = execNetLinkUp dt port s := rfl
theorem exec_netLinkDown (dt port cause : Nat) (s : State) :
    exec (.netLinkDown dt port cause) s = execNetLinkDown dt port cause s := rfl
theorem exec_netConfigWrite (dt sid port v : Nat) (s : State) :
    exec (.netConfigWrite dt sid port v) s = execNetConfigWrite dt sid port v s := rfl
theorem exec_ptpSync (dt dom port sender seq : Nat) (twoStep : Bool) (origin : Nat) (corr : Int) (stamp : Nat) (logInterval : Int) (s : State) :
    exec (.ptpSync dt dom port sender seq twoStep origin corr stamp logInterval) s = execPtpSync dt dom port sender seq twoStep origin corr stamp logInterval s := rfl
theorem exec_ptpFollowUp (dt dom port sender seq origin : Nat) (corr : Int) (s : State) :
    exec (.ptpFollowUp dt dom port sender seq origin corr) s = execPtpFollowUp dt dom port sender seq origin corr s := rfl
theorem exec_ptpAnnounce (dt dom port : Nat) (a : Announce) (s : State) :
    exec (.ptpAnnounce dt dom port a) s = execPtpAnnounce dt dom port a s := rfl
theorem exec_ptpDelayResp (dt dom port sender seq time : Nat) (corr logMin : Int) (s : State) :
    exec (.ptpDelayResp dt dom port sender seq time corr logMin) s = execPtpDelayResp dt dom port sender seq time corr logMin s := rfl
theorem exec_ptpPdelayReq (dt dom port sender seq stamp : Nat) (s : State) :
    exec (.ptpPdelayReq dt dom port sender seq stamp) s = execPtpPdelayReq dt dom port sender seq stamp s := rfl
theorem exec_ptpPdelayResp (dt dom port sender seq : Nat) (followUp : Bool) (time : Nat) (corr : Int) (stamp : Nat) (s : State) :
    exec (.ptpPdelayResp dt dom port sender seq followUp time corr stamp) s = execPtpPdelayResp dt dom port sender seq followUp time corr stamp s := rfl
theorem exec_delayReqTimer (dt dom : Nat) (s : State) : exec (.delayReqTimer dt dom) s = execDelayReqTimer dt dom s := rfl
theorem exec_pdelayReqTimer (dt dom port : Nat) (s : State) :
    exec (.pdelayReqTimer dt dom port) s = execPdelayReqTimer dt dom port s := rfl
theorem exec_ptpHoldover (dt dom : Nat) (s : State) : exec (.ptpHoldover dt dom) s = execPtpHoldover dt dom s := rfl
theorem exec_tdConfigWrite (dt sid dom v : Nat) (s : State) :
    exec (.tdConfigWrite dt sid dom v) s = execTdConfigWrite dt sid dom v s := rfl
theorem exec_tdSet (dt sid dom v : Nat) (s : State) : exec (.tdSet dt sid dom v) s = execTdSet dt sid dom v s := rfl
theorem exec_timeSelectWrite (dt sid v : Nat) (s : State) :
    exec (.timeSelectWrite dt sid v) s = execTimeSelectWrite dt sid v s := rfl
theorem exec_slewEnd (dt : Nat) (s : State) : exec (.slewEnd dt) s = execSlewEnd dt s := rfl
theorem exec_hello (dt : Nat) (m : HyMsg) (s : State) : exec (.hello dt m) s = execHello dt m s := rfl
theorem exec_auth (dt : Nat) (m : HyMsg) (s : State) : exec (.auth dt m) s = execAuth dt m s := rfl
theorem exec_authBlockExpiry (dt src : Nat) (s : State) : exec (.authBlockExpiry dt src) s = execAuthBlockExpiry dt src s := rfl
theorem exec_close (dt : Nat) (m : HyMsg) (s : State) : exec (.close dt m) s = execClose dt m s := rfl
theorem exec_keepalive (dt : Nat) (m : HyMsg) (s : State) : exec (.keepalive dt m) s = execKeepalive dt m s := rfl
theorem exec_access (dt : Nat) (m : HyMsg) (s : State) : exec (.access dt m) s = execAccess dt m s := rfl
theorem exec_bulkOpen (dt : Nat) (m : HyMsg) (s : State) : exec (.bulkOpen dt m) s = execBulkOpen dt m s := rfl
theorem exec_bulkStatus (dt : Nat) (m : HyMsg) (s : State) : exec (.bulkStatus dt m) s = execBulkStatus dt m s := rfl
theorem exec_bulkClose (dt : Nat) (m : HyMsg) (s : State) : exec (.bulkClose dt m) s = execBulkClose dt m s := rfl
theorem exec_bulkChunk (dt : Nat) (datagram : Bytes) (s : State) :
    exec (.bulkChunk dt datagram) s = execBulkChunk dt datagram s := rfl
theorem exec_bulkTimeout (dt tid : Nat) (s : State) : exec (.bulkTimeout dt tid) s = execBulkTimeout dt tid s := rfl
theorem exec_subscribe (dt : Nat) (m : HyMsg) (s : State) : exec (.subscribe dt m) s = execSubscribe dt m s := rfl
theorem exec_unsubscribe (dt : Nat) (m : HyMsg) (s : State) : exec (.unsubscribe dt m) s = execUnsubscribe dt m s := rfl
theorem exec_authTimeout (dt sid : Nat) (s : State) : exec (.authTimeout dt sid) s = execAuthTimeout dt sid s := rfl
theorem exec_idleTimeout (dt sid : Nat) (s : State) : exec (.idleTimeout dt sid) s = execIdleTimeout dt sid s := rfl
theorem exec_notice (dt sid : Nat) (s : State) : exec (.notice dt sid) s = execNotice dt sid s := rfl
theorem exec_contentRelease (dt sid handle : Nat) (s : State) :
    exec (.contentRelease dt sid handle) s = execContentRelease dt sid handle s := rfl
theorem exec_dictQuery (dt sid v : Nat) (s : State) : exec (.dictQuery dt sid v) s = execDictQuery dt sid v s := rfl
theorem exec_jobMemRead (dt sid offset length : Nat) (s : State) :
    exec (.jobMemRead dt sid offset length) s = execJobMemRead dt sid offset length s := rfl
theorem exec_dictWrite (dt sid idx sub : Nat) (data : Bytes) (s : State) :
    exec (.dictWrite dt sid idx sub data) s = execDictWrite dt sid idx sub data s := rfl
theorem exec_recordWindowClose (dt k : Nat) (s : State) : exec (.recordWindowClose dt k) s = execRecordWindowClose dt k s := rfl
theorem exec_recorderClear (dt sid v : Nat) (s : State) : exec (.recorderClear dt sid v) s = execRecorderClear dt sid v s := rfl
theorem exec_storeSave (dt sid v : Nat) (s : State) : exec (.storeSave dt sid v) s = execStoreSave dt sid v s := rfl
theorem exec_storeWriteDone (dt : Nat) (good : Bool) (s : State) :
    exec (.storeWriteDone dt good) s = execStoreWriteDone dt good s := rfl
theorem exec_calLinkMeasure (dt sid v : Nat) (s : State) :
    exec (.calLinkMeasure dt sid v) s = execCalLinkMeasure dt sid v s := rfl
theorem exec_calCamStart (dt sid v : Nat) (s : State) : exec (.calCamStart dt sid v) s = execCalCamStart dt sid v s := rfl
theorem exec_camTempRead (dt cam : Nat) (v : Option Nat) (s : State) :
    exec (.camTempRead dt cam v) s = execCamTempRead dt cam v s := rfl
theorem exec_calCamStarted (dt : Nat) (s : State) : exec (.calCamStarted dt) s = execCalCamStarted dt s := rfl
theorem exec_calArmSettle (dt : Nat) (s : State) : exec (.calArmSettle dt) s = execCalArmSettle dt s := rfl
theorem exec_calFrameTrigger (dt cam : Nat) (s : State) : exec (.calFrameTrigger dt cam) s = execCalFrameTrigger dt cam s := rfl
theorem exec_modeRequestIdle (dt sid : Nat) (s : State) : exec (.modeRequestIdle dt sid) s = execModeRequestIdle dt sid s := rfl
theorem exec_modeRequestPrime (dt sid : Nat) (s : State) :
    exec (.modeRequestPrime dt sid) s = execModeRequestPrime dt sid s := rfl
theorem exec_modeRequestArmed (dt sid : Nat) (s : State) :
    exec (.modeRequestArmed dt sid) s = execModeRequestArmed dt sid s := rfl
theorem exec_modeRequestPrint (dt sid : Nat) (s : State) :
    exec (.modeRequestPrint dt sid) s = execModeRequestPrint dt sid s := rfl
theorem exec_modeRequestHold (dt sid : Nat) (s : State) : exec (.modeRequestHold dt sid) s = execModeRequestHold dt sid s := rfl
theorem exec_modeRequestCalibrate (dt sid : Nat) (s : State) :
    exec (.modeRequestCalibrate dt sid) s = execModeRequestCalibrate dt sid s := rfl
theorem exec_modeRequestService (dt sid : Nat) (s : State) :
    exec (.modeRequestService dt sid) s = execModeRequestService dt sid s := rfl
theorem exec_modeRequestVerify (dt sid : Nat) (s : State) :
    exec (.modeRequestVerify dt sid) s = execModeRequestVerify dt sid s := rfl
theorem exec_modeRequestReset (dt sid : Nat) (s : State) :
    exec (.modeRequestReset dt sid) s = execModeRequestReset dt sid s := rfl
theorem exec_modeRequestSafe (dt sid : Nat) (s : State) : exec (.modeRequestSafe dt sid) s = execModeRequestSafe dt sid s := rfl
theorem exec_stationaryStart (dt sid v : Nat) (s : State) :
    exec (.stationaryStart dt sid v) s = execStationaryStart dt sid v s := rfl
theorem exec_stationaryLine (dt : Nat) (s : State) : exec (.stationaryLine dt) s = execStationaryLine dt s := rfl
theorem exec_powerGood (dt : Nat) (s : State) : exec (.powerGood dt) s = execPowerGood dt s := rfl
theorem exec_fwVerifyDone (dt : Nat) (s : State) : exec (.fwVerifyDone dt) s = execFwVerifyDone dt s := rfl
theorem exec_dramTrainingDone (dt : Nat) (s : State) : exec (.dramTrainingDone dt) s = execDramTrainingDone dt s := rfl
theorem exec_storeLoadDone (dt : Nat) (bad : List (Nat × Nat × Nat)) (missing : Nat) (s : State) :
    exec (.storeLoadDone dt bad missing) s = execStoreLoadDone dt bad missing s := rfl
theorem exec_portGroupTrain (dt : Nat) (s : State) : exec (.portGroupTrain dt) s = execPortGroupTrain dt s := rfl
theorem exec_resetN (dt : Nat) (s : State) : exec (.resetN dt) s = execResetN dt s := rfl
theorem exec_resetRelease (dt : Nat) (s : State) : exec (.resetRelease dt) s = execResetRelease dt s := rfl
theorem exec_fwImage (dt sid : Nat) (data : Bytes) (s : State) :
    exec (.fwImage dt sid data) s = execFwImage dt sid data s := rfl
theorem exec_fwActivate (dt sid slot : Nat) (s : State) : exec (.fwActivate dt sid slot) s = execFwActivate dt sid slot s := rfl
theorem exec_fwConfirm (dt sid v : Nat) (s : State) : exec (.fwConfirm dt sid v) s = execFwConfirm dt sid v s := rfl
theorem exec_otpConfigWrite (dt sid : Nat) (block : Bytes) (good : Bool) (s : State) :
    exec (.otpConfigWrite dt sid block good) s = execOtpConfigWrite dt sid block good s := rfl
theorem exec_otpRevoke (dt sid slot : Nat) (good : Bool) (s : State) :
    exec (.otpRevoke dt sid slot good) s = execOtpRevoke dt sid slot good s := rfl
theorem exec_junctionTempRead (dt : Nat) (main yarrow dcdc : Option Int) (vin iin pin : Nat) (s : State) :
    exec (.junctionTempRead dt main yarrow dcdc vin iin pin) s = execJunctionTempRead dt main yarrow dcdc vin iin pin s := rfl
theorem exec_thermalTripRelease (dt : Nat) (s : State) : exec (.thermalTripRelease dt) s = execThermalTripRelease dt s := rfl
theorem exec_vinHigh (dt vin : Nat) (s : State) : exec (.vinHigh dt vin) s = execVinHigh dt vin s := rfl
theorem exec_railFault (dt rails : Nat) (s : State) : exec (.railFault dt rails) s = execRailFault dt rails s := rfl
theorem exec_powerFail (dt source vin : Nat) (s : State) :
    exec (.powerFail dt source vin) s = execPowerFail dt source vin s := rfl
theorem exec_powerFailHoldEnd (dt : Nat) (s : State) : exec (.powerFailHoldEnd dt) s = execPowerFailHoldEnd dt s := rfl
theorem exec_powerRestored (dt : Nat) (s : State) : exec (.powerRestored dt) s = execPowerRestored dt s := rfl
theorem exec_vinBrownout (dt : Nat) (s : State) : exec (.vinBrownout dt) s = execVinBrownout dt s := rfl
theorem exec_vinStartThreshold (dt vin : Nat) (s : State) :
    exec (.vinStartThreshold dt vin) s = execVinStartThreshold dt vin s := rfl
theorem exec_vinOutOfRange (dt side vin : Nat) (s : State) :
    exec (.vinOutOfRange dt side vin) s = execVinOutOfRange dt side vin s := rfl

end Sys2Proof.Machine
end

