-- ==== Sys2Proof/Laws/Hy.lean ====
section
/-! SUPPORT. What a request does that its session hears, and how a run of entries goes on. -/

namespace Sys2Proof.Machine

/-- A request that its session hears, in a session that is authenticated, reaches the operation it names. -/
theorem Mach.request_of_hears {m : Mach} {x : HyMsg} {op : Nat} {c : Session} {f : Session → Mach → Mach} (h : m.hears x op c)
    (ha : c.authed = true ∨ op = 2) : m.request x op f = f c (m.heard x) := by
  obtain ⟨h1, h2, h3, h4, h5, h6⟩ := h
  have h7 : x.seq ≠ c.lastSeq := by omega
  have h8 : (!c.authed && op != 2) = false := by
    rcases ha with ha | ha <;> simp [ha]
  have h9 : (x.mac != hyExpected x c.kReq op) = false := by simp [← h5]
  have h10 : (x.seq != c.lastSeq + 1) = false := by simp [h6]
  have h11 : (decide (x.seq = c.lastSeq) && decide (x.mac = c.lastMac)) = false := by simp [h7]
  unfold Mach.request Mach.heard
  rw [h1, h2, h3, h4]
  simp only [h8, h9, h10, h11]
  rfl

end Sys2Proof.Machine
end

