-- ==== Sys2Proof/Laws/State.lean ====
section
/-! SUPPORT. One lemma for each field and each update of the shared operations: what the update leaves, and what it puts
there. No later proof unfolds a record update. -/

namespace Sys2Proof.Machine

/-- With nothing on its way to a lane, time passes and no more. -/
theorem tick_idle {m : Mach} (h : m.lanesIdle = true) (dt : Nat) : tick dt m = { m with now := m.now + dt, out := [] } := by
  simp [tick, h]

@[simp] theorem tick_now (dt : Nat) (m : Mach) : (tick dt m).now = m.now + dt := by
  unfold tick; split <;> rfl
@[simp] theorem tick_linkOfs {m : Mach} (h : m.lanesIdle = true) (dt : Nat) : (tick dt m).linkOfs = m.linkOfs := by rw [tick_idle h]
@[simp] theorem tick_out {m : Mach} (h : m.lanesIdle = true) (dt : Nat) : (tick dt m).out = [] := by rw [tick_idle h]
@[simp] theorem tick_free {m : Mach} (h : m.lanesIdle = true) (dt : Nat) : (tick dt m).free = m.free := by rw [tick_idle h]
@[simp] theorem tick_recorder {m : Mach} (h : m.lanesIdle = true) (dt : Nat) : (tick dt m).recorder = m.recorder := by rw [tick_idle h]
@[simp] theorem tick_dict {m : Mach} (h : m.lanesIdle = true) (dt : Nat) : (tick dt m).dict = m.dict := by rw [tick_idle h]
@[simp] theorem tick_hy {m : Mach} (h : m.lanesIdle = true) (dt : Nat) : (tick dt m).hy = m.hy := by rw [tick_idle h]
@[simp] theorem tick_enc {m : Mach} (h : m.lanesIdle = true) (dt : Nat) : (tick dt m).enc = m.enc := by rw [tick_idle h]
@[simp] theorem tick_psos {m : Mach} (h : m.lanesIdle = true) (dt : Nat) : (tick dt m).psos = m.psos := by rw [tick_idle h]
@[simp] theorem tick_seams {m : Mach} (h : m.lanesIdle = true) (dt : Nat) : (tick dt m).seams = m.seams := by rw [tick_idle h]
@[simp] theorem tick_comp {m : Mach} (h : m.lanesIdle = true) (dt : Nat) : (tick dt m).comp = m.comp := by rw [tick_idle h]
@[simp] theorem tick_ports {m : Mach} (h : m.lanesIdle = true) (dt : Nat) : (tick dt m).ports = m.ports := by rw [tick_idle h]
@[simp] theorem tick_gate {m : Mach} (h : m.lanesIdle = true) (dt : Nat) : (tick dt m).gate = m.gate := by rw [tick_idle h]
@[simp] theorem tick_sys {m : Mach} (h : m.lanesIdle = true) (dt : Nat) : (tick dt m).sys = m.sys := by rw [tick_idle h]
@[simp] theorem tick_store {m : Mach} (h : m.lanesIdle = true) (dt : Nat) : (tick dt m).store = m.store := by rw [tick_idle h]
@[simp] theorem tick_cams {m : Mach} (h : m.lanesIdle = true) (dt : Nat) : (tick dt m).cams = m.cams := by rw [tick_idle h]
@[simp] theorem tick_cal {m : Mach} (h : m.lanesIdle = true) (dt : Nat) : (tick dt m).cal = m.cal := by rw [tick_idle h]
@[simp] theorem tick_loop {m : Mach} (h : m.lanesIdle = true) (dt : Nat) : (tick dt m).loop = m.loop := by rw [tick_idle h]
@[simp] theorem tick_frc {m : Mach} (h : m.lanesIdle = true) (dt : Nat) : (tick dt m).frc = m.frc := by rw [tick_idle h]
@[simp] theorem tick_mem {m : Mach} (h : m.lanesIdle = true) (dt : Nat) : (tick dt m).mem = m.mem := by rw [tick_idle h]
@[simp] theorem tick_cpu {m : Mach} (h : m.lanesIdle = true) (dt : Nat) : (tick dt m).cpu = m.cpu := by rw [tick_idle h]
@[simp] theorem tick_pair {m : Mach} (h : m.lanesIdle = true) (dt : Nat) : (tick dt m).pair = m.pair := by rw [tick_idle h]
@[simp] theorem tick_yarrow {m : Mach} (h : m.lanesIdle = true) (dt : Nat) : (tick dt m).yarrow = m.yarrow := by rw [tick_idle h]
@[simp] theorem tick_time {m : Mach} (h : m.lanesIdle = true) (dt : Nat) : (tick dt m).time = m.time := by rw [tick_idle h]
@[simp] theorem tick_power {m : Mach} (h : m.lanesIdle = true) (dt : Nat) : (tick dt m).power = m.power := by rw [tick_idle h]

@[simp] theorem Mach.emit_now (m : Mach) (o : Out) : (m.emit o).now = m.now := rfl
@[simp] theorem Mach.emit_linkOfs (m : Mach) (o : Out) : (m.emit o).linkOfs = m.linkOfs := rfl
@[simp] theorem Mach.emit_out (m : Mach) (o : Out) : (m.emit o).out = m.out ++ [o] := rfl
@[simp] theorem Mach.emit_free (m : Mach) (o : Out) : (m.emit o).free = m.free := rfl
@[simp] theorem Mach.emit_recorder (m : Mach) (o : Out) : (m.emit o).recorder = m.recorder := rfl
@[simp] theorem Mach.emit_dict (m : Mach) (o : Out) : (m.emit o).dict = m.dict := rfl
@[simp] theorem Mach.emit_hy (m : Mach) (o : Out) : (m.emit o).hy = m.hy := rfl
@[simp] theorem Mach.emit_enc (m : Mach) (o : Out) : (m.emit o).enc = m.enc := rfl
@[simp] theorem Mach.emit_psos (m : Mach) (o : Out) : (m.emit o).psos = m.psos := rfl
@[simp] theorem Mach.emit_seams (m : Mach) (o : Out) : (m.emit o).seams = m.seams := rfl
@[simp] theorem Mach.emit_comp (m : Mach) (o : Out) : (m.emit o).comp = m.comp := rfl
@[simp] theorem Mach.emit_ports (m : Mach) (o : Out) : (m.emit o).ports = m.ports := rfl
@[simp] theorem Mach.emit_gate (m : Mach) (o : Out) : (m.emit o).gate = m.gate := rfl
@[simp] theorem Mach.emit_sys (m : Mach) (o : Out) : (m.emit o).sys = m.sys := rfl
@[simp] theorem Mach.emit_store (m : Mach) (o : Out) : (m.emit o).store = m.store := rfl
@[simp] theorem Mach.emit_cams (m : Mach) (o : Out) : (m.emit o).cams = m.cams := rfl
@[simp] theorem Mach.emit_cal (m : Mach) (o : Out) : (m.emit o).cal = m.cal := rfl
@[simp] theorem Mach.emit_loop (m : Mach) (o : Out) : (m.emit o).loop = m.loop := rfl
@[simp] theorem Mach.emit_frc (m : Mach) (o : Out) : (m.emit o).frc = m.frc := rfl
@[simp] theorem Mach.emit_mem (m : Mach) (o : Out) : (m.emit o).mem = m.mem := rfl
@[simp] theorem Mach.emit_cpu (m : Mach) (o : Out) : (m.emit o).cpu = m.cpu := rfl
@[simp] theorem Mach.emit_pair (m : Mach) (o : Out) : (m.emit o).pair = m.pair := rfl
@[simp] theorem Mach.emit_yarrow (m : Mach) (o : Out) : (m.emit o).yarrow = m.yarrow := rfl
@[simp] theorem Mach.emit_time (m : Mach) (o : Out) : (m.emit o).time = m.time := rfl
@[simp] theorem Mach.emit_power (m : Mach) (o : Out) : (m.emit o).power = m.power := rfl

@[simp] theorem Mach.reply_now (m : Mach) (w : Who) (idx sub : Nat) (st : Status) : (m.reply w idx sub st).now = m.now := rfl
@[simp] theorem Mach.reply_linkOfs (m : Mach) (w : Who) (idx sub : Nat) (st : Status) : (m.reply w idx sub st).linkOfs = m.linkOfs := rfl
@[simp] theorem Mach.reply_out (m : Mach) (w : Who) (idx sub : Nat) (st : Status) : (m.reply w idx sub st).out = m.out ++ [.answer w idx sub st] := rfl
@[simp] theorem Mach.reply_free (m : Mach) (w : Who) (idx sub : Nat) (st : Status) : (m.reply w idx sub st).free = m.free := rfl
@[simp] theorem Mach.reply_recorder (m : Mach) (w : Who) (idx sub : Nat) (st : Status) : (m.reply w idx sub st).recorder = m.recorder := rfl
@[simp] theorem Mach.reply_dict (m : Mach) (w : Who) (idx sub : Nat) (st : Status) : (m.reply w idx sub st).dict = m.dict := rfl
@[simp] theorem Mach.reply_hy (m : Mach) (w : Who) (idx sub : Nat) (st : Status) : (m.reply w idx sub st).hy = m.hy := rfl
@[simp] theorem Mach.reply_enc (m : Mach) (w : Who) (idx sub : Nat) (st : Status) : (m.reply w idx sub st).enc = m.enc := rfl
@[simp] theorem Mach.reply_psos (m : Mach) (w : Who) (idx sub : Nat) (st : Status) : (m.reply w idx sub st).psos = m.psos := rfl
@[simp] theorem Mach.reply_seams (m : Mach) (w : Who) (idx sub : Nat) (st : Status) : (m.reply w idx sub st).seams = m.seams := rfl
@[simp] theorem Mach.reply_comp (m : Mach) (w : Who) (idx sub : Nat) (st : Status) : (m.reply w idx sub st).comp = m.comp := rfl
@[simp] theorem Mach.reply_ports (m : Mach) (w : Who) (idx sub : Nat) (st : Status) : (m.reply w idx sub st).ports = m.ports := rfl
@[simp] theorem Mach.reply_gate (m : Mach) (w : Who) (idx sub : Nat) (st : Status) : (m.reply w idx sub st).gate = m.gate := rfl
@[simp] theorem Mach.reply_sys (m : Mach) (w : Who) (idx sub : Nat) (st : Status) : (m.reply w idx sub st).sys = m.sys := rfl
@[simp] theorem Mach.reply_store (m : Mach) (w : Who) (idx sub : Nat) (st : Status) : (m.reply w idx sub st).store = m.store := rfl
@[simp] theorem Mach.reply_cams (m : Mach) (w : Who) (idx sub : Nat) (st : Status) : (m.reply w idx sub st).cams = m.cams := rfl
@[simp] theorem Mach.reply_cal (m : Mach) (w : Who) (idx sub : Nat) (st : Status) : (m.reply w idx sub st).cal = m.cal := rfl
@[simp] theorem Mach.reply_loop (m : Mach) (w : Who) (idx sub : Nat) (st : Status) : (m.reply w idx sub st).loop = m.loop := rfl
@[simp] theorem Mach.reply_frc (m : Mach) (w : Who) (idx sub : Nat) (st : Status) : (m.reply w idx sub st).frc = m.frc := rfl
@[simp] theorem Mach.reply_mem (m : Mach) (w : Who) (idx sub : Nat) (st : Status) : (m.reply w idx sub st).mem = m.mem := rfl
@[simp] theorem Mach.reply_cpu (m : Mach) (w : Who) (idx sub : Nat) (st : Status) : (m.reply w idx sub st).cpu = m.cpu := rfl
@[simp] theorem Mach.reply_pair (m : Mach) (w : Who) (idx sub : Nat) (st : Status) : (m.reply w idx sub st).pair = m.pair := rfl
@[simp] theorem Mach.reply_yarrow (m : Mach) (w : Who) (idx sub : Nat) (st : Status) : (m.reply w idx sub st).yarrow = m.yarrow := rfl
@[simp] theorem Mach.reply_time (m : Mach) (w : Who) (idx sub : Nat) (st : Status) : (m.reply w idx sub st).time = m.time := rfl
@[simp] theorem Mach.reply_power (m : Mach) (w : Who) (idx sub : Nat) (st : Status) : (m.reply w idx sub st).power = m.power := rfl

@[simp] theorem Mach.drawn_now (m : Mach) : (m.drawn).now = m.now := rfl
@[simp] theorem Mach.drawn_linkOfs (m : Mach) : (m.drawn).linkOfs = m.linkOfs := rfl
@[simp] theorem Mach.drawn_out (m : Mach) : (m.drawn).out = m.out := rfl
@[simp] theorem Mach.drawn_free (m : Mach) : (m.drawn).free = m.free + 1 := rfl
@[simp] theorem Mach.drawn_recorder (m : Mach) : (m.drawn).recorder = m.recorder := rfl
@[simp] theorem Mach.drawn_dict (m : Mach) : (m.drawn).dict = m.dict := rfl
@[simp] theorem Mach.drawn_hy (m : Mach) : (m.drawn).hy = m.hy := rfl
@[simp] theorem Mach.drawn_enc (m : Mach) : (m.drawn).enc = m.enc := rfl
@[simp] theorem Mach.drawn_psos (m : Mach) : (m.drawn).psos = m.psos := rfl
@[simp] theorem Mach.drawn_seams (m : Mach) : (m.drawn).seams = m.seams := rfl
@[simp] theorem Mach.drawn_comp (m : Mach) : (m.drawn).comp = m.comp := rfl
@[simp] theorem Mach.drawn_ports (m : Mach) : (m.drawn).ports = m.ports := rfl
@[simp] theorem Mach.drawn_gate (m : Mach) : (m.drawn).gate = m.gate := rfl
@[simp] theorem Mach.drawn_sys (m : Mach) : (m.drawn).sys = m.sys := rfl
@[simp] theorem Mach.drawn_store (m : Mach) : (m.drawn).store = m.store := rfl
@[simp] theorem Mach.drawn_cams (m : Mach) : (m.drawn).cams = m.cams := rfl
@[simp] theorem Mach.drawn_cal (m : Mach) : (m.drawn).cal = m.cal := rfl
@[simp] theorem Mach.drawn_loop (m : Mach) : (m.drawn).loop = m.loop := rfl
@[simp] theorem Mach.drawn_frc (m : Mach) : (m.drawn).frc = m.frc := rfl
@[simp] theorem Mach.drawn_mem (m : Mach) : (m.drawn).mem = m.mem := rfl
@[simp] theorem Mach.drawn_cpu (m : Mach) : (m.drawn).cpu = m.cpu := rfl
@[simp] theorem Mach.drawn_pair (m : Mach) : (m.drawn).pair = m.pair := rfl
@[simp] theorem Mach.drawn_yarrow (m : Mach) : (m.drawn).yarrow = m.yarrow := rfl
@[simp] theorem Mach.drawn_time (m : Mach) : (m.drawn).time = m.time := rfl
@[simp] theorem Mach.drawn_power (m : Mach) : (m.drawn).power = m.power := rfl

@[simp] theorem Mach.setNum_now (m : Mach) (idx sub inst : Nat) (v : Int) : (m.setNum idx sub inst v).now = m.now := rfl
@[simp] theorem Mach.setNum_linkOfs (m : Mach) (idx sub inst : Nat) (v : Int) : (m.setNum idx sub inst v).linkOfs = m.linkOfs := rfl
@[simp] theorem Mach.setNum_out (m : Mach) (idx sub inst : Nat) (v : Int) : (m.setNum idx sub inst v).out = m.out := rfl
@[simp] theorem Mach.setNum_free (m : Mach) (idx sub inst : Nat) (v : Int) : (m.setNum idx sub inst v).free = m.free := rfl
@[simp] theorem Mach.setNum_recorder (m : Mach) (idx sub inst : Nat) (v : Int) : (m.setNum idx sub inst v).recorder = m.recorder := rfl
@[simp] theorem Mach.setNum_dict (m : Mach) (idx sub inst : Nat) (v : Int) : (m.setNum idx sub inst v).dict = { m.dict with nums := fset m.dict.nums (okey idx sub inst) v } := rfl
@[simp] theorem Mach.setNum_hy (m : Mach) (idx sub inst : Nat) (v : Int) : (m.setNum idx sub inst v).hy = m.hy := rfl
@[simp] theorem Mach.setNum_enc (m : Mach) (idx sub inst : Nat) (v : Int) : (m.setNum idx sub inst v).enc = m.enc := rfl
@[simp] theorem Mach.setNum_psos (m : Mach) (idx sub inst : Nat) (v : Int) : (m.setNum idx sub inst v).psos = m.psos := rfl
@[simp] theorem Mach.setNum_seams (m : Mach) (idx sub inst : Nat) (v : Int) : (m.setNum idx sub inst v).seams = m.seams := rfl
@[simp] theorem Mach.setNum_comp (m : Mach) (idx sub inst : Nat) (v : Int) : (m.setNum idx sub inst v).comp = m.comp := rfl
@[simp] theorem Mach.setNum_ports (m : Mach) (idx sub inst : Nat) (v : Int) : (m.setNum idx sub inst v).ports = m.ports := rfl
@[simp] theorem Mach.setNum_gate (m : Mach) (idx sub inst : Nat) (v : Int) : (m.setNum idx sub inst v).gate = m.gate := rfl
@[simp] theorem Mach.setNum_sys (m : Mach) (idx sub inst : Nat) (v : Int) : (m.setNum idx sub inst v).sys = m.sys := rfl
@[simp] theorem Mach.setNum_store (m : Mach) (idx sub inst : Nat) (v : Int) : (m.setNum idx sub inst v).store = m.store := rfl
@[simp] theorem Mach.setNum_cams (m : Mach) (idx sub inst : Nat) (v : Int) : (m.setNum idx sub inst v).cams = m.cams := rfl
@[simp] theorem Mach.setNum_cal (m : Mach) (idx sub inst : Nat) (v : Int) : (m.setNum idx sub inst v).cal = m.cal := rfl
@[simp] theorem Mach.setNum_loop (m : Mach) (idx sub inst : Nat) (v : Int) : (m.setNum idx sub inst v).loop = m.loop := rfl
@[simp] theorem Mach.setNum_frc (m : Mach) (idx sub inst : Nat) (v : Int) : (m.setNum idx sub inst v).frc = m.frc := rfl
@[simp] theorem Mach.setNum_mem (m : Mach) (idx sub inst : Nat) (v : Int) : (m.setNum idx sub inst v).mem = m.mem := rfl
@[simp] theorem Mach.setNum_cpu (m : Mach) (idx sub inst : Nat) (v : Int) : (m.setNum idx sub inst v).cpu = m.cpu := rfl
@[simp] theorem Mach.setNum_pair (m : Mach) (idx sub inst : Nat) (v : Int) : (m.setNum idx sub inst v).pair = m.pair := rfl
@[simp] theorem Mach.setNum_yarrow (m : Mach) (idx sub inst : Nat) (v : Int) : (m.setNum idx sub inst v).yarrow = m.yarrow := rfl
@[simp] theorem Mach.setNum_time (m : Mach) (idx sub inst : Nat) (v : Int) : (m.setNum idx sub inst v).time = m.time := rfl
@[simp] theorem Mach.setNum_power (m : Mach) (idx sub inst : Nat) (v : Int) : (m.setNum idx sub inst v).power = m.power := rfl

@[simp] theorem Mach.setBlob_now (m : Mach) (idx sub inst : Nat) (b : Bytes) : (m.setBlob idx sub inst b).now = m.now := rfl
@[simp] theorem Mach.setBlob_linkOfs (m : Mach) (idx sub inst : Nat) (b : Bytes) : (m.setBlob idx sub inst b).linkOfs = m.linkOfs := rfl
@[simp] theorem Mach.setBlob_out (m : Mach) (idx sub inst : Nat) (b : Bytes) : (m.setBlob idx sub inst b).out = m.out := rfl
@[simp] theorem Mach.setBlob_free (m : Mach) (idx sub inst : Nat) (b : Bytes) : (m.setBlob idx sub inst b).free = m.free := rfl
@[simp] theorem Mach.setBlob_recorder (m : Mach) (idx sub inst : Nat) (b : Bytes) : (m.setBlob idx sub inst b).recorder = m.recorder := rfl
@[simp] theorem Mach.setBlob_dict (m : Mach) (idx sub inst : Nat) (b : Bytes) : (m.setBlob idx sub inst b).dict = { m.dict with blobs := fset m.dict.blobs (okey idx sub inst) b } := rfl
@[simp] theorem Mach.setBlob_hy (m : Mach) (idx sub inst : Nat) (b : Bytes) : (m.setBlob idx sub inst b).hy = m.hy := rfl
@[simp] theorem Mach.setBlob_enc (m : Mach) (idx sub inst : Nat) (b : Bytes) : (m.setBlob idx sub inst b).enc = m.enc := rfl
@[simp] theorem Mach.setBlob_psos (m : Mach) (idx sub inst : Nat) (b : Bytes) : (m.setBlob idx sub inst b).psos = m.psos := rfl
@[simp] theorem Mach.setBlob_seams (m : Mach) (idx sub inst : Nat) (b : Bytes) : (m.setBlob idx sub inst b).seams = m.seams := rfl
@[simp] theorem Mach.setBlob_comp (m : Mach) (idx sub inst : Nat) (b : Bytes) : (m.setBlob idx sub inst b).comp = m.comp := rfl
@[simp] theorem Mach.setBlob_ports (m : Mach) (idx sub inst : Nat) (b : Bytes) : (m.setBlob idx sub inst b).ports = m.ports := rfl
@[simp] theorem Mach.setBlob_gate (m : Mach) (idx sub inst : Nat) (b : Bytes) : (m.setBlob idx sub inst b).gate = m.gate := rfl
@[simp] theorem Mach.setBlob_sys (m : Mach) (idx sub inst : Nat) (b : Bytes) : (m.setBlob idx sub inst b).sys = m.sys := rfl
@[simp] theorem Mach.setBlob_store (m : Mach) (idx sub inst : Nat) (b : Bytes) : (m.setBlob idx sub inst b).store = m.store := rfl
@[simp] theorem Mach.setBlob_cams (m : Mach) (idx sub inst : Nat) (b : Bytes) : (m.setBlob idx sub inst b).cams = m.cams := rfl
@[simp] theorem Mach.setBlob_cal (m : Mach) (idx sub inst : Nat) (b : Bytes) : (m.setBlob idx sub inst b).cal = m.cal := rfl
@[simp] theorem Mach.setBlob_loop (m : Mach) (idx sub inst : Nat) (b : Bytes) : (m.setBlob idx sub inst b).loop = m.loop := rfl
@[simp] theorem Mach.setBlob_frc (m : Mach) (idx sub inst : Nat) (b : Bytes) : (m.setBlob idx sub inst b).frc = m.frc := rfl
@[simp] theorem Mach.setBlob_mem (m : Mach) (idx sub inst : Nat) (b : Bytes) : (m.setBlob idx sub inst b).mem = m.mem := rfl
@[simp] theorem Mach.setBlob_cpu (m : Mach) (idx sub inst : Nat) (b : Bytes) : (m.setBlob idx sub inst b).cpu = m.cpu := rfl
@[simp] theorem Mach.setBlob_pair (m : Mach) (idx sub inst : Nat) (b : Bytes) : (m.setBlob idx sub inst b).pair = m.pair := rfl
@[simp] theorem Mach.setBlob_yarrow (m : Mach) (idx sub inst : Nat) (b : Bytes) : (m.setBlob idx sub inst b).yarrow = m.yarrow := rfl
@[simp] theorem Mach.setBlob_time (m : Mach) (idx sub inst : Nat) (b : Bytes) : (m.setBlob idx sub inst b).time = m.time := rfl
@[simp] theorem Mach.setBlob_power (m : Mach) (idx sub inst : Nat) (b : Bytes) : (m.setBlob idx sub inst b).power = m.power := rfl

@[simp] theorem Mach.onPort_now (m : Mach) (p : Nat) (f : Port → Port) : (m.onPort p f).now = m.now := rfl
@[simp] theorem Mach.onPort_linkOfs (m : Mach) (p : Nat) (f : Port → Port) : (m.onPort p f).linkOfs = m.linkOfs := rfl
@[simp] theorem Mach.onPort_out (m : Mach) (p : Nat) (f : Port → Port) : (m.onPort p f).out = m.out := rfl
@[simp] theorem Mach.onPort_free (m : Mach) (p : Nat) (f : Port → Port) : (m.onPort p f).free = m.free := rfl
@[simp] theorem Mach.onPort_recorder (m : Mach) (p : Nat) (f : Port → Port) : (m.onPort p f).recorder = m.recorder := rfl
@[simp] theorem Mach.onPort_dict (m : Mach) (p : Nat) (f : Port → Port) : (m.onPort p f).dict = m.dict := rfl
@[simp] theorem Mach.onPort_hy (m : Mach) (p : Nat) (f : Port → Port) : (m.onPort p f).hy = m.hy := rfl
@[simp] theorem Mach.onPort_enc (m : Mach) (p : Nat) (f : Port → Port) : (m.onPort p f).enc = m.enc := rfl
@[simp] theorem Mach.onPort_psos (m : Mach) (p : Nat) (f : Port → Port) : (m.onPort p f).psos = m.psos := rfl
@[simp] theorem Mach.onPort_seams (m : Mach) (p : Nat) (f : Port → Port) : (m.onPort p f).seams = m.seams := rfl
@[simp] theorem Mach.onPort_comp (m : Mach) (p : Nat) (f : Port → Port) : (m.onPort p f).comp = m.comp := rfl
@[simp] theorem Mach.onPort_ports (m : Mach) (p : Nat) (f : Port → Port) : (m.onPort p f).ports = fupd m.ports p {} f := rfl
@[simp] theorem Mach.onPort_gate (m : Mach) (p : Nat) (f : Port → Port) : (m.onPort p f).gate = m.gate := rfl
@[simp] theorem Mach.onPort_sys (m : Mach) (p : Nat) (f : Port → Port) : (m.onPort p f).sys = m.sys := rfl
@[simp] theorem Mach.onPort_store (m : Mach) (p : Nat) (f : Port → Port) : (m.onPort p f).store = m.store := rfl
@[simp] theorem Mach.onPort_cams (m : Mach) (p : Nat) (f : Port → Port) : (m.onPort p f).cams = m.cams := rfl
@[simp] theorem Mach.onPort_cal (m : Mach) (p : Nat) (f : Port → Port) : (m.onPort p f).cal = m.cal := rfl
@[simp] theorem Mach.onPort_loop (m : Mach) (p : Nat) (f : Port → Port) : (m.onPort p f).loop = m.loop := rfl
@[simp] theorem Mach.onPort_frc (m : Mach) (p : Nat) (f : Port → Port) : (m.onPort p f).frc = m.frc := rfl
@[simp] theorem Mach.onPort_mem (m : Mach) (p : Nat) (f : Port → Port) : (m.onPort p f).mem = m.mem := rfl
@[simp] theorem Mach.onPort_cpu (m : Mach) (p : Nat) (f : Port → Port) : (m.onPort p f).cpu = m.cpu := rfl
@[simp] theorem Mach.onPort_pair (m : Mach) (p : Nat) (f : Port → Port) : (m.onPort p f).pair = m.pair := rfl
@[simp] theorem Mach.onPort_yarrow (m : Mach) (p : Nat) (f : Port → Port) : (m.onPort p f).yarrow = m.yarrow := rfl
@[simp] theorem Mach.onPort_time (m : Mach) (p : Nat) (f : Port → Port) : (m.onPort p f).time = m.time := rfl
@[simp] theorem Mach.onPort_power (m : Mach) (p : Nat) (f : Port → Port) : (m.onPort p f).power = m.power := rfl

@[simp] theorem Mach.onLink_now (m : Mach) (p : Nat) (f : Link → Link) : (m.onLink p f).now = m.now := rfl
@[simp] theorem Mach.onLink_linkOfs (m : Mach) (p : Nat) (f : Link → Link) : (m.onLink p f).linkOfs = m.linkOfs := rfl
@[simp] theorem Mach.onLink_out (m : Mach) (p : Nat) (f : Link → Link) : (m.onLink p f).out = m.out := rfl
@[simp] theorem Mach.onLink_free (m : Mach) (p : Nat) (f : Link → Link) : (m.onLink p f).free = m.free := rfl
@[simp] theorem Mach.onLink_recorder (m : Mach) (p : Nat) (f : Link → Link) : (m.onLink p f).recorder = m.recorder := rfl
@[simp] theorem Mach.onLink_dict (m : Mach) (p : Nat) (f : Link → Link) : (m.onLink p f).dict = m.dict := rfl
@[simp] theorem Mach.onLink_hy (m : Mach) (p : Nat) (f : Link → Link) : (m.onLink p f).hy = m.hy := rfl
@[simp] theorem Mach.onLink_enc (m : Mach) (p : Nat) (f : Link → Link) : (m.onLink p f).enc = m.enc := rfl
@[simp] theorem Mach.onLink_psos (m : Mach) (p : Nat) (f : Link → Link) : (m.onLink p f).psos = m.psos := rfl
@[simp] theorem Mach.onLink_seams (m : Mach) (p : Nat) (f : Link → Link) : (m.onLink p f).seams = m.seams := rfl
@[simp] theorem Mach.onLink_comp (m : Mach) (p : Nat) (f : Link → Link) : (m.onLink p f).comp = m.comp := rfl
@[simp] theorem Mach.onLink_ports (m : Mach) (p : Nat) (f : Link → Link) : (m.onLink p f).ports = fupd m.ports p {} (fun x => { x with link := f x.link }) := rfl
@[simp] theorem Mach.onLink_gate (m : Mach) (p : Nat) (f : Link → Link) : (m.onLink p f).gate = m.gate := rfl
@[simp] theorem Mach.onLink_sys (m : Mach) (p : Nat) (f : Link → Link) : (m.onLink p f).sys = m.sys := rfl
@[simp] theorem Mach.onLink_store (m : Mach) (p : Nat) (f : Link → Link) : (m.onLink p f).store = m.store := rfl
@[simp] theorem Mach.onLink_cams (m : Mach) (p : Nat) (f : Link → Link) : (m.onLink p f).cams = m.cams := rfl
@[simp] theorem Mach.onLink_cal (m : Mach) (p : Nat) (f : Link → Link) : (m.onLink p f).cal = m.cal := rfl
@[simp] theorem Mach.onLink_loop (m : Mach) (p : Nat) (f : Link → Link) : (m.onLink p f).loop = m.loop := rfl
@[simp] theorem Mach.onLink_frc (m : Mach) (p : Nat) (f : Link → Link) : (m.onLink p f).frc = m.frc := rfl
@[simp] theorem Mach.onLink_mem (m : Mach) (p : Nat) (f : Link → Link) : (m.onLink p f).mem = m.mem := rfl
@[simp] theorem Mach.onLink_cpu (m : Mach) (p : Nat) (f : Link → Link) : (m.onLink p f).cpu = m.cpu := rfl
@[simp] theorem Mach.onLink_pair (m : Mach) (p : Nat) (f : Link → Link) : (m.onLink p f).pair = m.pair := rfl
@[simp] theorem Mach.onLink_yarrow (m : Mach) (p : Nat) (f : Link → Link) : (m.onLink p f).yarrow = m.yarrow := rfl
@[simp] theorem Mach.onLink_time (m : Mach) (p : Nat) (f : Link → Link) : (m.onLink p f).time = m.time := rfl
@[simp] theorem Mach.onLink_power (m : Mach) (p : Nat) (f : Link → Link) : (m.onLink p f).power = m.power := rfl

@[simp] theorem Mach.onTx_now (m : Mach) (p : Nat) (f : Transport → Transport) : (m.onTx p f).now = m.now := rfl
@[simp] theorem Mach.onTx_linkOfs (m : Mach) (p : Nat) (f : Transport → Transport) : (m.onTx p f).linkOfs = m.linkOfs := rfl
@[simp] theorem Mach.onTx_out (m : Mach) (p : Nat) (f : Transport → Transport) : (m.onTx p f).out = m.out := rfl
@[simp] theorem Mach.onTx_free (m : Mach) (p : Nat) (f : Transport → Transport) : (m.onTx p f).free = m.free := rfl
@[simp] theorem Mach.onTx_recorder (m : Mach) (p : Nat) (f : Transport → Transport) : (m.onTx p f).recorder = m.recorder := rfl
@[simp] theorem Mach.onTx_dict (m : Mach) (p : Nat) (f : Transport → Transport) : (m.onTx p f).dict = m.dict := rfl
@[simp] theorem Mach.onTx_hy (m : Mach) (p : Nat) (f : Transport → Transport) : (m.onTx p f).hy = m.hy := rfl
@[simp] theorem Mach.onTx_enc (m : Mach) (p : Nat) (f : Transport → Transport) : (m.onTx p f).enc = m.enc := rfl
@[simp] theorem Mach.onTx_psos (m : Mach) (p : Nat) (f : Transport → Transport) : (m.onTx p f).psos = m.psos := rfl
@[simp] theorem Mach.onTx_seams (m : Mach) (p : Nat) (f : Transport → Transport) : (m.onTx p f).seams = m.seams := rfl
@[simp] theorem Mach.onTx_comp (m : Mach) (p : Nat) (f : Transport → Transport) : (m.onTx p f).comp = m.comp := rfl
@[simp] theorem Mach.onTx_ports (m : Mach) (p : Nat) (f : Transport → Transport) : (m.onTx p f).ports = fupd m.ports p {} (fun x => { x with tx := f x.tx }) := rfl
@[simp] theorem Mach.onTx_gate (m : Mach) (p : Nat) (f : Transport → Transport) : (m.onTx p f).gate = m.gate := rfl
@[simp] theorem Mach.onTx_sys (m : Mach) (p : Nat) (f : Transport → Transport) : (m.onTx p f).sys = m.sys := rfl
@[simp] theorem Mach.onTx_store (m : Mach) (p : Nat) (f : Transport → Transport) : (m.onTx p f).store = m.store := rfl
@[simp] theorem Mach.onTx_cams (m : Mach) (p : Nat) (f : Transport → Transport) : (m.onTx p f).cams = m.cams := rfl
@[simp] theorem Mach.onTx_cal (m : Mach) (p : Nat) (f : Transport → Transport) : (m.onTx p f).cal = m.cal := rfl
@[simp] theorem Mach.onTx_loop (m : Mach) (p : Nat) (f : Transport → Transport) : (m.onTx p f).loop = m.loop := rfl
@[simp] theorem Mach.onTx_frc (m : Mach) (p : Nat) (f : Transport → Transport) : (m.onTx p f).frc = m.frc := rfl
@[simp] theorem Mach.onTx_mem (m : Mach) (p : Nat) (f : Transport → Transport) : (m.onTx p f).mem = m.mem := rfl
@[simp] theorem Mach.onTx_cpu (m : Mach) (p : Nat) (f : Transport → Transport) : (m.onTx p f).cpu = m.cpu := rfl
@[simp] theorem Mach.onTx_pair (m : Mach) (p : Nat) (f : Transport → Transport) : (m.onTx p f).pair = m.pair := rfl
@[simp] theorem Mach.onTx_yarrow (m : Mach) (p : Nat) (f : Transport → Transport) : (m.onTx p f).yarrow = m.yarrow := rfl
@[simp] theorem Mach.onTx_time (m : Mach) (p : Nat) (f : Transport → Transport) : (m.onTx p f).time = m.time := rfl
@[simp] theorem Mach.onTx_power (m : Mach) (p : Nat) (f : Transport → Transport) : (m.onTx p f).power = m.power := rfl

@[simp] theorem Mach.onFire_now (m : Mach) (p : Nat) (f : FirePort → FirePort) : (m.onFire p f).now = m.now := rfl
@[simp] theorem Mach.onFire_linkOfs (m : Mach) (p : Nat) (f : FirePort → FirePort) : (m.onFire p f).linkOfs = m.linkOfs := rfl
@[simp] theorem Mach.onFire_out (m : Mach) (p : Nat) (f : FirePort → FirePort) : (m.onFire p f).out = m.out := rfl
@[simp] theorem Mach.onFire_free (m : Mach) (p : Nat) (f : FirePort → FirePort) : (m.onFire p f).free = m.free := rfl
@[simp] theorem Mach.onFire_recorder (m : Mach) (p : Nat) (f : FirePort → FirePort) : (m.onFire p f).recorder = m.recorder := rfl
@[simp] theorem Mach.onFire_dict (m : Mach) (p : Nat) (f : FirePort → FirePort) : (m.onFire p f).dict = m.dict := rfl
@[simp] theorem Mach.onFire_hy (m : Mach) (p : Nat) (f : FirePort → FirePort) : (m.onFire p f).hy = m.hy := rfl
@[simp] theorem Mach.onFire_enc (m : Mach) (p : Nat) (f : FirePort → FirePort) : (m.onFire p f).enc = m.enc := rfl
@[simp] theorem Mach.onFire_psos (m : Mach) (p : Nat) (f : FirePort → FirePort) : (m.onFire p f).psos = m.psos := rfl
@[simp] theorem Mach.onFire_seams (m : Mach) (p : Nat) (f : FirePort → FirePort) : (m.onFire p f).seams = m.seams := rfl
@[simp] theorem Mach.onFire_comp (m : Mach) (p : Nat) (f : FirePort → FirePort) : (m.onFire p f).comp = m.comp := rfl
@[simp] theorem Mach.onFire_ports (m : Mach) (p : Nat) (f : FirePort → FirePort) : (m.onFire p f).ports = fupd m.ports p {} (fun x => { x with fire := f x.fire }) := rfl
@[simp] theorem Mach.onFire_gate (m : Mach) (p : Nat) (f : FirePort → FirePort) : (m.onFire p f).gate = m.gate := rfl
@[simp] theorem Mach.onFire_sys (m : Mach) (p : Nat) (f : FirePort → FirePort) : (m.onFire p f).sys = m.sys := rfl
@[simp] theorem Mach.onFire_store (m : Mach) (p : Nat) (f : FirePort → FirePort) : (m.onFire p f).store = m.store := rfl
@[simp] theorem Mach.onFire_cams (m : Mach) (p : Nat) (f : FirePort → FirePort) : (m.onFire p f).cams = m.cams := rfl
@[simp] theorem Mach.onFire_cal (m : Mach) (p : Nat) (f : FirePort → FirePort) : (m.onFire p f).cal = m.cal := rfl
@[simp] theorem Mach.onFire_loop (m : Mach) (p : Nat) (f : FirePort → FirePort) : (m.onFire p f).loop = m.loop := rfl
@[simp] theorem Mach.onFire_frc (m : Mach) (p : Nat) (f : FirePort → FirePort) : (m.onFire p f).frc = m.frc := rfl
@[simp] theorem Mach.onFire_mem (m : Mach) (p : Nat) (f : FirePort → FirePort) : (m.onFire p f).mem = m.mem := rfl
@[simp] theorem Mach.onFire_cpu (m : Mach) (p : Nat) (f : FirePort → FirePort) : (m.onFire p f).cpu = m.cpu := rfl
@[simp] theorem Mach.onFire_pair (m : Mach) (p : Nat) (f : FirePort → FirePort) : (m.onFire p f).pair = m.pair := rfl
@[simp] theorem Mach.onFire_yarrow (m : Mach) (p : Nat) (f : FirePort → FirePort) : (m.onFire p f).yarrow = m.yarrow := rfl
@[simp] theorem Mach.onFire_time (m : Mach) (p : Nat) (f : FirePort → FirePort) : (m.onFire p f).time = m.time := rfl
@[simp] theorem Mach.onFire_power (m : Mach) (p : Nat) (f : FirePort → FirePort) : (m.onFire p f).power = m.power := rfl

@[simp] theorem Mach.onCam_now (m : Mach) (c : Nat) (f : Cam → Cam) : (m.onCam c f).now = m.now := rfl
@[simp] theorem Mach.onCam_linkOfs (m : Mach) (c : Nat) (f : Cam → Cam) : (m.onCam c f).linkOfs = m.linkOfs := rfl
@[simp] theorem Mach.onCam_out (m : Mach) (c : Nat) (f : Cam → Cam) : (m.onCam c f).out = m.out := rfl
@[simp] theorem Mach.onCam_free (m : Mach) (c : Nat) (f : Cam → Cam) : (m.onCam c f).free = m.free := rfl
@[simp] theorem Mach.onCam_recorder (m : Mach) (c : Nat) (f : Cam → Cam) : (m.onCam c f).recorder = m.recorder := rfl
@[simp] theorem Mach.onCam_dict (m : Mach) (c : Nat) (f : Cam → Cam) : (m.onCam c f).dict = m.dict := rfl
@[simp] theorem Mach.onCam_hy (m : Mach) (c : Nat) (f : Cam → Cam) : (m.onCam c f).hy = m.hy := rfl
@[simp] theorem Mach.onCam_enc (m : Mach) (c : Nat) (f : Cam → Cam) : (m.onCam c f).enc = m.enc := rfl
@[simp] theorem Mach.onCam_psos (m : Mach) (c : Nat) (f : Cam → Cam) : (m.onCam c f).psos = m.psos := rfl
@[simp] theorem Mach.onCam_seams (m : Mach) (c : Nat) (f : Cam → Cam) : (m.onCam c f).seams = m.seams := rfl
@[simp] theorem Mach.onCam_comp (m : Mach) (c : Nat) (f : Cam → Cam) : (m.onCam c f).comp = m.comp := rfl
@[simp] theorem Mach.onCam_ports (m : Mach) (c : Nat) (f : Cam → Cam) : (m.onCam c f).ports = m.ports := rfl
@[simp] theorem Mach.onCam_gate (m : Mach) (c : Nat) (f : Cam → Cam) : (m.onCam c f).gate = m.gate := rfl
@[simp] theorem Mach.onCam_sys (m : Mach) (c : Nat) (f : Cam → Cam) : (m.onCam c f).sys = m.sys := rfl
@[simp] theorem Mach.onCam_store (m : Mach) (c : Nat) (f : Cam → Cam) : (m.onCam c f).store = m.store := rfl
@[simp] theorem Mach.onCam_cams (m : Mach) (c : Nat) (f : Cam → Cam) : (m.onCam c f).cams = fupd m.cams c {} f := rfl
@[simp] theorem Mach.onCam_cal (m : Mach) (c : Nat) (f : Cam → Cam) : (m.onCam c f).cal = m.cal := rfl
@[simp] theorem Mach.onCam_loop (m : Mach) (c : Nat) (f : Cam → Cam) : (m.onCam c f).loop = m.loop := rfl
@[simp] theorem Mach.onCam_frc (m : Mach) (c : Nat) (f : Cam → Cam) : (m.onCam c f).frc = m.frc := rfl
@[simp] theorem Mach.onCam_mem (m : Mach) (c : Nat) (f : Cam → Cam) : (m.onCam c f).mem = m.mem := rfl
@[simp] theorem Mach.onCam_cpu (m : Mach) (c : Nat) (f : Cam → Cam) : (m.onCam c f).cpu = m.cpu := rfl
@[simp] theorem Mach.onCam_pair (m : Mach) (c : Nat) (f : Cam → Cam) : (m.onCam c f).pair = m.pair := rfl
@[simp] theorem Mach.onCam_yarrow (m : Mach) (c : Nat) (f : Cam → Cam) : (m.onCam c f).yarrow = m.yarrow := rfl
@[simp] theorem Mach.onCam_time (m : Mach) (c : Nat) (f : Cam → Cam) : (m.onCam c f).time = m.time := rfl
@[simp] theorem Mach.onCam_power (m : Mach) (c : Nat) (f : Cam → Cam) : (m.onCam c f).power = m.power := rfl

@[simp] theorem Mach.onPso_now (m : Mach) (n : Nat) (f : Pso → Pso) : (m.onPso n f).now = m.now := rfl
@[simp] theorem Mach.onPso_linkOfs (m : Mach) (n : Nat) (f : Pso → Pso) : (m.onPso n f).linkOfs = m.linkOfs := rfl
@[simp] theorem Mach.onPso_out (m : Mach) (n : Nat) (f : Pso → Pso) : (m.onPso n f).out = m.out := rfl
@[simp] theorem Mach.onPso_free (m : Mach) (n : Nat) (f : Pso → Pso) : (m.onPso n f).free = m.free := rfl
@[simp] theorem Mach.onPso_recorder (m : Mach) (n : Nat) (f : Pso → Pso) : (m.onPso n f).recorder = m.recorder := rfl
@[simp] theorem Mach.onPso_dict (m : Mach) (n : Nat) (f : Pso → Pso) : (m.onPso n f).dict = m.dict := rfl
@[simp] theorem Mach.onPso_hy (m : Mach) (n : Nat) (f : Pso → Pso) : (m.onPso n f).hy = m.hy := rfl
@[simp] theorem Mach.onPso_enc (m : Mach) (n : Nat) (f : Pso → Pso) : (m.onPso n f).enc = m.enc := rfl
@[simp] theorem Mach.onPso_psos (m : Mach) (n : Nat) (f : Pso → Pso) : (m.onPso n f).psos = fupd m.psos n {} f := rfl
@[simp] theorem Mach.onPso_seams (m : Mach) (n : Nat) (f : Pso → Pso) : (m.onPso n f).seams = m.seams := rfl
@[simp] theorem Mach.onPso_comp (m : Mach) (n : Nat) (f : Pso → Pso) : (m.onPso n f).comp = m.comp := rfl
@[simp] theorem Mach.onPso_ports (m : Mach) (n : Nat) (f : Pso → Pso) : (m.onPso n f).ports = m.ports := rfl
@[simp] theorem Mach.onPso_gate (m : Mach) (n : Nat) (f : Pso → Pso) : (m.onPso n f).gate = m.gate := rfl
@[simp] theorem Mach.onPso_sys (m : Mach) (n : Nat) (f : Pso → Pso) : (m.onPso n f).sys = m.sys := rfl
@[simp] theorem Mach.onPso_store (m : Mach) (n : Nat) (f : Pso → Pso) : (m.onPso n f).store = m.store := rfl
@[simp] theorem Mach.onPso_cams (m : Mach) (n : Nat) (f : Pso → Pso) : (m.onPso n f).cams = m.cams := rfl
@[simp] theorem Mach.onPso_cal (m : Mach) (n : Nat) (f : Pso → Pso) : (m.onPso n f).cal = m.cal := rfl
@[simp] theorem Mach.onPso_loop (m : Mach) (n : Nat) (f : Pso → Pso) : (m.onPso n f).loop = m.loop := rfl
@[simp] theorem Mach.onPso_frc (m : Mach) (n : Nat) (f : Pso → Pso) : (m.onPso n f).frc = m.frc := rfl
@[simp] theorem Mach.onPso_mem (m : Mach) (n : Nat) (f : Pso → Pso) : (m.onPso n f).mem = m.mem := rfl
@[simp] theorem Mach.onPso_cpu (m : Mach) (n : Nat) (f : Pso → Pso) : (m.onPso n f).cpu = m.cpu := rfl
@[simp] theorem Mach.onPso_pair (m : Mach) (n : Nat) (f : Pso → Pso) : (m.onPso n f).pair = m.pair := rfl
@[simp] theorem Mach.onPso_yarrow (m : Mach) (n : Nat) (f : Pso → Pso) : (m.onPso n f).yarrow = m.yarrow := rfl
@[simp] theorem Mach.onPso_time (m : Mach) (n : Nat) (f : Pso → Pso) : (m.onPso n f).time = m.time := rfl
@[simp] theorem Mach.onPso_power (m : Mach) (n : Nat) (f : Pso → Pso) : (m.onPso n f).power = m.power := rfl

@[simp] theorem Mach.queueItem_now (m : Mach) (x : StoreItem) : (m.queueItem x).now = m.now := rfl
@[simp] theorem Mach.queueItem_linkOfs (m : Mach) (x : StoreItem) : (m.queueItem x).linkOfs = m.linkOfs := rfl
@[simp] theorem Mach.queueItem_out (m : Mach) (x : StoreItem) : (m.queueItem x).out = m.out := rfl
@[simp] theorem Mach.queueItem_free (m : Mach) (x : StoreItem) : (m.queueItem x).free = m.free := rfl
@[simp] theorem Mach.queueItem_recorder (m : Mach) (x : StoreItem) : (m.queueItem x).recorder = m.recorder := rfl
@[simp] theorem Mach.queueItem_dict (m : Mach) (x : StoreItem) : (m.queueItem x).dict = m.dict := rfl
@[simp] theorem Mach.queueItem_hy (m : Mach) (x : StoreItem) : (m.queueItem x).hy = m.hy := rfl
@[simp] theorem Mach.queueItem_enc (m : Mach) (x : StoreItem) : (m.queueItem x).enc = m.enc := rfl
@[simp] theorem Mach.queueItem_psos (m : Mach) (x : StoreItem) : (m.queueItem x).psos = m.psos := rfl
@[simp] theorem Mach.queueItem_seams (m : Mach) (x : StoreItem) : (m.queueItem x).seams = m.seams := rfl
@[simp] theorem Mach.queueItem_comp (m : Mach) (x : StoreItem) : (m.queueItem x).comp = m.comp := rfl
@[simp] theorem Mach.queueItem_ports (m : Mach) (x : StoreItem) : (m.queueItem x).ports = m.ports := rfl
@[simp] theorem Mach.queueItem_gate (m : Mach) (x : StoreItem) : (m.queueItem x).gate = m.gate := rfl
@[simp] theorem Mach.queueItem_sys (m : Mach) (x : StoreItem) : (m.queueItem x).sys = m.sys := rfl
@[simp] theorem Mach.queueItem_store (m : Mach) (x : StoreItem) : (m.queueItem x).store = { m.store with writes := m.store.writes ++ [({ x with gen := m.store.nextGen x.kind x.key }, false)] } := rfl
@[simp] theorem Mach.queueItem_cams (m : Mach) (x : StoreItem) : (m.queueItem x).cams = m.cams := rfl
@[simp] theorem Mach.queueItem_cal (m : Mach) (x : StoreItem) : (m.queueItem x).cal = m.cal := rfl
@[simp] theorem Mach.queueItem_loop (m : Mach) (x : StoreItem) : (m.queueItem x).loop = m.loop := rfl
@[simp] theorem Mach.queueItem_frc (m : Mach) (x : StoreItem) : (m.queueItem x).frc = m.frc := rfl
@[simp] theorem Mach.queueItem_mem (m : Mach) (x : StoreItem) : (m.queueItem x).mem = m.mem := rfl
@[simp] theorem Mach.queueItem_cpu (m : Mach) (x : StoreItem) : (m.queueItem x).cpu = m.cpu := rfl
@[simp] theorem Mach.queueItem_pair (m : Mach) (x : StoreItem) : (m.queueItem x).pair = m.pair := rfl
@[simp] theorem Mach.queueItem_yarrow (m : Mach) (x : StoreItem) : (m.queueItem x).yarrow = m.yarrow := rfl
@[simp] theorem Mach.queueItem_time (m : Mach) (x : StoreItem) : (m.queueItem x).time = m.time := rfl
@[simp] theorem Mach.queueItem_power (m : Mach) (x : StoreItem) : (m.queueItem x).power = m.power := rfl

@[simp] theorem Mach.sendOn_now (m : Mach) (net : Nat) (o : Out) : (m.sendOn net o).now = m.now := rfl
@[simp] theorem Mach.sendOn_linkOfs (m : Mach) (net : Nat) (o : Out) : (m.sendOn net o).linkOfs = m.linkOfs := rfl
@[simp] theorem Mach.sendOn_out (m : Mach) (net : Nat) (o : Out) : (m.sendOn net o).out = m.out ++ [o] := rfl
@[simp] theorem Mach.sendOn_free (m : Mach) (net : Nat) (o : Out) : (m.sendOn net o).free = m.free := rfl
@[simp] theorem Mach.sendOn_recorder (m : Mach) (net : Nat) (o : Out) : (m.sendOn net o).recorder = m.recorder := rfl
@[simp] theorem Mach.sendOn_dict (m : Mach) (net : Nat) (o : Out) : (m.sendOn net o).dict = m.dict := rfl
@[simp] theorem Mach.sendOn_hy (m : Mach) (net : Nat) (o : Out) : (m.sendOn net o).hy = m.hy := rfl
@[simp] theorem Mach.sendOn_enc (m : Mach) (net : Nat) (o : Out) : (m.sendOn net o).enc = m.enc := rfl
@[simp] theorem Mach.sendOn_psos (m : Mach) (net : Nat) (o : Out) : (m.sendOn net o).psos = m.psos := rfl
@[simp] theorem Mach.sendOn_seams (m : Mach) (net : Nat) (o : Out) : (m.sendOn net o).seams = m.seams := rfl
@[simp] theorem Mach.sendOn_comp (m : Mach) (net : Nat) (o : Out) : (m.sendOn net o).comp = m.comp := rfl
@[simp] theorem Mach.sendOn_ports (m : Mach) (net : Nat) (o : Out) : (m.sendOn net o).ports = m.ports := rfl
@[simp] theorem Mach.sendOn_gate (m : Mach) (net : Nat) (o : Out) : (m.sendOn net o).gate = m.gate := rfl
@[simp] theorem Mach.sendOn_sys (m : Mach) (net : Nat) (o : Out) : (m.sendOn net o).sys = m.sys := rfl
@[simp] theorem Mach.sendOn_store (m : Mach) (net : Nat) (o : Out) : (m.sendOn net o).store = m.store := rfl
@[simp] theorem Mach.sendOn_cams (m : Mach) (net : Nat) (o : Out) : (m.sendOn net o).cams = m.cams := rfl
@[simp] theorem Mach.sendOn_cal (m : Mach) (net : Nat) (o : Out) : (m.sendOn net o).cal = m.cal := rfl
@[simp] theorem Mach.sendOn_loop (m : Mach) (net : Nat) (o : Out) : (m.sendOn net o).loop = m.loop := rfl
@[simp] theorem Mach.sendOn_frc (m : Mach) (net : Nat) (o : Out) : (m.sendOn net o).frc = m.frc := rfl
@[simp] theorem Mach.sendOn_mem (m : Mach) (net : Nat) (o : Out) : (m.sendOn net o).mem = m.mem := rfl
@[simp] theorem Mach.sendOn_cpu (m : Mach) (net : Nat) (o : Out) : (m.sendOn net o).cpu = m.cpu := rfl
@[simp] theorem Mach.sendOn_pair (m : Mach) (net : Nat) (o : Out) : (m.sendOn net o).pair = m.pair := rfl
@[simp] theorem Mach.sendOn_yarrow (m : Mach) (net : Nat) (o : Out) : (m.sendOn net o).yarrow = m.yarrow := rfl
@[simp] theorem Mach.sendOn_time (m : Mach) (net : Nat) (o : Out) : (m.sendOn net o).time = (m.netCount net 2).time := rfl
@[simp] theorem Mach.sendOn_power (m : Mach) (net : Nat) (o : Out) : (m.sendOn net o).power = m.power := rfl


end Sys2Proof.Machine
end

