-- ==== Sys2Proof/Laws/Record.lean ====
section
/-! SUPPORT. What recording an occurrence can change: the recorder, and the sessions' waiting notices. -/

namespace Sys2Proof.Machine

/-- Recording without notices changes the recorder alone. -/
theorem Mach.recordQuiet_cases (m : Mach) (x : Rec) : ∃ r, (m.recordQuiet x).1 = { m with recorder := r } := by
  unfold Mach.recordQuiet
  split
  · exact ⟨m.recorder, rfl⟩
  · exact ⟨_, rfl⟩

/-- Recording a loss of notices changes the recorder alone. -/
theorem Mach.recordDropped_cases (l : List Nat) (m : Mach) :
    ∃ r, l.foldl (fun acc sid => (acc.recordQuiet (acc.mkRec 0x0D07 sid 1 acc.webLine false)).1) m = { m with recorder := r } := by
  induction l generalizing m with
  | nil => exact ⟨m.recorder, rfl⟩
  | cons sid t ih =>
    obtain ⟨r, hr⟩ := m.recordQuiet_cases (m.mkRec 0x0D07 sid 1 m.webLine false)
    obtain ⟨r', hr'⟩ := ih { m with recorder := r }
    exact ⟨r', by rw [List.foldl_cons, hr, hr']⟩

/-- Recording changes the recorder and the sessions, and nothing else. -/
theorem Mach.recordRec_cases (m : Mach) (x : Rec) : ∃ r h, m.recordRec x = { m with recorder := r, hy := h } := by
  obtain ⟨r, hr⟩ := m.recordQuiet_cases x
  unfold Mach.recordRec
  split
  · next m' e => exact ⟨r, m.hy, by rw [← hr, e]⟩
  · next m' y e =>
    have hm : m' = { m with recorder := r } := by rw [← hr, e]
    subst hm
    simp only
    obtain ⟨r', h'⟩ := Mach.recordDropped_cases (notifySessions m.hy.sessions y).2
      { m with recorder := r, hy := { m.hy with sessions := (notifySessions m.hy.sessions y).1, counters := bump m.hy.counters 6 (notifySessions m.hy.sessions y).2.length } }
    exact ⟨r', _, h'⟩

@[simp] theorem Mach.recordRec_now (m : Mach) (x : Rec) : (m.recordRec x).now = m.now := by
  obtain ⟨r, h, e⟩ := m.recordRec_cases x
  rw [e]
@[simp] theorem Mach.recordRec_linkOfs (m : Mach) (x : Rec) : (m.recordRec x).linkOfs = m.linkOfs := by
  obtain ⟨r, h, e⟩ := m.recordRec_cases x
  rw [e]
@[simp] theorem Mach.recordRec_out (m : Mach) (x : Rec) : (m.recordRec x).out = m.out := by
  obtain ⟨r, h, e⟩ := m.recordRec_cases x
  rw [e]
@[simp] theorem Mach.recordRec_free (m : Mach) (x : Rec) : (m.recordRec x).free = m.free := by
  obtain ⟨r, h, e⟩ := m.recordRec_cases x
  rw [e]
@[simp] theorem Mach.recordRec_dict (m : Mach) (x : Rec) : (m.recordRec x).dict = m.dict := by
  obtain ⟨r, h, e⟩ := m.recordRec_cases x
  rw [e]
@[simp] theorem Mach.recordRec_enc (m : Mach) (x : Rec) : (m.recordRec x).enc = m.enc := by
  obtain ⟨r, h, e⟩ := m.recordRec_cases x
  rw [e]
@[simp] theorem Mach.recordRec_psos (m : Mach) (x : Rec) : (m.recordRec x).psos = m.psos := by
  obtain ⟨r, h, e⟩ := m.recordRec_cases x
  rw [e]
@[simp] theorem Mach.recordRec_seams (m : Mach) (x : Rec) : (m.recordRec x).seams = m.seams := by
  obtain ⟨r, h, e⟩ := m.recordRec_cases x
  rw [e]
@[simp] theorem Mach.recordRec_comp (m : Mach) (x : Rec) : (m.recordRec x).comp = m.comp := by
  obtain ⟨r, h, e⟩ := m.recordRec_cases x
  rw [e]
@[simp] theorem Mach.recordRec_ports (m : Mach) (x : Rec) : (m.recordRec x).ports = m.ports := by
  obtain ⟨r, h, e⟩ := m.recordRec_cases x
  rw [e]
@[simp] theorem Mach.recordRec_gate (m : Mach) (x : Rec) : (m.recordRec x).gate = m.gate := by
  obtain ⟨r, h, e⟩ := m.recordRec_cases x
  rw [e]
@[simp] theorem Mach.recordRec_sys (m : Mach) (x : Rec) : (m.recordRec x).sys = m.sys := by
  obtain ⟨r, h, e⟩ := m.recordRec_cases x
  rw [e]
@[simp] theorem Mach.recordRec_store (m : Mach) (x : Rec) : (m.recordRec x).store = m.store := by
  obtain ⟨r, h, e⟩ := m.recordRec_cases x
  rw [e]
@[simp] theorem Mach.recordRec_cams (m : Mach) (x : Rec) : (m.recordRec x).cams = m.cams := by
  obtain ⟨r, h, e⟩ := m.recordRec_cases x
  rw [e]
@[simp] theorem Mach.recordRec_cal (m : Mach) (x : Rec) : (m.recordRec x).cal = m.cal := by
  obtain ⟨r, h, e⟩ := m.recordRec_cases x
  rw [e]
@[simp] theorem Mach.recordRec_loop (m : Mach) (x : Rec) : (m.recordRec x).loop = m.loop := by
  obtain ⟨r, h, e⟩ := m.recordRec_cases x
  rw [e]
@[simp] theorem Mach.recordRec_frc (m : Mach) (x : Rec) : (m.recordRec x).frc = m.frc := by
  obtain ⟨r, h, e⟩ := m.recordRec_cases x
  rw [e]
@[simp] theorem Mach.recordRec_mem (m : Mach) (x : Rec) : (m.recordRec x).mem = m.mem := by
  obtain ⟨r, h, e⟩ := m.recordRec_cases x
  rw [e]
@[simp] theorem Mach.recordRec_cpu (m : Mach) (x : Rec) : (m.recordRec x).cpu = m.cpu := by
  obtain ⟨r, h, e⟩ := m.recordRec_cases x
  rw [e]
@[simp] theorem Mach.recordRec_pair (m : Mach) (x : Rec) : (m.recordRec x).pair = m.pair := by
  obtain ⟨r, h, e⟩ := m.recordRec_cases x
  rw [e]
@[simp] theorem Mach.recordRec_yarrow (m : Mach) (x : Rec) : (m.recordRec x).yarrow = m.yarrow := by
  obtain ⟨r, h, e⟩ := m.recordRec_cases x
  rw [e]
@[simp] theorem Mach.recordRec_time (m : Mach) (x : Rec) : (m.recordRec x).time = m.time := by
  obtain ⟨r, h, e⟩ := m.recordRec_cases x
  rw [e]
@[simp] theorem Mach.recordRec_power (m : Mach) (x : Rec) : (m.recordRec x).power = m.power := by
  obtain ⟨r, h, e⟩ := m.recordRec_cases x
  rw [e]

@[simp] theorem Mach.recordAt_now (m : Mach) (code p0 p1 line : Nat) : (m.recordAt code p0 p1 line).now = m.now := Mach.recordRec_now _ _
@[simp] theorem Mach.recordAt_linkOfs (m : Mach) (code p0 p1 line : Nat) : (m.recordAt code p0 p1 line).linkOfs = m.linkOfs := Mach.recordRec_linkOfs _ _
@[simp] theorem Mach.recordAt_out (m : Mach) (code p0 p1 line : Nat) : (m.recordAt code p0 p1 line).out = m.out := Mach.recordRec_out _ _
@[simp] theorem Mach.recordAt_free (m : Mach) (code p0 p1 line : Nat) : (m.recordAt code p0 p1 line).free = m.free := Mach.recordRec_free _ _
@[simp] theorem Mach.recordAt_dict (m : Mach) (code p0 p1 line : Nat) : (m.recordAt code p0 p1 line).dict = m.dict := Mach.recordRec_dict _ _
@[simp] theorem Mach.recordAt_enc (m : Mach) (code p0 p1 line : Nat) : (m.recordAt code p0 p1 line).enc = m.enc := Mach.recordRec_enc _ _
@[simp] theorem Mach.recordAt_psos (m : Mach) (code p0 p1 line : Nat) : (m.recordAt code p0 p1 line).psos = m.psos := Mach.recordRec_psos _ _
@[simp] theorem Mach.recordAt_seams (m : Mach) (code p0 p1 line : Nat) : (m.recordAt code p0 p1 line).seams = m.seams := Mach.recordRec_seams _ _
@[simp] theorem Mach.recordAt_comp (m : Mach) (code p0 p1 line : Nat) : (m.recordAt code p0 p1 line).comp = m.comp := Mach.recordRec_comp _ _
@[simp] theorem Mach.recordAt_ports (m : Mach) (code p0 p1 line : Nat) : (m.recordAt code p0 p1 line).ports = m.ports := Mach.recordRec_ports _ _
@[simp] theorem Mach.recordAt_gate (m : Mach) (code p0 p1 line : Nat) : (m.recordAt code p0 p1 line).gate = m.gate := Mach.recordRec_gate _ _
@[simp] theorem Mach.recordAt_sys (m : Mach) (code p0 p1 line : Nat) : (m.recordAt code p0 p1 line).sys = m.sys := Mach.recordRec_sys _ _
@[simp] theorem Mach.recordAt_store (m : Mach) (code p0 p1 line : Nat) : (m.recordAt code p0 p1 line).store = m.store := Mach.recordRec_store _ _
@[simp] theorem Mach.recordAt_cams (m : Mach) (code p0 p1 line : Nat) : (m.recordAt code p0 p1 line).cams = m.cams := Mach.recordRec_cams _ _
@[simp] theorem Mach.recordAt_cal (m : Mach) (code p0 p1 line : Nat) : (m.recordAt code p0 p1 line).cal = m.cal := Mach.recordRec_cal _ _
@[simp] theorem Mach.recordAt_loop (m : Mach) (code p0 p1 line : Nat) : (m.recordAt code p0 p1 line).loop = m.loop := Mach.recordRec_loop _ _
@[simp] theorem Mach.recordAt_frc (m : Mach) (code p0 p1 line : Nat) : (m.recordAt code p0 p1 line).frc = m.frc := Mach.recordRec_frc _ _
@[simp] theorem Mach.recordAt_mem (m : Mach) (code p0 p1 line : Nat) : (m.recordAt code p0 p1 line).mem = m.mem := Mach.recordRec_mem _ _
@[simp] theorem Mach.recordAt_cpu (m : Mach) (code p0 p1 line : Nat) : (m.recordAt code p0 p1 line).cpu = m.cpu := Mach.recordRec_cpu _ _
@[simp] theorem Mach.recordAt_pair (m : Mach) (code p0 p1 line : Nat) : (m.recordAt code p0 p1 line).pair = m.pair := Mach.recordRec_pair _ _
@[simp] theorem Mach.recordAt_yarrow (m : Mach) (code p0 p1 line : Nat) : (m.recordAt code p0 p1 line).yarrow = m.yarrow := Mach.recordRec_yarrow _ _
@[simp] theorem Mach.recordAt_time (m : Mach) (code p0 p1 line : Nat) : (m.recordAt code p0 p1 line).time = m.time := Mach.recordRec_time _ _
@[simp] theorem Mach.recordAt_power (m : Mach) (code p0 p1 line : Nat) : (m.recordAt code p0 p1 line).power = m.power := Mach.recordRec_power _ _

@[simp] theorem Mach.record_now (m : Mach) (code p0 p1 : Nat) : (m.record code p0 p1).now = m.now := Mach.recordRec_now _ _
@[simp] theorem Mach.record_linkOfs (m : Mach) (code p0 p1 : Nat) : (m.record code p0 p1).linkOfs = m.linkOfs := Mach.recordRec_linkOfs _ _
@[simp] theorem Mach.record_out (m : Mach) (code p0 p1 : Nat) : (m.record code p0 p1).out = m.out := Mach.recordRec_out _ _
@[simp] theorem Mach.record_free (m : Mach) (code p0 p1 : Nat) : (m.record code p0 p1).free = m.free := Mach.recordRec_free _ _
@[simp] theorem Mach.record_dict (m : Mach) (code p0 p1 : Nat) : (m.record code p0 p1).dict = m.dict := Mach.recordRec_dict _ _
@[simp] theorem Mach.record_enc (m : Mach) (code p0 p1 : Nat) : (m.record code p0 p1).enc = m.enc := Mach.recordRec_enc _ _
@[simp] theorem Mach.record_psos (m : Mach) (code p0 p1 : Nat) : (m.record code p0 p1).psos = m.psos := Mach.recordRec_psos _ _
@[simp] theorem Mach.record_seams (m : Mach) (code p0 p1 : Nat) : (m.record code p0 p1).seams = m.seams := Mach.recordRec_seams _ _
@[simp] theorem Mach.record_comp (m : Mach) (code p0 p1 : Nat) : (m.record code p0 p1).comp = m.comp := Mach.recordRec_comp _ _
@[simp] theorem Mach.record_ports (m : Mach) (code p0 p1 : Nat) : (m.record code p0 p1).ports = m.ports := Mach.recordRec_ports _ _
@[simp] theorem Mach.record_gate (m : Mach) (code p0 p1 : Nat) : (m.record code p0 p1).gate = m.gate := Mach.recordRec_gate _ _
@[simp] theorem Mach.record_sys (m : Mach) (code p0 p1 : Nat) : (m.record code p0 p1).sys = m.sys := Mach.recordRec_sys _ _
@[simp] theorem Mach.record_store (m : Mach) (code p0 p1 : Nat) : (m.record code p0 p1).store = m.store := Mach.recordRec_store _ _
@[simp] theorem Mach.record_cams (m : Mach) (code p0 p1 : Nat) : (m.record code p0 p1).cams = m.cams := Mach.recordRec_cams _ _
@[simp] theorem Mach.record_cal (m : Mach) (code p0 p1 : Nat) : (m.record code p0 p1).cal = m.cal := Mach.recordRec_cal _ _
@[simp] theorem Mach.record_loop (m : Mach) (code p0 p1 : Nat) : (m.record code p0 p1).loop = m.loop := Mach.recordRec_loop _ _
@[simp] theorem Mach.record_frc (m : Mach) (code p0 p1 : Nat) : (m.record code p0 p1).frc = m.frc := Mach.recordRec_frc _ _
@[simp] theorem Mach.record_mem (m : Mach) (code p0 p1 : Nat) : (m.record code p0 p1).mem = m.mem := Mach.recordRec_mem _ _
@[simp] theorem Mach.record_cpu (m : Mach) (code p0 p1 : Nat) : (m.record code p0 p1).cpu = m.cpu := Mach.recordRec_cpu _ _
@[simp] theorem Mach.record_pair (m : Mach) (code p0 p1 : Nat) : (m.record code p0 p1).pair = m.pair := Mach.recordRec_pair _ _
@[simp] theorem Mach.record_yarrow (m : Mach) (code p0 p1 : Nat) : (m.record code p0 p1).yarrow = m.yarrow := Mach.recordRec_yarrow _ _
@[simp] theorem Mach.record_time (m : Mach) (code p0 p1 : Nat) : (m.record code p0 p1).time = m.time := Mach.recordRec_time _ _
@[simp] theorem Mach.record_power (m : Mach) (code p0 p1 : Nat) : (m.record code p0 p1).power = m.power := Mach.recordRec_power _ _

@[simp] theorem Mach.recordPeer_now (m : Mach) (code p0 p1 : Nat) : (m.recordPeer code p0 p1).now = m.now := Mach.recordRec_now _ _
@[simp] theorem Mach.recordPeer_linkOfs (m : Mach) (code p0 p1 : Nat) : (m.recordPeer code p0 p1).linkOfs = m.linkOfs := Mach.recordRec_linkOfs _ _
@[simp] theorem Mach.recordPeer_out (m : Mach) (code p0 p1 : Nat) : (m.recordPeer code p0 p1).out = m.out := Mach.recordRec_out _ _
@[simp] theorem Mach.recordPeer_free (m : Mach) (code p0 p1 : Nat) : (m.recordPeer code p0 p1).free = m.free := Mach.recordRec_free _ _
@[simp] theorem Mach.recordPeer_dict (m : Mach) (code p0 p1 : Nat) : (m.recordPeer code p0 p1).dict = m.dict := Mach.recordRec_dict _ _
@[simp] theorem Mach.recordPeer_enc (m : Mach) (code p0 p1 : Nat) : (m.recordPeer code p0 p1).enc = m.enc := Mach.recordRec_enc _ _
@[simp] theorem Mach.recordPeer_psos (m : Mach) (code p0 p1 : Nat) : (m.recordPeer code p0 p1).psos = m.psos := Mach.recordRec_psos _ _
@[simp] theorem Mach.recordPeer_seams (m : Mach) (code p0 p1 : Nat) : (m.recordPeer code p0 p1).seams = m.seams := Mach.recordRec_seams _ _
@[simp] theorem Mach.recordPeer_comp (m : Mach) (code p0 p1 : Nat) : (m.recordPeer code p0 p1).comp = m.comp := Mach.recordRec_comp _ _
@[simp] theorem Mach.recordPeer_ports (m : Mach) (code p0 p1 : Nat) : (m.recordPeer code p0 p1).ports = m.ports := Mach.recordRec_ports _ _
@[simp] theorem Mach.recordPeer_gate (m : Mach) (code p0 p1 : Nat) : (m.recordPeer code p0 p1).gate = m.gate := Mach.recordRec_gate _ _
@[simp] theorem Mach.recordPeer_sys (m : Mach) (code p0 p1 : Nat) : (m.recordPeer code p0 p1).sys = m.sys := Mach.recordRec_sys _ _
@[simp] theorem Mach.recordPeer_store (m : Mach) (code p0 p1 : Nat) : (m.recordPeer code p0 p1).store = m.store := Mach.recordRec_store _ _
@[simp] theorem Mach.recordPeer_cams (m : Mach) (code p0 p1 : Nat) : (m.recordPeer code p0 p1).cams = m.cams := Mach.recordRec_cams _ _
@[simp] theorem Mach.recordPeer_cal (m : Mach) (code p0 p1 : Nat) : (m.recordPeer code p0 p1).cal = m.cal := Mach.recordRec_cal _ _
@[simp] theorem Mach.recordPeer_loop (m : Mach) (code p0 p1 : Nat) : (m.recordPeer code p0 p1).loop = m.loop := Mach.recordRec_loop _ _
@[simp] theorem Mach.recordPeer_frc (m : Mach) (code p0 p1 : Nat) : (m.recordPeer code p0 p1).frc = m.frc := Mach.recordRec_frc _ _
@[simp] theorem Mach.recordPeer_mem (m : Mach) (code p0 p1 : Nat) : (m.recordPeer code p0 p1).mem = m.mem := Mach.recordRec_mem _ _
@[simp] theorem Mach.recordPeer_cpu (m : Mach) (code p0 p1 : Nat) : (m.recordPeer code p0 p1).cpu = m.cpu := Mach.recordRec_cpu _ _
@[simp] theorem Mach.recordPeer_pair (m : Mach) (code p0 p1 : Nat) : (m.recordPeer code p0 p1).pair = m.pair := Mach.recordRec_pair _ _
@[simp] theorem Mach.recordPeer_yarrow (m : Mach) (code p0 p1 : Nat) : (m.recordPeer code p0 p1).yarrow = m.yarrow := Mach.recordRec_yarrow _ _
@[simp] theorem Mach.recordPeer_time (m : Mach) (code p0 p1 : Nat) : (m.recordPeer code p0 p1).time = m.time := Mach.recordRec_time _ _
@[simp] theorem Mach.recordPeer_power (m : Mach) (code p0 p1 : Nat) : (m.recordPeer code p0 p1).power = m.power := Mach.recordRec_power _ _

end Sys2Proof.Machine
end

