-- ==== Sys2Proof/Laws/Map.lean ====
section
/-! SUPPORT. Finite maps and the byte memory: read after write, and the canonical form. -/

namespace Sys2Proof.Machine

variable {α : Type}

/-- A value just set is what the key reads. -/
@[simp] theorem fget_fset_same (l : FMap α) (k : Nat) (v d : α) : fget (fset l k v) k d = v := by
  induction l with
  | nil => simp [fset, fget]
  | cons p t ih =>
    obtain ⟨j, w⟩ := p
    unfold fset
    split
    · simp [fget]
    · split
      · simp [fget]
      · next h => simp [fget, Ne.symm h, ih]

/-- Another key reads what it read before. -/
theorem fget_fset_other (l : FMap α) {k j : Nat} (h : j ≠ k) (v d : α) : fget (fset l k v) j d = fget l j d := by
  induction l with
  | nil => simp [fset, fget, Ne.symm h]
  | cons p t ih =>
    obtain ⟨i, w⟩ := p
    unfold fset
    split
    · simp [fget, Ne.symm h]
    · split
      · next hk => subst hk; simp [fget, Ne.symm h]
      · simp only [fget, ih]

/-- A key changed by a function. -/
@[simp] theorem fget_fupd_same (l : FMap α) (k : Nat) (d : α) (f : α → α) : fget (fupd l k d f) k d = f (fget l k d) := by
  simp [fupd]

/-- Every other key after a change by a function. -/
theorem fget_fupd_other (l : FMap α) {k j : Nat} (h : j ≠ k) (d : α) (f : α → α) : fget (fupd l k d f) j d = fget l j d :=
  fget_fset_other l h _ d

/-! ### The byte memory -/

/-- A bound that the list's addresses keep may be lowered. -/
theorem Memory.wfFrom_mono {lo lo' : Nat} (h : lo ≤ lo') {l : List (Nat × Byte)} (hl : Memory.wfFrom lo' l = true) :
    Memory.wfFrom lo l = true := by
  cases l with
  | nil => rfl
  | cons p t =>
    obtain ⟨a, v⟩ := p
    simp only [Memory.wfFrom, Bool.and_eq_true, decide_eq_true_eq] at hl ⊢
    exact ⟨⟨by omega, hl.1.2⟩, hl.2⟩

/-- A write keeps the canonical form above a bound. -/
theorem Memory.write_wfFrom {lo a : Nat} (ha : lo ≤ a) (v : Byte) {l : List (Nat × Byte)} (hl : Memory.wfFrom lo l = true) :
    Memory.wfFrom lo (Memory.write l a v) = true := by
  induction l generalizing lo with
  | nil =>
    unfold Memory.write
    split
    · rfl
    · next hv => simp [Memory.wfFrom, ha, hv]
  | cons p t ih =>
    obtain ⟨j, w⟩ := p
    simp only [Memory.wfFrom, Bool.and_eq_true, decide_eq_true_eq] at hl
    unfold Memory.write
    split
    · next h =>
      split
      · simp [Memory.wfFrom, hl]
      · next hv =>
        simp only [Memory.wfFrom, Bool.and_eq_true, decide_eq_true_eq]
        exact ⟨⟨ha, by simpa using hv⟩, ⟨by omega, hl.1.2⟩, hl.2⟩
    · split
      · next h1 h2 =>
        subst h2
        split
        · exact Memory.wfFrom_mono (by omega) hl.2
        · next hv =>
          simp only [Memory.wfFrom, Bool.and_eq_true, decide_eq_true_eq]
          exact ⟨⟨ha, by simpa using hv⟩, hl.2⟩
      · next h1 h2 =>
        simp only [Memory.wfFrom, Bool.and_eq_true, decide_eq_true_eq]
        exact ⟨hl.1, ih (by omega) hl.2⟩

/-- A write keeps the canonical form. -/
theorem Memory.write_wf {l : List (Nat × Byte)} (hl : Memory.wf l = true) (a : Nat) (v : Byte) :
    Memory.wf (Memory.write l a v) = true := Memory.write_wfFrom (Nat.zero_le a) v hl

/-- Writing bytes upwards keeps the canonical form. -/
theorem Memory.writeAll_wf (bs : Bytes) {l : List (Nat × Byte)} (hl : Memory.wf l = true) (a : Nat) :
    Memory.wf (Memory.writeAll l a bs) = true := by
  induction bs generalizing l a with
  | nil => exact hl
  | cons b t ih => exact ih (Memory.write_wf hl a b) (a + 1)

/-- Leaving entries out keeps the canonical form above a bound. -/
theorem Memory.filter_wfFrom (f : Nat × Byte → Bool) {lo : Nat} {l : List (Nat × Byte)} (hl : Memory.wfFrom lo l = true) :
    Memory.wfFrom lo (l.filter f) = true := by
  induction l generalizing lo with
  | nil => rfl
  | cons p t ih =>
    obtain ⟨a, v⟩ := p
    simp only [Memory.wfFrom, Bool.and_eq_true, decide_eq_true_eq] at hl
    rw [List.filter_cons]
    split
    · simp only [Memory.wfFrom, Bool.and_eq_true, decide_eq_true_eq]
      exact ⟨hl.1, ih hl.2⟩
    · exact Memory.wfFrom_mono (by omega) (ih hl.2)

/-- Leaving entries out keeps the canonical form. -/
theorem Memory.filter_wf (f : Nat × Byte → Bool) {l : List (Nat × Byte)} (hl : Memory.wf l = true) :
    Memory.wf (l.filter f) = true := Memory.filter_wfFrom f hl

/-- Below its bound a canonical list lists nothing. -/
theorem Memory.read_below {lo a : Nat} (h : a < lo) {l : List (Nat × Byte)} (hl : Memory.wfFrom lo l = true) :
    Memory.read l a = Memory.unlisted := by
  induction l generalizing lo with
  | nil => rfl
  | cons p t ih =>
    obtain ⟨j, v⟩ := p
    simp only [Memory.wfFrom, Bool.and_eq_true, decide_eq_true_eq] at hl
    unfold Memory.read
    rw [if_neg (by omega)]
    exact ih (by omega) hl.2

end Sys2Proof.Machine
end

