-- ==== Sys2Proof/Laws/Units.lean ====
section
/-! SUPPORT. What a unit reads after an update of it or of another unit of its kind, and what the updates of engines,
semaphores, channels, domains, network ports and the pair leave. -/

namespace Sys2Proof.Machine

/-! ### A unit after its own update, and after another's -/

@[simp] theorem Mach.port_onPort (m : Mach) (p : Nat) (f : Port → Port) : (m.onPort p f).port p = f (m.port p) := by
  simp [Mach.port, Mach.onPort]
theorem Mach.port_onPort_other (m : Mach) {p k : Nat} (h : k ≠ p) (f : Port → Port) :
    (m.onPort p f).port k = m.port k := by
  simp [Mach.port, Mach.onPort, fget_fupd_other _ h]
@[simp] theorem Mach.port_onLink (m : Mach) (p : Nat) (f : Link → Link) : (m.onLink p f).port p = { m.port p with link := f (m.port p).link } := by
  simp [Mach.port, Mach.onLink, Mach.onPort]
theorem Mach.port_onLink_other (m : Mach) {p k : Nat} (h : k ≠ p) (f : Link → Link) :
    (m.onLink p f).port k = m.port k := by
  simp [Mach.port, Mach.onLink, Mach.onPort, fget_fupd_other _ h]
@[simp] theorem Mach.port_onTx (m : Mach) (p : Nat) (f : Transport → Transport) : (m.onTx p f).port p = { m.port p with tx := f (m.port p).tx } := by
  simp [Mach.port, Mach.onTx, Mach.onPort]
theorem Mach.port_onTx_other (m : Mach) {p k : Nat} (h : k ≠ p) (f : Transport → Transport) :
    (m.onTx p f).port k = m.port k := by
  simp [Mach.port, Mach.onTx, Mach.onPort, fget_fupd_other _ h]
@[simp] theorem Mach.port_onFire (m : Mach) (p : Nat) (f : FirePort → FirePort) : (m.onFire p f).port p = { m.port p with fire := f (m.port p).fire } := by
  simp [Mach.port, Mach.onFire, Mach.onPort]
theorem Mach.port_onFire_other (m : Mach) {p k : Nat} (h : k ≠ p) (f : FirePort → FirePort) :
    (m.onFire p f).port k = m.port k := by
  simp [Mach.port, Mach.onFire, Mach.onPort, fget_fupd_other _ h]
@[simp] theorem Mach.cam_onCam (m : Mach) (c : Nat) (f : Cam → Cam) : (m.onCam c f).cam c = f (m.cam c) := by
  simp [Mach.cam, Mach.onCam]
theorem Mach.cam_onCam_other (m : Mach) {c k : Nat} (h : k ≠ c) (f : Cam → Cam) :
    (m.onCam c f).cam k = m.cam k := by
  simp [Mach.cam, Mach.onCam, fget_fupd_other _ h]
@[simp] theorem Mach.pso_onPso (m : Mach) (n : Nat) (f : Pso → Pso) : (m.onPso n f).pso n = f (m.pso n) := by
  simp [Mach.pso, Mach.onPso]
theorem Mach.pso_onPso_other (m : Mach) {n k : Nat} (h : k ≠ n) (f : Pso → Pso) :
    (m.onPso n f).pso k = m.pso k := by
  simp [Mach.pso, Mach.onPso, fget_fupd_other _ h]
@[simp] theorem Mach.sem_onSem (m : Mach) (s : Nat) (f : Sem → Sem) : (m.onSem s f).sem s = f (m.sem s) := by
  simp [Mach.sem, Mach.onSem]
theorem Mach.sem_onSem_other (m : Mach) {s k : Nat} (h : k ≠ s) (f : Sem → Sem) :
    (m.onSem s f).sem k = m.sem k := by
  simp [Mach.sem, Mach.onSem, fget_fupd_other _ h]
@[simp] theorem Mach.engine_onEngine (m : Mach) (n : Nat) (f : Engine → Engine) : (m.onEngine n f).engine n = f (m.engine n) := by
  simp [Mach.engine, Mach.onEngine]
theorem Mach.engine_onEngine_other (m : Mach) {n k : Nat} (h : k ≠ n) (f : Engine → Engine) :
    (m.onEngine n f).engine k = m.engine k := by
  simp [Mach.engine, Mach.onEngine, fget_fupd_other _ h]
@[simp] theorem Mach.channel_onChannel (m : Mach) (c : Nat) (f : Channel → Channel) : (m.onChannel c f).channel c = f (m.channel c) := by
  simp [Mach.channel, Mach.onChannel]
theorem Mach.channel_onChannel_other (m : Mach) {c k : Nat} (h : k ≠ c) (f : Channel → Channel) :
    (m.onChannel c f).channel k = m.channel k := by
  simp [Mach.channel, Mach.onChannel, fget_fupd_other _ h]
@[simp] theorem Mach.domain_onDomain (m : Mach) (d : Nat) (f : TimeDomain → TimeDomain) :
    (m.onDomain d f).domain d = f (m.domain d) := by
  unfold Mach.domain Mach.onDomain
  split <;> rfl
@[simp] theorem Mach.netPort_onNet (m : Mach) (p : Nat) (f : NetPort → NetPort) : (m.onNet p f).netPort p = f (m.netPort p) := by
  unfold Mach.netPort Mach.onNet
  split <;> rfl

/-! ### What an update leaves -/

@[simp] theorem Mach.onSem_now (m : Mach) (s : Nat) (f : Sem → Sem) : (m.onSem s f).now = m.now := rfl
@[simp] theorem Mach.onSem_linkOfs (m : Mach) (s : Nat) (f : Sem → Sem) : (m.onSem s f).linkOfs = m.linkOfs := rfl
@[simp] theorem Mach.onSem_out (m : Mach) (s : Nat) (f : Sem → Sem) : (m.onSem s f).out = m.out := rfl
@[simp] theorem Mach.onSem_free (m : Mach) (s : Nat) (f : Sem → Sem) : (m.onSem s f).free = m.free := rfl
@[simp] theorem Mach.onSem_recorder (m : Mach) (s : Nat) (f : Sem → Sem) : (m.onSem s f).recorder = m.recorder := rfl
@[simp] theorem Mach.onSem_dict (m : Mach) (s : Nat) (f : Sem → Sem) : (m.onSem s f).dict = m.dict := rfl
@[simp] theorem Mach.onSem_hy (m : Mach) (s : Nat) (f : Sem → Sem) : (m.onSem s f).hy = m.hy := rfl
@[simp] theorem Mach.onSem_enc (m : Mach) (s : Nat) (f : Sem → Sem) : (m.onSem s f).enc = m.enc := rfl
@[simp] theorem Mach.onSem_psos (m : Mach) (s : Nat) (f : Sem → Sem) : (m.onSem s f).psos = m.psos := rfl
@[simp] theorem Mach.onSem_seams (m : Mach) (s : Nat) (f : Sem → Sem) : (m.onSem s f).seams = m.seams := rfl
@[simp] theorem Mach.onSem_comp (m : Mach) (s : Nat) (f : Sem → Sem) : (m.onSem s f).comp = m.comp := rfl
@[simp] theorem Mach.onSem_ports (m : Mach) (s : Nat) (f : Sem → Sem) : (m.onSem s f).ports = m.ports := rfl
@[simp] theorem Mach.onSem_gate (m : Mach) (s : Nat) (f : Sem → Sem) : (m.onSem s f).gate = m.gate := rfl
@[simp] theorem Mach.onSem_sys (m : Mach) (s : Nat) (f : Sem → Sem) : (m.onSem s f).sys = m.sys := rfl
@[simp] theorem Mach.onSem_store (m : Mach) (s : Nat) (f : Sem → Sem) : (m.onSem s f).store = m.store := rfl
@[simp] theorem Mach.onSem_cams (m : Mach) (s : Nat) (f : Sem → Sem) : (m.onSem s f).cams = m.cams := rfl
@[simp] theorem Mach.onSem_cal (m : Mach) (s : Nat) (f : Sem → Sem) : (m.onSem s f).cal = m.cal := rfl
@[simp] theorem Mach.onSem_loop (m : Mach) (s : Nat) (f : Sem → Sem) : (m.onSem s f).loop = m.loop := rfl
@[simp] theorem Mach.onSem_frc (m : Mach) (s : Nat) (f : Sem → Sem) : (m.onSem s f).frc = m.frc := rfl
@[simp] theorem Mach.onSem_mem (m : Mach) (s : Nat) (f : Sem → Sem) : (m.onSem s f).mem = m.mem := rfl
@[simp] theorem Mach.onSem_pair (m : Mach) (s : Nat) (f : Sem → Sem) : (m.onSem s f).pair = m.pair := rfl
@[simp] theorem Mach.onSem_yarrow (m : Mach) (s : Nat) (f : Sem → Sem) : (m.onSem s f).yarrow = m.yarrow := rfl
@[simp] theorem Mach.onSem_time (m : Mach) (s : Nat) (f : Sem → Sem) : (m.onSem s f).time = m.time := rfl
@[simp] theorem Mach.onSem_power (m : Mach) (s : Nat) (f : Sem → Sem) : (m.onSem s f).power = m.power := rfl

@[simp] theorem Mach.onEngine_now (m : Mach) (n : Nat) (f : Engine → Engine) : (m.onEngine n f).now = m.now := rfl
@[simp] theorem Mach.onEngine_linkOfs (m : Mach) (n : Nat) (f : Engine → Engine) : (m.onEngine n f).linkOfs = m.linkOfs := rfl
@[simp] theorem Mach.onEngine_out (m : Mach) (n : Nat) (f : Engine → Engine) : (m.onEngine n f).out = m.out := rfl
@[simp] theorem Mach.onEngine_free (m : Mach) (n : Nat) (f : Engine → Engine) : (m.onEngine n f).free = m.free := rfl
@[simp] theorem Mach.onEngine_recorder (m : Mach) (n : Nat) (f : Engine → Engine) : (m.onEngine n f).recorder = m.recorder := rfl
@[simp] theorem Mach.onEngine_dict (m : Mach) (n : Nat) (f : Engine → Engine) : (m.onEngine n f).dict = m.dict := rfl
@[simp] theorem Mach.onEngine_hy (m : Mach) (n : Nat) (f : Engine → Engine) : (m.onEngine n f).hy = m.hy := rfl
@[simp] theorem Mach.onEngine_enc (m : Mach) (n : Nat) (f : Engine → Engine) : (m.onEngine n f).enc = m.enc := rfl
@[simp] theorem Mach.onEngine_psos (m : Mach) (n : Nat) (f : Engine → Engine) : (m.onEngine n f).psos = m.psos := rfl
@[simp] theorem Mach.onEngine_seams (m : Mach) (n : Nat) (f : Engine → Engine) : (m.onEngine n f).seams = m.seams := rfl
@[simp] theorem Mach.onEngine_comp (m : Mach) (n : Nat) (f : Engine → Engine) : (m.onEngine n f).comp = m.comp := rfl
@[simp] theorem Mach.onEngine_ports (m : Mach) (n : Nat) (f : Engine → Engine) : (m.onEngine n f).ports = m.ports := rfl
@[simp] theorem Mach.onEngine_gate (m : Mach) (n : Nat) (f : Engine → Engine) : (m.onEngine n f).gate = m.gate := rfl
@[simp] theorem Mach.onEngine_sys (m : Mach) (n : Nat) (f : Engine → Engine) : (m.onEngine n f).sys = m.sys := rfl
@[simp] theorem Mach.onEngine_store (m : Mach) (n : Nat) (f : Engine → Engine) : (m.onEngine n f).store = m.store := rfl
@[simp] theorem Mach.onEngine_cams (m : Mach) (n : Nat) (f : Engine → Engine) : (m.onEngine n f).cams = m.cams := rfl
@[simp] theorem Mach.onEngine_cal (m : Mach) (n : Nat) (f : Engine → Engine) : (m.onEngine n f).cal = m.cal := rfl
@[simp] theorem Mach.onEngine_loop (m : Mach) (n : Nat) (f : Engine → Engine) : (m.onEngine n f).loop = m.loop := rfl
@[simp] theorem Mach.onEngine_frc (m : Mach) (n : Nat) (f : Engine → Engine) : (m.onEngine n f).frc = m.frc := rfl
@[simp] theorem Mach.onEngine_mem (m : Mach) (n : Nat) (f : Engine → Engine) : (m.onEngine n f).mem = m.mem := rfl
@[simp] theorem Mach.onEngine_pair (m : Mach) (n : Nat) (f : Engine → Engine) : (m.onEngine n f).pair = m.pair := rfl
@[simp] theorem Mach.onEngine_yarrow (m : Mach) (n : Nat) (f : Engine → Engine) : (m.onEngine n f).yarrow = m.yarrow := rfl
@[simp] theorem Mach.onEngine_time (m : Mach) (n : Nat) (f : Engine → Engine) : (m.onEngine n f).time = m.time := rfl
@[simp] theorem Mach.onEngine_power (m : Mach) (n : Nat) (f : Engine → Engine) : (m.onEngine n f).power = m.power := rfl

@[simp] theorem Mach.onChannel_now (m : Mach) (c : Nat) (f : Channel → Channel) : (m.onChannel c f).now = m.now := rfl
@[simp] theorem Mach.onChannel_linkOfs (m : Mach) (c : Nat) (f : Channel → Channel) : (m.onChannel c f).linkOfs = m.linkOfs := rfl
@[simp] theorem Mach.onChannel_out (m : Mach) (c : Nat) (f : Channel → Channel) : (m.onChannel c f).out = m.out := rfl
@[simp] theorem Mach.onChannel_free (m : Mach) (c : Nat) (f : Channel → Channel) : (m.onChannel c f).free = m.free := rfl
@[simp] theorem Mach.onChannel_recorder (m : Mach) (c : Nat) (f : Channel → Channel) : (m.onChannel c f).recorder = m.recorder := rfl
@[simp] theorem Mach.onChannel_dict (m : Mach) (c : Nat) (f : Channel → Channel) : (m.onChannel c f).dict = m.dict := rfl
@[simp] theorem Mach.onChannel_hy (m : Mach) (c : Nat) (f : Channel → Channel) : (m.onChannel c f).hy = m.hy := rfl
@[simp] theorem Mach.onChannel_enc (m : Mach) (c : Nat) (f : Channel → Channel) : (m.onChannel c f).enc = m.enc := rfl
@[simp] theorem Mach.onChannel_psos (m : Mach) (c : Nat) (f : Channel → Channel) : (m.onChannel c f).psos = m.psos := rfl
@[simp] theorem Mach.onChannel_seams (m : Mach) (c : Nat) (f : Channel → Channel) : (m.onChannel c f).seams = m.seams := rfl
@[simp] theorem Mach.onChannel_comp (m : Mach) (c : Nat) (f : Channel → Channel) : (m.onChannel c f).comp = m.comp := rfl
@[simp] theorem Mach.onChannel_ports (m : Mach) (c : Nat) (f : Channel → Channel) : (m.onChannel c f).ports = m.ports := rfl
@[simp] theorem Mach.onChannel_gate (m : Mach) (c : Nat) (f : Channel → Channel) : (m.onChannel c f).gate = m.gate := rfl
@[simp] theorem Mach.onChannel_sys (m : Mach) (c : Nat) (f : Channel → Channel) : (m.onChannel c f).sys = m.sys := rfl
@[simp] theorem Mach.onChannel_store (m : Mach) (c : Nat) (f : Channel → Channel) : (m.onChannel c f).store = m.store := rfl
@[simp] theorem Mach.onChannel_cams (m : Mach) (c : Nat) (f : Channel → Channel) : (m.onChannel c f).cams = m.cams := rfl
@[simp] theorem Mach.onChannel_cal (m : Mach) (c : Nat) (f : Channel → Channel) : (m.onChannel c f).cal = m.cal := rfl
@[simp] theorem Mach.onChannel_loop (m : Mach) (c : Nat) (f : Channel → Channel) : (m.onChannel c f).loop = m.loop := rfl
@[simp] theorem Mach.onChannel_frc (m : Mach) (c : Nat) (f : Channel → Channel) : (m.onChannel c f).frc = m.frc := rfl
@[simp] theorem Mach.onChannel_cpu (m : Mach) (c : Nat) (f : Channel → Channel) : (m.onChannel c f).cpu = m.cpu := rfl
@[simp] theorem Mach.onChannel_pair (m : Mach) (c : Nat) (f : Channel → Channel) : (m.onChannel c f).pair = m.pair := rfl
@[simp] theorem Mach.onChannel_yarrow (m : Mach) (c : Nat) (f : Channel → Channel) : (m.onChannel c f).yarrow = m.yarrow := rfl
@[simp] theorem Mach.onChannel_time (m : Mach) (c : Nat) (f : Channel → Channel) : (m.onChannel c f).time = m.time := rfl
@[simp] theorem Mach.onChannel_power (m : Mach) (c : Nat) (f : Channel → Channel) : (m.onChannel c f).power = m.power := rfl

@[simp] theorem Mach.onDomain_now (m : Mach) (d : Nat) (f : TimeDomain → TimeDomain) : (m.onDomain d f).now = m.now := rfl
@[simp] theorem Mach.onDomain_linkOfs (m : Mach) (d : Nat) (f : TimeDomain → TimeDomain) : (m.onDomain d f).linkOfs = m.linkOfs := rfl
@[simp] theorem Mach.onDomain_out (m : Mach) (d : Nat) (f : TimeDomain → TimeDomain) : (m.onDomain d f).out = m.out := rfl
@[simp] theorem Mach.onDomain_free (m : Mach) (d : Nat) (f : TimeDomain → TimeDomain) : (m.onDomain d f).free = m.free := rfl
@[simp] theorem Mach.onDomain_recorder (m : Mach) (d : Nat) (f : TimeDomain → TimeDomain) : (m.onDomain d f).recorder = m.recorder := rfl
@[simp] theorem Mach.onDomain_dict (m : Mach) (d : Nat) (f : TimeDomain → TimeDomain) : (m.onDomain d f).dict = m.dict := rfl
@[simp] theorem Mach.onDomain_hy (m : Mach) (d : Nat) (f : TimeDomain → TimeDomain) : (m.onDomain d f).hy = m.hy := rfl
@[simp] theorem Mach.onDomain_enc (m : Mach) (d : Nat) (f : TimeDomain → TimeDomain) : (m.onDomain d f).enc = m.enc := rfl
@[simp] theorem Mach.onDomain_psos (m : Mach) (d : Nat) (f : TimeDomain → TimeDomain) : (m.onDomain d f).psos = m.psos := rfl
@[simp] theorem Mach.onDomain_seams (m : Mach) (d : Nat) (f : TimeDomain → TimeDomain) : (m.onDomain d f).seams = m.seams := rfl
@[simp] theorem Mach.onDomain_comp (m : Mach) (d : Nat) (f : TimeDomain → TimeDomain) : (m.onDomain d f).comp = m.comp := rfl
@[simp] theorem Mach.onDomain_ports (m : Mach) (d : Nat) (f : TimeDomain → TimeDomain) : (m.onDomain d f).ports = m.ports := rfl
@[simp] theorem Mach.onDomain_gate (m : Mach) (d : Nat) (f : TimeDomain → TimeDomain) : (m.onDomain d f).gate = m.gate := rfl
@[simp] theorem Mach.onDomain_sys (m : Mach) (d : Nat) (f : TimeDomain → TimeDomain) : (m.onDomain d f).sys = m.sys := rfl
@[simp] theorem Mach.onDomain_store (m : Mach) (d : Nat) (f : TimeDomain → TimeDomain) : (m.onDomain d f).store = m.store := rfl
@[simp] theorem Mach.onDomain_cams (m : Mach) (d : Nat) (f : TimeDomain → TimeDomain) : (m.onDomain d f).cams = m.cams := rfl
@[simp] theorem Mach.onDomain_cal (m : Mach) (d : Nat) (f : TimeDomain → TimeDomain) : (m.onDomain d f).cal = m.cal := rfl
@[simp] theorem Mach.onDomain_loop (m : Mach) (d : Nat) (f : TimeDomain → TimeDomain) : (m.onDomain d f).loop = m.loop := rfl
@[simp] theorem Mach.onDomain_frc (m : Mach) (d : Nat) (f : TimeDomain → TimeDomain) : (m.onDomain d f).frc = m.frc := rfl
@[simp] theorem Mach.onDomain_mem (m : Mach) (d : Nat) (f : TimeDomain → TimeDomain) : (m.onDomain d f).mem = m.mem := rfl
@[simp] theorem Mach.onDomain_cpu (m : Mach) (d : Nat) (f : TimeDomain → TimeDomain) : (m.onDomain d f).cpu = m.cpu := rfl
@[simp] theorem Mach.onDomain_pair (m : Mach) (d : Nat) (f : TimeDomain → TimeDomain) : (m.onDomain d f).pair = m.pair := rfl
@[simp] theorem Mach.onDomain_yarrow (m : Mach) (d : Nat) (f : TimeDomain → TimeDomain) : (m.onDomain d f).yarrow = m.yarrow := rfl
@[simp] theorem Mach.onDomain_power (m : Mach) (d : Nat) (f : TimeDomain → TimeDomain) : (m.onDomain d f).power = m.power := rfl

@[simp] theorem Mach.onNet_now (m : Mach) (p : Nat) (f : NetPort → NetPort) : (m.onNet p f).now = m.now := rfl
@[simp] theorem Mach.onNet_linkOfs (m : Mach) (p : Nat) (f : NetPort → NetPort) : (m.onNet p f).linkOfs = m.linkOfs := rfl
@[simp] theorem Mach.onNet_out (m : Mach) (p : Nat) (f : NetPort → NetPort) : (m.onNet p f).out = m.out := rfl
@[simp] theorem Mach.onNet_free (m : Mach) (p : Nat) (f : NetPort → NetPort) : (m.onNet p f).free = m.free := rfl
@[simp] theorem Mach.onNet_recorder (m : Mach) (p : Nat) (f : NetPort → NetPort) : (m.onNet p f).recorder = m.recorder := rfl
@[simp] theorem Mach.onNet_dict (m : Mach) (p : Nat) (f : NetPort → NetPort) : (m.onNet p f).dict = m.dict := rfl
@[simp] theorem Mach.onNet_hy (m : Mach) (p : Nat) (f : NetPort → NetPort) : (m.onNet p f).hy = m.hy := rfl
@[simp] theorem Mach.onNet_enc (m : Mach) (p : Nat) (f : NetPort → NetPort) : (m.onNet p f).enc = m.enc := rfl
@[simp] theorem Mach.onNet_psos (m : Mach) (p : Nat) (f : NetPort → NetPort) : (m.onNet p f).psos = m.psos := rfl
@[simp] theorem Mach.onNet_seams (m : Mach) (p : Nat) (f : NetPort → NetPort) : (m.onNet p f).seams = m.seams := rfl
@[simp] theorem Mach.onNet_comp (m : Mach) (p : Nat) (f : NetPort → NetPort) : (m.onNet p f).comp = m.comp := rfl
@[simp] theorem Mach.onNet_ports (m : Mach) (p : Nat) (f : NetPort → NetPort) : (m.onNet p f).ports = m.ports := rfl
@[simp] theorem Mach.onNet_gate (m : Mach) (p : Nat) (f : NetPort → NetPort) : (m.onNet p f).gate = m.gate := rfl
@[simp] theorem Mach.onNet_sys (m : Mach) (p : Nat) (f : NetPort → NetPort) : (m.onNet p f).sys = m.sys := rfl
@[simp] theorem Mach.onNet_store (m : Mach) (p : Nat) (f : NetPort → NetPort) : (m.onNet p f).store = m.store := rfl
@[simp] theorem Mach.onNet_cams (m : Mach) (p : Nat) (f : NetPort → NetPort) : (m.onNet p f).cams = m.cams := rfl
@[simp] theorem Mach.onNet_cal (m : Mach) (p : Nat) (f : NetPort → NetPort) : (m.onNet p f).cal = m.cal := rfl
@[simp] theorem Mach.onNet_loop (m : Mach) (p : Nat) (f : NetPort → NetPort) : (m.onNet p f).loop = m.loop := rfl
@[simp] theorem Mach.onNet_frc (m : Mach) (p : Nat) (f : NetPort → NetPort) : (m.onNet p f).frc = m.frc := rfl
@[simp] theorem Mach.onNet_mem (m : Mach) (p : Nat) (f : NetPort → NetPort) : (m.onNet p f).mem = m.mem := rfl
@[simp] theorem Mach.onNet_cpu (m : Mach) (p : Nat) (f : NetPort → NetPort) : (m.onNet p f).cpu = m.cpu := rfl
@[simp] theorem Mach.onNet_pair (m : Mach) (p : Nat) (f : NetPort → NetPort) : (m.onNet p f).pair = m.pair := rfl
@[simp] theorem Mach.onNet_yarrow (m : Mach) (p : Nat) (f : NetPort → NetPort) : (m.onNet p f).yarrow = m.yarrow := rfl
@[simp] theorem Mach.onNet_power (m : Mach) (p : Nat) (f : NetPort → NetPort) : (m.onNet p f).power = m.power := rfl

@[simp] theorem Mach.onUser_now (m : Mach) (f : User → User) : (m.onUser f).now = m.now := rfl
@[simp] theorem Mach.onUser_linkOfs (m : Mach) (f : User → User) : (m.onUser f).linkOfs = m.linkOfs := rfl
@[simp] theorem Mach.onUser_out (m : Mach) (f : User → User) : (m.onUser f).out = m.out := rfl
@[simp] theorem Mach.onUser_free (m : Mach) (f : User → User) : (m.onUser f).free = m.free := rfl
@[simp] theorem Mach.onUser_recorder (m : Mach) (f : User → User) : (m.onUser f).recorder = m.recorder := rfl
@[simp] theorem Mach.onUser_dict (m : Mach) (f : User → User) : (m.onUser f).dict = m.dict := rfl
@[simp] theorem Mach.onUser_hy (m : Mach) (f : User → User) : (m.onUser f).hy = m.hy := rfl
@[simp] theorem Mach.onUser_enc (m : Mach) (f : User → User) : (m.onUser f).enc = m.enc := rfl
@[simp] theorem Mach.onUser_psos (m : Mach) (f : User → User) : (m.onUser f).psos = m.psos := rfl
@[simp] theorem Mach.onUser_seams (m : Mach) (f : User → User) : (m.onUser f).seams = m.seams := rfl
@[simp] theorem Mach.onUser_comp (m : Mach) (f : User → User) : (m.onUser f).comp = m.comp := rfl
@[simp] theorem Mach.onUser_ports (m : Mach) (f : User → User) : (m.onUser f).ports = m.ports := rfl
@[simp] theorem Mach.onUser_gate (m : Mach) (f : User → User) : (m.onUser f).gate = m.gate := rfl
@[simp] theorem Mach.onUser_sys (m : Mach) (f : User → User) : (m.onUser f).sys = m.sys := rfl
@[simp] theorem Mach.onUser_store (m : Mach) (f : User → User) : (m.onUser f).store = m.store := rfl
@[simp] theorem Mach.onUser_cams (m : Mach) (f : User → User) : (m.onUser f).cams = m.cams := rfl
@[simp] theorem Mach.onUser_cal (m : Mach) (f : User → User) : (m.onUser f).cal = m.cal := rfl
@[simp] theorem Mach.onUser_loop (m : Mach) (f : User → User) : (m.onUser f).loop = m.loop := rfl
@[simp] theorem Mach.onUser_frc (m : Mach) (f : User → User) : (m.onUser f).frc = m.frc := rfl
@[simp] theorem Mach.onUser_mem (m : Mach) (f : User → User) : (m.onUser f).mem = m.mem := rfl
@[simp] theorem Mach.onUser_pair (m : Mach) (f : User → User) : (m.onUser f).pair = m.pair := rfl
@[simp] theorem Mach.onUser_yarrow (m : Mach) (f : User → User) : (m.onUser f).yarrow = m.yarrow := rfl
@[simp] theorem Mach.onUser_time (m : Mach) (f : User → User) : (m.onUser f).time = m.time := rfl
@[simp] theorem Mach.onUser_power (m : Mach) (f : User → User) : (m.onUser f).power = m.power := rfl
@[simp] theorem Mach.onUser_user (m : Mach) (f : User → User) : (m.onUser f).cpu.user = f m.cpu.user := rfl

@[simp] theorem Mach.onDbg_now (m : Mach) (f : Dbg → Dbg) : (m.onDbg f).now = m.now := rfl
@[simp] theorem Mach.onDbg_linkOfs (m : Mach) (f : Dbg → Dbg) : (m.onDbg f).linkOfs = m.linkOfs := rfl
@[simp] theorem Mach.onDbg_out (m : Mach) (f : Dbg → Dbg) : (m.onDbg f).out = m.out := rfl
@[simp] theorem Mach.onDbg_free (m : Mach) (f : Dbg → Dbg) : (m.onDbg f).free = m.free := rfl
@[simp] theorem Mach.onDbg_recorder (m : Mach) (f : Dbg → Dbg) : (m.onDbg f).recorder = m.recorder := rfl
@[simp] theorem Mach.onDbg_dict (m : Mach) (f : Dbg → Dbg) : (m.onDbg f).dict = m.dict := rfl
@[simp] theorem Mach.onDbg_hy (m : Mach) (f : Dbg → Dbg) : (m.onDbg f).hy = m.hy := rfl
@[simp] theorem Mach.onDbg_enc (m : Mach) (f : Dbg → Dbg) : (m.onDbg f).enc = m.enc := rfl
@[simp] theorem Mach.onDbg_psos (m : Mach) (f : Dbg → Dbg) : (m.onDbg f).psos = m.psos := rfl
@[simp] theorem Mach.onDbg_seams (m : Mach) (f : Dbg → Dbg) : (m.onDbg f).seams = m.seams := rfl
@[simp] theorem Mach.onDbg_comp (m : Mach) (f : Dbg → Dbg) : (m.onDbg f).comp = m.comp := rfl
@[simp] theorem Mach.onDbg_ports (m : Mach) (f : Dbg → Dbg) : (m.onDbg f).ports = m.ports := rfl
@[simp] theorem Mach.onDbg_gate (m : Mach) (f : Dbg → Dbg) : (m.onDbg f).gate = m.gate := rfl
@[simp] theorem Mach.onDbg_sys (m : Mach) (f : Dbg → Dbg) : (m.onDbg f).sys = m.sys := rfl
@[simp] theorem Mach.onDbg_store (m : Mach) (f : Dbg → Dbg) : (m.onDbg f).store = m.store := rfl
@[simp] theorem Mach.onDbg_cams (m : Mach) (f : Dbg → Dbg) : (m.onDbg f).cams = m.cams := rfl
@[simp] theorem Mach.onDbg_cal (m : Mach) (f : Dbg → Dbg) : (m.onDbg f).cal = m.cal := rfl
@[simp] theorem Mach.onDbg_loop (m : Mach) (f : Dbg → Dbg) : (m.onDbg f).loop = m.loop := rfl
@[simp] theorem Mach.onDbg_frc (m : Mach) (f : Dbg → Dbg) : (m.onDbg f).frc = m.frc := rfl
@[simp] theorem Mach.onDbg_mem (m : Mach) (f : Dbg → Dbg) : (m.onDbg f).mem = m.mem := rfl
@[simp] theorem Mach.onDbg_pair (m : Mach) (f : Dbg → Dbg) : (m.onDbg f).pair = m.pair := rfl
@[simp] theorem Mach.onDbg_yarrow (m : Mach) (f : Dbg → Dbg) : (m.onDbg f).yarrow = m.yarrow := rfl
@[simp] theorem Mach.onDbg_time (m : Mach) (f : Dbg → Dbg) : (m.onDbg f).time = m.time := rfl
@[simp] theorem Mach.onDbg_power (m : Mach) (f : Dbg → Dbg) : (m.onDbg f).power = m.power := rfl
@[simp] theorem Mach.onDbg_dbg (m : Mach) (f : Dbg → Dbg) : (m.onDbg f).cpu.dbg = f m.cpu.dbg := rfl

@[simp] theorem Mach.onPair_now (m : Mach) (f : Pair → Pair) : (m.onPair f).now = m.now := rfl
@[simp] theorem Mach.onPair_linkOfs (m : Mach) (f : Pair → Pair) : (m.onPair f).linkOfs = m.linkOfs := rfl
@[simp] theorem Mach.onPair_out (m : Mach) (f : Pair → Pair) : (m.onPair f).out = m.out := rfl
@[simp] theorem Mach.onPair_free (m : Mach) (f : Pair → Pair) : (m.onPair f).free = m.free := rfl
@[simp] theorem Mach.onPair_recorder (m : Mach) (f : Pair → Pair) : (m.onPair f).recorder = m.recorder := rfl
@[simp] theorem Mach.onPair_dict (m : Mach) (f : Pair → Pair) : (m.onPair f).dict = m.dict := rfl
@[simp] theorem Mach.onPair_hy (m : Mach) (f : Pair → Pair) : (m.onPair f).hy = m.hy := rfl
@[simp] theorem Mach.onPair_enc (m : Mach) (f : Pair → Pair) : (m.onPair f).enc = m.enc := rfl
@[simp] theorem Mach.onPair_psos (m : Mach) (f : Pair → Pair) : (m.onPair f).psos = m.psos := rfl
@[simp] theorem Mach.onPair_seams (m : Mach) (f : Pair → Pair) : (m.onPair f).seams = m.seams := rfl
@[simp] theorem Mach.onPair_comp (m : Mach) (f : Pair → Pair) : (m.onPair f).comp = m.comp := rfl
@[simp] theorem Mach.onPair_ports (m : Mach) (f : Pair → Pair) : (m.onPair f).ports = m.ports := rfl
@[simp] theorem Mach.onPair_gate (m : Mach) (f : Pair → Pair) : (m.onPair f).gate = m.gate := rfl
@[simp] theorem Mach.onPair_sys (m : Mach) (f : Pair → Pair) : (m.onPair f).sys = m.sys := rfl
@[simp] theorem Mach.onPair_store (m : Mach) (f : Pair → Pair) : (m.onPair f).store = m.store := rfl
@[simp] theorem Mach.onPair_cams (m : Mach) (f : Pair → Pair) : (m.onPair f).cams = m.cams := rfl
@[simp] theorem Mach.onPair_cal (m : Mach) (f : Pair → Pair) : (m.onPair f).cal = m.cal := rfl
@[simp] theorem Mach.onPair_loop (m : Mach) (f : Pair → Pair) : (m.onPair f).loop = m.loop := rfl
@[simp] theorem Mach.onPair_frc (m : Mach) (f : Pair → Pair) : (m.onPair f).frc = m.frc := rfl
@[simp] theorem Mach.onPair_mem (m : Mach) (f : Pair → Pair) : (m.onPair f).mem = m.mem := rfl
@[simp] theorem Mach.onPair_cpu (m : Mach) (f : Pair → Pair) : (m.onPair f).cpu = m.cpu := rfl
@[simp] theorem Mach.onPair_yarrow (m : Mach) (f : Pair → Pair) : (m.onPair f).yarrow = m.yarrow := rfl
@[simp] theorem Mach.onPair_time (m : Mach) (f : Pair → Pair) : (m.onPair f).time = m.time := rfl
@[simp] theorem Mach.onPair_power (m : Mach) (f : Pair → Pair) : (m.onPair f).power = m.power := rfl
@[simp] theorem Mach.onPair_pair (m : Mach) (f : Pair → Pair) : (m.onPair f).pair = f m.pair := rfl

@[simp] theorem Mach.onYarrow_now (m : Mach) (f : Yarrow → Yarrow) : (m.onYarrow f).now = m.now := rfl
@[simp] theorem Mach.onYarrow_linkOfs (m : Mach) (f : Yarrow → Yarrow) : (m.onYarrow f).linkOfs = m.linkOfs := rfl
@[simp] theorem Mach.onYarrow_out (m : Mach) (f : Yarrow → Yarrow) : (m.onYarrow f).out = m.out := rfl
@[simp] theorem Mach.onYarrow_free (m : Mach) (f : Yarrow → Yarrow) : (m.onYarrow f).free = m.free := rfl
@[simp] theorem Mach.onYarrow_recorder (m : Mach) (f : Yarrow → Yarrow) : (m.onYarrow f).recorder = m.recorder := rfl
@[simp] theorem Mach.onYarrow_dict (m : Mach) (f : Yarrow → Yarrow) : (m.onYarrow f).dict = m.dict := rfl
@[simp] theorem Mach.onYarrow_hy (m : Mach) (f : Yarrow → Yarrow) : (m.onYarrow f).hy = m.hy := rfl
@[simp] theorem Mach.onYarrow_enc (m : Mach) (f : Yarrow → Yarrow) : (m.onYarrow f).enc = m.enc := rfl
@[simp] theorem Mach.onYarrow_psos (m : Mach) (f : Yarrow → Yarrow) : (m.onYarrow f).psos = m.psos := rfl
@[simp] theorem Mach.onYarrow_seams (m : Mach) (f : Yarrow → Yarrow) : (m.onYarrow f).seams = m.seams := rfl
@[simp] theorem Mach.onYarrow_comp (m : Mach) (f : Yarrow → Yarrow) : (m.onYarrow f).comp = m.comp := rfl
@[simp] theorem Mach.onYarrow_ports (m : Mach) (f : Yarrow → Yarrow) : (m.onYarrow f).ports = m.ports := rfl
@[simp] theorem Mach.onYarrow_gate (m : Mach) (f : Yarrow → Yarrow) : (m.onYarrow f).gate = m.gate := rfl
@[simp] theorem Mach.onYarrow_sys (m : Mach) (f : Yarrow → Yarrow) : (m.onYarrow f).sys = m.sys := rfl
@[simp] theorem Mach.onYarrow_store (m : Mach) (f : Yarrow → Yarrow) : (m.onYarrow f).store = m.store := rfl
@[simp] theorem Mach.onYarrow_cams (m : Mach) (f : Yarrow → Yarrow) : (m.onYarrow f).cams = m.cams := rfl
@[simp] theorem Mach.onYarrow_cal (m : Mach) (f : Yarrow → Yarrow) : (m.onYarrow f).cal = m.cal := rfl
@[simp] theorem Mach.onYarrow_loop (m : Mach) (f : Yarrow → Yarrow) : (m.onYarrow f).loop = m.loop := rfl
@[simp] theorem Mach.onYarrow_frc (m : Mach) (f : Yarrow → Yarrow) : (m.onYarrow f).frc = m.frc := rfl
@[simp] theorem Mach.onYarrow_mem (m : Mach) (f : Yarrow → Yarrow) : (m.onYarrow f).mem = m.mem := rfl
@[simp] theorem Mach.onYarrow_cpu (m : Mach) (f : Yarrow → Yarrow) : (m.onYarrow f).cpu = m.cpu := rfl
@[simp] theorem Mach.onYarrow_pair (m : Mach) (f : Yarrow → Yarrow) : (m.onYarrow f).pair = m.pair := rfl
@[simp] theorem Mach.onYarrow_time (m : Mach) (f : Yarrow → Yarrow) : (m.onYarrow f).time = m.time := rfl
@[simp] theorem Mach.onYarrow_power (m : Mach) (f : Yarrow → Yarrow) : (m.onYarrow f).power = m.power := rfl
@[simp] theorem Mach.onYarrow_yarrow (m : Mach) (f : Yarrow → Yarrow) : (m.onYarrow f).yarrow = f m.yarrow := rfl

/-! ### The engine complex after an update of one of its parts -/

@[simp] theorem Mach.onSem_cpu_engines (m : Mach) (s : Nat) (f : Sem → Sem) : (m.onSem s f).cpu.engines = m.cpu.engines := rfl
@[simp] theorem Mach.onSem_cpu_user (m : Mach) (s : Nat) (f : Sem → Sem) : (m.onSem s f).cpu.user = m.cpu.user := rfl
@[simp] theorem Mach.onSem_cpu_dbg (m : Mach) (s : Nat) (f : Sem → Sem) : (m.onSem s f).cpu.dbg = m.cpu.dbg := rfl
@[simp] theorem Mach.engine_onSem (m : Mach) (s : Nat) (f : Sem → Sem) (k : Nat) : (m.onSem s f).engine k = m.engine k := rfl
@[simp] theorem Mach.onEngine_cpu_sems (m : Mach) (n : Nat) (f : Engine → Engine) : (m.onEngine n f).cpu.sems = m.cpu.sems := rfl
@[simp] theorem Mach.onEngine_cpu_user (m : Mach) (n : Nat) (f : Engine → Engine) : (m.onEngine n f).cpu.user = m.cpu.user := rfl
@[simp] theorem Mach.onEngine_cpu_dbg (m : Mach) (n : Nat) (f : Engine → Engine) : (m.onEngine n f).cpu.dbg = m.cpu.dbg := rfl
@[simp] theorem Mach.sem_onEngine (m : Mach) (n : Nat) (f : Engine → Engine) (q : Nat) : (m.onEngine n f).sem q = m.sem q := rfl
@[simp] theorem Mach.onUser_cpu_sems (m : Mach) (f : User → User) : (m.onUser f).cpu.sems = m.cpu.sems := rfl
@[simp] theorem Mach.onUser_cpu_engines (m : Mach) (f : User → User) : (m.onUser f).cpu.engines = m.cpu.engines := rfl
@[simp] theorem Mach.onUser_cpu_dbg (m : Mach) (f : User → User) : (m.onUser f).cpu.dbg = m.cpu.dbg := rfl
@[simp] theorem Mach.sem_onUser (m : Mach) (f : User → User) (q : Nat) : (m.onUser f).sem q = m.sem q := rfl
@[simp] theorem Mach.engine_onUser (m : Mach) (f : User → User) (k : Nat) : (m.onUser f).engine k = m.engine k := rfl
@[simp] theorem Mach.onDbg_cpu_sems (m : Mach) (f : Dbg → Dbg) : (m.onDbg f).cpu.sems = m.cpu.sems := rfl
@[simp] theorem Mach.onDbg_cpu_engines (m : Mach) (f : Dbg → Dbg) : (m.onDbg f).cpu.engines = m.cpu.engines := rfl
@[simp] theorem Mach.onDbg_cpu_user (m : Mach) (f : Dbg → Dbg) : (m.onDbg f).cpu.user = m.cpu.user := rfl
@[simp] theorem Mach.sem_onDbg (m : Mach) (f : Dbg → Dbg) (q : Nat) : (m.onDbg f).sem q = m.sem q := rfl
@[simp] theorem Mach.engine_onDbg (m : Mach) (f : Dbg → Dbg) (k : Nat) : (m.onDbg f).engine k = m.engine k := rfl

/-! ### An update is what it does to its unit -/

theorem Mach.onPort_congr {m : Mach} {p : Nat} {f g : Port → Port} (h : f (m.port p) = g (m.port p)) : m.onPort p f = m.onPort p g := by
  simp only [Mach.port] at h
  simp [Mach.onPort, fupd, h]
theorem Mach.onLink_congr {m : Mach} {p : Nat} {f g : Link → Link} (h : f ((m.port p).link) = g ((m.port p).link)) : m.onLink p f = m.onLink p g := by
  simp only [Mach.port] at h
  simp [Mach.onLink, fupd, h, Mach.onPort]
theorem Mach.onTx_congr {m : Mach} {p : Nat} {f g : Transport → Transport} (h : f ((m.port p).tx) = g ((m.port p).tx)) : m.onTx p f = m.onTx p g := by
  simp only [Mach.port] at h
  simp [Mach.onTx, fupd, h, Mach.onPort]
theorem Mach.onFire_congr {m : Mach} {p : Nat} {f g : FirePort → FirePort} (h : f ((m.port p).fire) = g ((m.port p).fire)) : m.onFire p f = m.onFire p g := by
  simp only [Mach.port] at h
  simp [Mach.onFire, fupd, h, Mach.onPort]
theorem Mach.onCam_congr {m : Mach} {c : Nat} {f g : Cam → Cam} (h : f (m.cam c) = g (m.cam c)) : m.onCam c f = m.onCam c g := by
  simp only [Mach.cam] at h
  simp [Mach.onCam, fupd, h]
theorem Mach.onPso_congr {m : Mach} {n : Nat} {f g : Pso → Pso} (h : f (m.pso n) = g (m.pso n)) : m.onPso n f = m.onPso n g := by
  simp only [Mach.pso] at h
  simp [Mach.onPso, fupd, h]
theorem Mach.onSem_congr {m : Mach} {s : Nat} {f g : Sem → Sem} (h : f (m.sem s) = g (m.sem s)) : m.onSem s f = m.onSem s g := by
  simp only [Mach.sem] at h
  simp [Mach.onSem, fupd, h]
theorem Mach.onEngine_congr {m : Mach} {n : Nat} {f g : Engine → Engine} (h : f (m.engine n) = g (m.engine n)) : m.onEngine n f = m.onEngine n g := by
  simp only [Mach.engine] at h
  simp [Mach.onEngine, fupd, h]
theorem Mach.onChannel_congr {m : Mach} {c : Nat} {f g : Channel → Channel} (h : f (m.channel c) = g (m.channel c)) : m.onChannel c f = m.onChannel c g := by
  simp only [Mach.channel] at h
  simp [Mach.onChannel, fupd, h]
theorem Mach.onUser_congr {m : Mach} {f g : User → User} (h : f m.cpu.user = g m.cpu.user) : m.onUser f = m.onUser g := by
  simp [Mach.onUser, h]
theorem Mach.onDbg_congr {m : Mach} {f g : Dbg → Dbg} (h : f m.cpu.dbg = g m.cpu.dbg) : m.onDbg f = m.onDbg g := by
  simp [Mach.onDbg, h]
theorem Mach.onPair_congr {m : Mach} {f g : Pair → Pair} (h : f m.pair = g m.pair) : m.onPair f = m.onPair g := by
  simp [Mach.onPair, h]
theorem Mach.onYarrow_congr {m : Mach} {f g : Yarrow → Yarrow} (h : f m.yarrow = g m.yarrow) : m.onYarrow f = m.onYarrow g := by
  simp [Mach.onYarrow, h]

end Sys2Proof.Machine
end

