-- ==== Sys2Proof/Laws/Lane.lean ====
section
/-! SUPPORT. What a frame that joins a lane's queue can do, and that a mark on a frame of the print leaves every port alone. -/

namespace Sys2Proof.Machine

/-- A frame enters the queue behind every frame of its own priority or a higher one, and before the first of a lower one
(R202). -/
theorem enqueue_split (q : List Frame) (f : Frame) : ∃ a b, q = a ++ b ∧ enqueue q f = a ++ f :: b
    ∧ (∀ x ∈ a, framePriority x ≤ framePriority f) ∧ (b = [] ∨ ∃ x y, b = x :: y ∧ framePriority f < framePriority x) := by
  induction q with
  | nil => exact ⟨[], [], rfl, rfl, by simp, .inl rfl⟩
  | cons h t ih =>
    unfold enqueue
    split
    · next c => exact ⟨[], h :: t, rfl, rfl, by simp, .inr ⟨h, t, rfl, c⟩⟩
    · next c =>
      obtain ⟨a, b, e1, e2, e3, e4⟩ := ih
      refine ⟨h :: a, b, by rw [e1]; rfl, by rw [e2]; rfl, ?_, e4⟩
      intro x hx
      rcases List.mem_cons.mp hx with rfl | hx
      · omega
      · exact e3 x hx

/-- On a busy lane a frame only waits (R185). -/
theorem Mach.sendFrame_busy {m : Mach} {p : Nat} (h : m.now < (m.port p).tx.freeAt) (body : FrameBody) (event : Option Nat)
    (gen : Nat) (resend applyAt : Bool) : m.sendFrame p body event gen resend applyAt = m.onTx p (fun t => { t with
      queue := enqueue t.queue { body := body, seq := 0, event := event, gen := gen, resend := resend, applyAt := applyAt } }) := by
  simp [Mach.sendFrame, Mach.leave, h]

/-- On a free lane with nothing waiting a frame leaves at once (R185, R202). -/
theorem Mach.sendFrame_free {m : Mach} {p : Nat} (h : (m.port p).tx.freeAt ≤ m.now) (hq : (m.port p).tx.queue = [])
    (body : FrameBody) (event : Option Nat) (gen : Nat) (resend applyAt : Bool) :
    m.sendFrame p body event gen resend applyAt = ((m.onTx p (fun t => { t with
      queue := enqueue t.queue { body := body, seq := 0, event := event, gen := gen, resend := resend, applyAt := applyAt } })).onTx
        p (fun t => { t with queue := [] })).depart p
        { body := body, seq := 0, event := event, gen := gen, resend := resend, applyAt := applyAt } := by
  have h' : ¬ m.now < (m.port p).tx.freeAt := by omega
  simp [Mach.sendFrame, Mach.leave, h', hq, enqueue]

/-- A fold of steps that leave the ports leaves them. -/
theorem Mach.foldl_ports {α : Type} {f : Mach → α → Mach} (h : ∀ m x, (f m x).ports = m.ports) (l : List α) (m : Mach) :
    (l.foldl f m).ports = m.ports := by
  induction l generalizing m with
  | nil => rfl
  | cons a t ih => rw [List.foldl_cons, ih, h]

@[simp] theorem Mach.sendVerdict_ports (m : Mach) (b : VerdictBody) : (m.sendVerdict b).ports = m.ports := by
  unfold Mach.sendVerdict; split
  · rfl
  · split <;> rfl

@[simp] theorem Mach.queuePulse_ports (m : Mach) (job num : Nat) : (m.queuePulse job num).ports = m.ports := by
  unfold Mach.queuePulse
  split
  · rfl
  · dsimp only
    split_ifs <;> simp [Mach.setFrame, Mach.enterPulse, Mach.waitPulse, Mach.listPulse]
    split
    · split <;> simp [Mach.onPso]
    · rfl

@[simp] theorem Mach.logFrame_ports (m : Mach) (f : PrintFrame) : (m.logFrame f).ports = m.ports := by
  unfold Mach.logFrame
  split
  · dsimp only
    split <;> simp [Mach.setFrame]
  · rfl

@[simp] theorem Mach.settle_ports (m : Mach) : m.settle.ports = m.ports :=
  Mach.foldl_ports (fun acc f => acc.logFrame_ports f) _ _

/-- A mark on a frame of the print leaves every port as it was (R138). -/
@[simp] theorem Mach.markFrame_ports (m : Mach) (job num causes bars : Nat) : (m.markFrame job num causes bars).ports = m.ports := by
  unfold Mach.markFrame
  split
  · unfold Mach.applyMark
    split
    · simp
    · split
      · simp
      · split
        · unfold Mach.firstMark
          dsimp only
          split <;> simp [Mach.setFrame]
        · simp [Mach.addMark, Mach.setFrame]
  · rfl

/-- The rows of an event that is not fired are marked, and no port changes (R242). -/
@[simp] theorem Mach.notFired_ports (m : Mach) (p e causes : Nat) : (m.notFired p e causes).ports = m.ports := by
  unfold Mach.notFired
  refine Mach.foldl_ports (fun acc d => ?_) _ _
  split
  · unfold Mach.markWeb
    split <;> simp
  · rfl

end Sys2Proof.Machine
end

