-- ==== Sys2Proof/Laws/Memory.lean ====
section
/-! SUPPORT. Every operation that writes job memory keeps its canonical form. -/

namespace Sys2Proof.Machine

theorem clearWindow_wf (old new : Mach) {mem : List Host.Cell} (h : Memory.wf mem = true) :
    Memory.wf (clearWindow old new mem) = true := by
  unfold clearWindow
  split
  · exact h
  · exact Memory.filter_wf _ h

theorem jobWrite_wf {p : Mach × List Host.Cell} (h : Memory.wf p.2 = true) (a : Nat) (b : Byte) :
    Memory.wf (jobWrite p a b).2 = true := by
  unfold jobWrite
  split
  · exact h
  · exact Memory.write_wf h a b

theorem jobWriteAll_wf (bs : Bytes) {p : Mach × List Host.Cell} (h : Memory.wf p.2 = true) (a : Nat) :
    Memory.wf (jobWriteAll p a bs).2 = true := by
  induction bs generalizing p a with
  | nil => exact h
  | cons b bs ih => exact ih (jobWrite_wf h a b) _

theorem Mach.dbgWriteJob_wf (m : Mach) {mem : List Host.Cell} (h : Memory.wf mem = true) (n addr data : Nat) :
    Memory.wf (m.dbgWriteJob mem n addr data).2 = true := by
  unfold Mach.dbgWriteJob
  dsimp only
  generalize leBytes 8 data = bs, windowAddr n (bits addr 0 31) = a
  exact jobWriteAll_wf bs h a

theorem dbgTimedOut_wf (m : Mach) {mem : List Host.Cell} (h : Memory.wf mem = true) : Memory.wf (dbgTimedOut m mem).2 = true := by
  unfold dbgTimedOut
  split
  · split
    · exact jobWriteAll_wf (p := (m, mem)) _ h _
    · exact h
  · exact h

theorem Mach.runEntry_wf (m : Mach) {mem : List Host.Cell} (h : Memory.wf mem = true) (sid : Nat) (e : HyEntry) :
    Memory.wf (m.runEntry mem sid e).2.1 = true := clearWindow_wf _ _ h

theorem runEntries_wf (es : List HyEntry) (r : HyRun) (m : Mach) {mem : List Host.Cell} (h : Memory.wf mem = true) :
    Memory.wf (runEntries es r m mem).2 = true := by
  induction es generalizing r m mem with
  | nil => exact h
  | cons e es ih =>
    unfold runEntries
    split
    · exact h
    · have hr := m.runEntry_wf h r.sid e
      split <;> rename_i heq <;> rw [heq] at hr
      · simp only
        split
        · exact hr
        · exact ih _ _ hr
      · exact hr

theorem runQueue_wf (rs : List HyRun) (m : Mach) {mem : List Host.Cell} (h : Memory.wf mem = true) :
    Memory.wf (runQueue rs m mem).2 = true := by
  induction rs generalizing m mem with
  | nil => exact h
  | cons r rs ih =>
    unfold runQueue
    split
    · exact ih _ h
    · exact ih _ (runEntries_wf _ _ _ h)

theorem resumeRun_wf (m : Mach) {mem : List Host.Cell} (h : Memory.wf mem = true) : Memory.wf (resumeRun m mem).2 = true := by
  unfold resumeRun
  split
  · exact h
  · split
    · exact h
    · refine runQueue_wf _ _ ?_
      dsimp only
      split
      · exact h
      · exact runEntries_wf _ _ _ h

end Sys2Proof.Machine
end

