-- ==== Sys2Proof/Laws/Modes.lean ====
section
/-! SUPPORT. What a request for a mode does that is taken. -/

namespace Sys2Proof.Machine

/-- A request that the module takes changes the mode as its target says. -/
theorem Mach.writeMode_of_takes {m : Mach} {sid : Nat} {target : Mode} (h : m.takes sid target = true) :
    m.writeMode (.host sid) target = m.takeMode (.host sid) target := by
  simp only [Mach.takes, Bool.and_eq_true, Bool.not_eq_true'] at h
  obtain ⟨⟨⟨⟨h1, h2⟩, h3⟩, h4⟩, h5⟩ := h
  have hne : target ≠ m.sys.mode := by
    intro e; rw [e] at h4; revert h4; cases m.sys.mode <;> decide
  have hb : ¬(m.sys.mode = .boot ∨ m.sys.mode = .assemble) := by
    rintro (e | e) <;> rw [e] at h4 <;> exact absurd h4 (by simp [modeTargets])
  have h6 : m.power.failAt.isSome = false := by simpa using h5
  unfold Mach.writeMode
  simp only [h1, h2, h3, h4, h6, hne]
  simp [hb]

/-- A write to an object that is only stored puts its values and what follows from them. -/
theorem Mach.writeObj_stored {m n : Mach} {sid idx sub : Nat} {data : Bytes} {o : Obj} {vals : List (Nat × Fld × Bytes)}
    (ho : findObj idx = some o) (ha : m.admitsBytes (.host sid) idx sub (writeLevels idx sub) data vals = true)
    (hg : m.accessGate (.host sid) idx sub 15 = .ok) (hw : m.writeOwn (.host sid) idx sub data = none)
    (hi : [0x7010, 0xC011, 0xC049].contains idx = false) (hn : m.storeVals idx (m.instOf (.host sid) o.sel) vals = n)
    (hs : vals.all (fun v => n.stored idx v.1 (m.instOf (.host sid) o.sel)) = true) :
    m.writeObj (.host sid) idx sub data
      = (n.afterStored m idx).accept (.host sid) idx sub (m.instOf (.host sid) o.sel) data := by
  have ha' := ha
  simp only [Mach.admitsBytes, Bool.and_eq_true] at ha'
  obtain ⟨⟨⟨⟨h1, -⟩, h2⟩, -⟩, -⟩ := ha'
  have hv : o.values sub data = some vals := by simpa [ho] using h2
  have hi' : idx ≠ 0x7010 ∧ idx ≠ 0xC011 ∧ idx ≠ 0xC049 := by simpa using hi
  unfold Mach.writeObj
  simp only [h1, ho, hg, hv, hw]
  simp only [Option.getD_none, Mach.writePlain, ho]
  rw [Mach.guardedBytes_of_admits ha]
  subst hn
  simp [hi'.1, hi'.2.1, hi'.2.2]
  intro a b c d e
  simp only [List.all_eq_true] at hs
  simpa using absurd (hs _ d) (by simp [e])

end Sys2Proof.Machine
end

