-- ==== Sys2Proof/Machine/Lands.lean ====
section
/-! DEFINITION. The land grid: rows, populated places and the name at each (R656 to R659). -/

namespace Sys2Proof.Machine

/-- The letters of rows (R656). -/
def rowLetters : List String :=
  ["A", "B", "C", "D", "E", "F", "G", "H", "J", "K", "L", "M", "N", "P", "T", "U", "V", "W", "Y"]

/-- The name of a row, from 1 (R656). -/
def rowName (r : Nat) : String :=
  (if r ≤ 19 then "" else if r ≤ 38 then "A" else "B") ++ nth rowLetters ((r - 1) % 19) ""

/-- A grid position carries a land (R657). -/
def hasLand (r c : Nat) : Bool :=
  decide (1 ≤ r) && decide (r ≤ 56) && decide (1 ≤ c) && decide (c ≤ 62)
    && (decide (r ≤ 8) || decide (49 ≤ r) || decide (c ≤ 7) || decide (56 ≤ c)
      || (decide (15 ≤ r) && decide (r ≤ 42) && decide (19 ≤ c) && decide (c ≤ 44)))

/-- Names with a number between two parts, for each number below n. -/
def numbered (n : Nat) (pre : String) (posts : List String) : List String :=
  (List.range n).flatMap (fun i => posts.map (fun x => pre ++ toString i ++ x))

/-- The two lands of each pair. -/
def pairLands (l : List String) : List String := l.flatMap (fun x => [x ++ "P", x ++ "M"])

/-- A region of R658: its rows, its columns, and its names in fill order. -/
structure LandRegion where
  row0 : Nat
  row1 : Nat
  col0 : Nat
  col1 : Nat
  names : List String
  deriving DecidableEq, Repr

/-- The regions of R658 but the Griust ones. -/
def landRegions : List LandRegion :=
  [ ⟨9, 32, 1, 1, List.replicate 24 "VIN"⟩,
    ⟨9, 32, 2, 2, List.replicate 24 "VIN_RTN"⟩,
    ⟨9, 14, 3, 6, pairLands ["ENC_X_A", "ENC_X_B", "ENC_X_Z"] ++ numbered 4 "TEMP_IN" ["_IP", "_IM", "_VP", "_VM"] ++ ["SEAL_A", "SEAL_B"]⟩,
    ⟨15, 17, 3, 6, pairLands ["ENC_P_A", "ENC_P_B", "ENC_P_Z", "ENC_RPT_A", "ENC_RPT_B", "ENC_RPT_Z"]⟩,
    ⟨18, 28, 3, 6, numbered 8 "HEAD_OPEN" [""] ++ ["WEB_OUT", "JAM"] ++ numbered 8 "GPIN" [""] ++ numbered 16 "PSO" [""]
      ++ ["STOP_REQ", "FAULT_N", "RESET_N", "PWR_FAIL_N"] ++ List.replicate 4 "VREF33"⟩,
    ⟨29, 30, 3, 6, ["TCK", "TMS", "TDI", "TDO", "TRST_N"]⟩,
    ⟨31, 44, 3, 6, List.replicate 56 "RSVD"⟩,
    ⟨9, 11, 56, 61, ["REFINP", "REFINM"] ++ numbered 8 "REFOUT" ["P", "M"]⟩,
    ⟨13, 16, 56, 61, numbered 4 "BIND_TX" ["P", "M"] ++ numbered 4 "BIND_RX" ["P", "M"] ++ ["HB_TXP", "HB_TXM", "HB_RXP", "HB_RXM"]⟩,
    ⟨17, 26, 56, 61, numbered 4 "CAM" ["_D0P", "_D0M", "_D1P", "_D1M", "_D2P", "_D2M", "_D3P", "_D3M", "_CKP", "_CKM"]
      ++ numbered 4 "CAM" ["_SCL", "_SDA"] ++ numbered 4 "TRIG" [""] ++ numbered 4 "FLASH" [""] ++ ["TILE_ARM"]⟩,
    ⟨28, 31, 56, 61, numbered 2 "NET" ["_TXP", "_TXM", "_RXP", "_RXM"]
      ++ numbered 2 "NET" ["_MODABS", "_TXFAULT", "_LOS", "_TXDIS", "_RS0", "_RS1", "_SCL", "_SDA"]⟩ ]

/-- The rows of a Griust port's TX and RX lands (R659). -/
def griustRows (p : Nat) : Nat × Nat :=
  if p < 16 then (1, 3) else if p < 32 then (5, 7) else if p < 48 then (56, 54) else (52, 50)

/-- The four lands of a Griust port, TXP, TXM, RXP, RXM, by row and column (R659). -/
def griustLands (p : Nat) : List (Nat × Nat) :=
  let (tx, rx) := griustRows p
  let c := 8 + 3 * (p % 16)
  [(tx, c), (tx, c + 1), (rx, c), (rx, c + 1)]

/-- The name of a Griust port's land. -/
def griustName (p k : Nat) : String :=
  "P" ++ (if p < 10 then "0" else "") ++ toString p ++ nth ["_TXP", "_TXM", "_RXP", "_RXM"] k ""

/-- The Griust land at a place. -/
def griustAt (r c : Nat) : Option String :=
  (List.range 64).findSome? (fun p => (List.range 4).findSome? (fun k =>
    if nth (griustLands p) k (0, 0) = (r, c) then some (griustName p k) else none))

/-- The name that a region gives a place. -/
def LandRegion.at_ (g : LandRegion) (r c : Nat) : Option String :=
  if g.row0 ≤ r && r ≤ g.row1 && g.col0 ≤ c && c ≤ g.col1 then g.names[(r - g.row0) * (g.col1 + 1 - g.col0) + (c - g.col0)]? else none

/-- The name of the land at a row and a column, GND where no table names it (R658); none where no land is. -/
def landName (r c : Nat) : Option String :=
  if !hasLand r c then none
  else match landRegions.findSome? (fun g => g.at_ r c) with
    | some x => some x
    | none => some ((griustAt r c).getD "GND")

end Sys2Proof.Machine
end

