-- ==== Sys2Proof/Tests/Slice0.lean ====
section
/-! SUPPORT. Tests: ill-formed commands that the check refuses, known answers, single steps, and for every statement with
hypotheses a state and operands that meet them together. -/

namespace Sys2Proof.Tests

open Sys2Proof.Machine

set_option Elab.async false

/-! ### The check of well-formedness: for each check, commands that it refuses and one that it accepts -/

theorem test_wf_refuses_input_8 : (
    [.gpinEdge 0 8] : List Instr).all (fun i => !i.wf) = true := by
  decide

theorem test_wf_accepts_input_8 : Instr.wf (.gpinEdge 0 7) = true := by decide

theorem test_wf_refuses_unit_16 : (
    [.psoPulseEnd 0 16, .breakpointHit 0 16 0] : List Instr).all (fun i => !i.wf) = true := by
  decide

theorem test_wf_accepts_unit_16 : Instr.wf (.psoPulseEnd 0 15) = true := by decide

theorem test_wf_refuses_bar_8 : (
    [.bankLoadDone 0 8 0, .composeLine 0 8 0, .fireSend 0 8] : List Instr).all (fun i => !i.wf) = true := by
  decide

theorem test_wf_accepts_bar_8 : Instr.wf (.bankLoadDone 0 7 0) = true := by decide

theorem test_wf_refuses_group_6 : (
    [.bankLoadDone 0 0 6] : List Instr).all (fun i => !i.wf) = true := by
  decide

theorem test_wf_accepts_group_6 : Instr.wf (.bankLoadDone 0 0 5) = true := by decide

theorem test_wf_refuses_port_64_1 : (
    [.lineSend 0 64, .ts1Received 0 64 ⟨0, 0, 0, false, false, false, 0⟩ false,
     .ts2Received 0 64 ⟨0, 0, 0, false, false, false, 0⟩, .eqStepTimer 0 64 0, .trainTimeout 0 64, .lockLost 0 64,
     .rxInvalidSymbol 0 64 0, .eiosReceived 0 64, .wakeBurstReceived 0 64, .delayExchange 0 64,
     .ackTimeEcho 0 64 0 0 ⟨0, 0⟩ 0, .ackCumulative 0 64 ⟨0, 0⟩ 0] : List Instr).all (fun i => !i.wf) = true := by
  decide

theorem test_wf_refuses_port_64_2 : (
    [.nakReceived 0 64 ⟨0, 0⟩ 0 0, .rxFrameBad 0 ⟨64, [], false⟩,
     .statusReceived 0 64 0 ⟨[], false, false, false, false, 0, 0, 0, 0, []⟩, .statusTimeout 0 64,
     .tokenGrantReceived 0 64 0 ⟨0, 0, 0, 0⟩, .tokenClaimTimeout 0 64, .cfgReplyReceived 0 64 0 false 0 0 [],
     .cfgTimeout 0 64, .yrDropBlock 0 0 false 64 ⟨0, 0, false, false, 0, 0, 0⟩] : List Instr).all (fun i => !i.wf) = true := by
  decide

theorem test_wf_accepts_port_64 : Instr.wf (.lineSend 0 63) = true := by decide

theorem test_wf_refuses_gate_10 : (
    [.gateInhibit 0 10, .gateInputInactive 0 10] : List Instr).all (fun i => !i.wf) = true := by
  decide

theorem test_wf_accepts_gate_10 : Instr.wf (.gateInhibit 0 9) = true := by decide

theorem test_wf_refuses_cam_4 : (
    [.trigPulseEnd 0 4, .flashStart 0 4, .flashEnd 0 4, .csiFrameStart 0 ⟨4, 0, 0⟩,
     .csiRowReceived 0 ⟨4, 0, 0⟩ ⟨0, []⟩ false false, .csiFrameEnd 0 ⟨4, 0, 0⟩, .fsTimeout 0 4, .feTimeout 0 4,
     .camBusTransferDone 0 4 false, .camTempRead 0 4 none, .calFrameTrigger 0 4] : List Instr).all (fun i => !i.wf) = true := by
  decide

theorem test_wf_accepts_cam_4 : Instr.wf (.trigPulseEnd 0 3) = true := by decide

theorem test_wf_refuses_vc_4 : (
    [.csiFrameStart 0 ⟨0, 4, 0⟩, .csiRowReceived 0 ⟨0, 4, 0⟩ ⟨0, []⟩ false false, .csiFrameEnd 0 ⟨0, 4, 0⟩] : List Instr).all (fun i => !i.wf) = true := by
  decide

theorem test_wf_accepts_vc_4 : Instr.wf (.csiFrameStart 0 ⟨0, 3, 0⟩) = true := by decide

theorem test_wf_refuses_type_64 : (
    [.csiRowReceived 0 ⟨0, 0, 0⟩ ⟨64, []⟩ false false] : List Instr).all (fun i => !i.wf) = true := by
  decide

theorem test_wf_accepts_type_64 : Instr.wf (.csiRowReceived 0 ⟨0, 0, 0⟩ ⟨63, []⟩ false false) = true := by decide

theorem test_wf_refuses_channel_8 : (
    [.refreshDue 0 8 0 false, .refreshPaybackStart 0 8, .mr4Poll 0 8 0, .memTempRead 0 8 0, .agePromotion 0 8 0,
     .memReadDone 0 8 0 0] : List Instr).all (fun i => !i.wf) = true := by
  decide

theorem test_wf_accepts_channel_8 : Instr.wf (.refreshDue 0 7 0 false) = true := by decide

theorem test_wf_refuses_requester_23 : (
    [.arbCutoff 0 23 0 0] : List Instr).all (fun i => !i.wf) = true := by
  decide

theorem test_wf_accepts_requester_23 : Instr.wf (.arbCutoff 0 22 0 0) = true := by decide

theorem test_wf_refuses_requester_8 : (
    [.memReadDone 0 0 8 0] : List Instr).all (fun i => !i.wf) = true := by
  decide

theorem test_wf_accepts_requester_8 : Instr.wf (.memReadDone 0 0 7 0) = true := by decide

theorem test_wf_refuses_engine_13 : (
    [.engineFault 0 13 0] : List Instr).all (fun i => !i.wf) = true := by
  decide

theorem test_wf_accepts_engine_13 : Instr.wf (.engineFault 0 12 0) = true := by decide

theorem test_wf_refuses_engine_14 : (
    [.semTry 0 14 0, .semWait 0 14 0, .semRelease 0 14 0, .semRenew 0 14 0, .semDeclareRecovery 0 14 0] : List Instr).all (fun i => !i.wf) = true := by
  decide

theorem test_wf_accepts_engine_14 : Instr.wf (.semTry 0 13 0) = true := by decide

theorem test_wf_refuses_sem_64 : (
    [.semLeaseExpired 0 64] : List Instr).all (fun i => !i.wf) = true := by
  decide

theorem test_wf_accepts_sem_64 : Instr.wf (.semLeaseExpired 0 63) = true := by decide

theorem test_wf_refuses_breakpoint_4 : (
    [.breakpointHit 0 0 4] : List Instr).all (fun i => !i.wf) = true := by
  decide

theorem test_wf_accepts_breakpoint_4 : Instr.wf (.breakpointHit 0 0 3) = true := by decide

theorem test_wf_refuses_path_2 : (
    [.pathAbsent 0 2 0] : List Instr).all (fun i => !i.wf) = true := by
  decide

theorem test_wf_accepts_path_2 : Instr.wf (.pathAbsent 0 1 0) = true := by decide

theorem test_wf_refuses_port_2 : (
    [.netFrameReceived 0 2 ⟨0, 0, none, 0, false, false, 0, 0, 0⟩, .netLinkUp 0 2, .netLinkDown 0 2 0,
     .ptpSync 0 0 2 0 0 false 0 0 0 0, .ptpFollowUp 0 0 2 0 0 0 0, .ptpAnnounce 0 0 2 ⟨0, 0, [], 0, 0⟩,
     .ptpDelayResp 0 0 2 0 0 0 0 0, .ptpPdelayReq 0 0 2 0 0 0, .ptpPdelayResp 0 0 2 0 0 false 0 0 0,
     .pdelayReqTimer 0 0 2] : List Instr).all (fun i => !i.wf) = true := by
  decide

theorem test_wf_accepts_port_2 : Instr.wf (.netFrameReceived 0 1 ⟨0, 0, none, 0, false, false, 0, 0, 0⟩) = true := by decide

theorem test_wf_refuses_domain_2 : (
    [.ptpSync 0 2 0 0 0 false 0 0 0 0, .ptpFollowUp 0 2 0 0 0 0 0, .ptpAnnounce 0 2 0 ⟨0, 0, [], 0, 0⟩,
     .ptpDelayResp 0 2 0 0 0 0 0 0, .ptpPdelayReq 0 2 0 0 0 0, .ptpPdelayResp 0 2 0 0 0 false 0 0 0,
     .delayReqTimer 0 2, .pdelayReqTimer 0 2 0, .ptpHoldover 0 2] : List Instr).all (fun i => !i.wf) = true := by
  decide

theorem test_wf_accepts_domain_2 : Instr.wf (.ptpSync 0 1 0 0 0 false 0 0 0 0) = true := by decide

/-! ### States and operands -/

/-- A state with nothing waiting and no byte of job memory listed. -/
def st (m : Mach) : State := { State.reset with m := m }
/-- The module that a command finds in that state at once. -/
def fd (m : Mach) : Mach := (st m).found 0
/-- The module in a mode, with network port 0 up and session 1 open at a level and with these selectors. -/
def ready (md : Mode) (level : Nat) (loc : Locals := {}) : Mach :=
  { State.reset.m with sys.mode := md, time.net0.linkUp := true, hy.sessions := [(1, { level := level, authed := true, src := 9, loc := loc })] }
/-- A head of 128 nozzles in slot 0 of a port whose link is up. -/
def withHead (m : Mach) (p : Nat) : Mach :=
  { m.setNum 0x3010 1 p (2 ^ 29 + 128 * 2 ^ 14) with ports := [(p, { link.phase := .active })] }
/-- A job with a 1-bit layer 0 and layer 7 in its shadow, and content 3. -/
def posting : Mach :=
  { ((((ready .print 4).setNum 0x5001 1 0 1).setNum 0x5010 1 0 2).setNum 0x5010 1 7 2).setNum 0x5010 13 7 1 with frc.objects := [(3, {})] }
def oNone : Obj := { idx := 0, name := "", form := .simple, acc := .ro, flds := [] }
/-- With an origin and no line composed. -/
def originSet : Mach := fd { ready .idle 4 with enc.origin := some 0 }
/-- With an origin and bar 0 composed to line 1. -/
def lineComposed : Mach := fd { ready .idle 4 with enc.origin := some 0, seams.compNext := [(0, 1)] }
/-- With an origin and the events before 5 of bar 7 fired. -/
def lineFired : Mach := fd { ready .idle 4 with enc.origin := some 0, seams.fireNext := [(7, 5)] }
/-- A P-256 public key, two messages and their signatures, computed outside the model. -/
def key : Bytes := (beBytes 64 0x7cf27b188d034f7e8a52380304b51ac3c08969e277f21b35a60b48fc4766997807775510db8ed040293d9ac69f7430dbba7dade63ce982299e04b79d227873d1)
/-- 48 bytes that end in "auth". -/
def message : Bytes := (beBytes 48 0x0102030405060708090a0b0c0d0e0f101112131415161718191a1b1c1d1e1f202122232425262728292a2b2c61757468)
def signature : Bytes := (beBytes 64 0x5ecbe4d1a6330a44c8f7ef951d4bf165e6c6b721efada985fb41661bc6e7fd6c6efda902e69b4fadabb53cccc6d4bbd22cea0124ae763cddd1651dce4882e2ba)
/-- A METRO_WRITE of NOMINAL_PITCH 500000. -/
def metro : Bytes := (beBytes 28 0x18c001000102030405060708090a0b0c0d0e0f100400000020a10700)
def metroSignature : Bytes := (beBytes 64 0x5ecbe4d1a6330a44c8f7ef951d4bf165e6c6b721efada985fb41661bc6e7fd6cf64937253c56135d5794bb6a67325ff2c0d54c2f45346b2c683190fff8a28499)
theorem test_signature : ecdsaOk key (sha256 message) signature = true := by decide +kernel
theorem test_metro_signature : ecdsaOk key (sha256 metro) metroSignature = true := by decide +kernel
/-- The first 128 bytes of a firmware image of one byte, 7 (R631), and their signature. -/
def fwHead : Bytes := (beBytes 128 0x544c5746010000020000000001000000ca358758f6d27e6cf45272937977a748fd88391db679ceda7dc7bf1f005ee8797cf27b188d034f7e8a52380304b51ac3c08969e277f21b35a60b48fc4766997807775510db8ed040293d9ac69f7430dbba7dade63ce982299e04b79d227873d100000000000000000000000000000000)
def fwSignature : Bytes := (beBytes 64 0x5ecbe4d1a6330a44c8f7ef951d4bf165e6c6b721efada985fb41661bc6e7fd6cb2fa74219790dbe76665bff74ff6067508618ecd0691321dc5483103ecc179c5)
def fwImageBytes : Bytes := fwHead ++ fwSignature ++ List.replicate 64 0 ++ [7]
theorem test_firmware_signature : ecdsaOk key (sha256 fwHead) fwSignature = true := by decide +kernel
/-- The next request of session 1, with its MAC under an empty key. -/
def ask (op : Nat) (body : Bytes) (seq : Nat := 1) : HyMsg :=
  let x : HyMsg := ⟨0, 9, 56 + body.length, 0x5948, 1, 1, seq, false, false, body, []⟩
  { x with mac := hyExpected x [] op }
/-- A HELLO of level 4. -/
def helloMsg : HyMsg :=
  ⟨0, 9, 140, 0x5948, 1, 0, 0, false, false, [4, 0, 0, 0] ++ List.replicate 16 0 ++ key, List.replicate 32 0⟩
def opened : Session := { level := 4, authed := true, src := 9 }
/-- The start of a BULK_OPEN of a mark of 8 by 1 dots. -/
def bulkHead : Bytes := [1, 0, 0, 1] ++ leBytes 4 0 ++ leBytes 4 0 ++ leBytes 4 8 ++ leBytes 4 1
def bulkBody : Bytes := bulkHead ++ leBytes 8 (openedContent (bulkHead ++ List.replicate 108 0)).streamBytes ++ List.replicate 100 0
/-- A chunk of 64 bytes of transfer 7. -/
def chunkHead : Bytes := leBytes 4 7 ++ leBytes 2 64 ++ [0, 0] ++ leBytes 8 0 ++ List.replicate 64 5
def chunk : Bytes := chunkHead ++ leBytes 4 (crc32 chunkHead)
def otpHead (flags : Byte) : Bytes := [0x43, 0x4F, 0, 0, flags] ++ List.replicate 119 0
def otpBlockOf (flags : Byte) : Bytes := otpHead flags ++ leBytes 4 (crc32 (otpHead flags))
/-- With a job in effect and the reference ring wide enough. -/
def armable : Mach :=
  let m := (ready .idle 4).setNum 0x5001 1 0 1
  { m with dict.effNums := m.dict.nums }
/-- With the signing key's hash in slot 3. -/
def keyed : Mach := { ready .idle 4 with sys.keyHashes := [[], [], [], sha256 key] }

theorem test_no_word_spells_a_command : decodeTableWord 32 0x12345678 = none := by decide

/-! ### Known answers: FIPS 180-4, RFC 4231, the check values of the CRCs, and the manual's worked examples -/

theorem test_sha256_abc : sha256 [0x61, 0x62, 0x63]
    = beBytes 32 0xba7816bf8f01cfea414140de5dae2223b00361a396177a9cb410ff61f20015ad := by decide +kernel

theorem test_hmac_rfc4231_case_2 : hmac (ascii "Jefe") (ascii "what do ya want for nothing?")
    = beBytes 32 0x5bdcc146bf60754e6a042426089575c75a003f089d2739839dec58b964ec3843 := by decide +kernel

theorem test_crc32_check : crc32 (ascii "123456789") = 0xCBF43926 := by decide +kernel

/-- The compare positions of chapter 02, after R58 and R65. -/
theorem test_r58_positions :
    [1, 2, 3, 7, 15].map (fun w => posAt 0 0x2A55555555 w 0 0) = [42, 85, 127, 296, 635] := by decide

/-- The zone offset of chapter 05's worked position (R156). -/
theorem test_r156_zone_offset :
    pixelOffset ((List.range 256).flatMap (fun k => leBytes 2 (if k = 178 then 32 else if k = 195 then 64 else 0))) 8256 128 = 40 := by
  decide +kernel

/-- The factor of chapter 14's worked calibration (R480). -/
theorem test_r480_factor : State.reset.m.measured 4000600 = -149978 := by decide +kernel

/-- The lengths of chapter 09's full frame (R346). -/
theorem test_r346_input_length : Content.inputLen { w := 80314, h := 24000, coding := 1, mask := 1 } = 481884000 := by decide +kernel

/-- The lands of port P37 and the rows' names (R656, R658, R659). -/
theorem test_r659_lands : landName 56 23 = some "P37_TXP" ∧ landName 56 24 = some "P37_TXM" ∧ landName 54 23 = some "P37_RXP"
    ∧ landName 54 24 = some "P37_RXM" ∧ [9, 20, 39, 54, 56].map rowName = ["J", "AA", "BA", "BU", "BW"] := by decide +kernel

/-- The lands are 2,280 (R657). -/
theorem test_r657_count :
    sumOf ((List.range 56).map (fun r => ((List.range 62).filter (fun c => hasLand (r + 1) (c + 1))).length)) = 2280 := by decide +kernel

/-- Where address 0x1_2345_6780 lies under MAP2 and MAP3 (chapter 11, after R369). -/
theorem test_r369_place : memPlace 2 0x123456780 = { chan := 7, bank := 12, row := 0x48D1, column := 0x280 }
    ∧ memPlace 3 0x123456780 = { chan := 2, bank := 13, row := 0x48D1, column := 0x280 } := by decide

/-- R196: a FIRE's header, with SEQ 3 on port 5, from module 2. -/
theorem test_r196_frame : (frameBytes ⟨.fire 0 true, 3, none, 0, false, false⟩ 5 1).length = 20 + bodySize (.fire 0 true)
    ∧ frameFault (frameBytes ⟨.fire 0 true, 3, none, 0, false, false⟩ 5 1) false = none := by decide +kernel

/-! ### One step each -/

/-- The module's state in an outcome's next state. -/
def after (r : Host.Outcome State Fault Refusal) : Option Mach :=
  match r with
  | .next s => some s.m
  | _ => none

/-- R36: a count forward moves the raw position by one. -/
theorem test_enc_count : (after (exec (.encCount 0 true) (st (ready .idle 4)))).map (fun m => m.enc.raw) = some 1 := by decide +kernel

/-- R37: an illegal transition does not move it. -/
theorem test_enc_illegal : (after (exec (.encIllegal 0) (st (ready .idle 4)))).map (fun m => (m.enc.raw, m.enc.illegalTotal))
    = some (0, 1) := by decide +kernel

/-- R571: DEVICE_ID reads 0x0A174C03, least significant byte first. -/
theorem test_device_id : ((fd (ready .idle 4)).look (.host 1) 0x1000 0 false).toOption
    = some ([0x03, 0x4C, 0x17, 0x0A], 0) := by decide +kernel

/-- R558: an object that the dictionary lacks. -/
theorem test_dict_write_unknown : (after (exec (.dictWrite 0 1 0x1FFF 0 []) (st (ready .idle 4)))).map (fun m => m.out)
    = some [.answer (.host 1) 0x1FFF 0 .unknownObject] := by decide +kernel

/-- R627: the module starts at power-good, in BOOT. -/
theorem test_power_good : (after (exec (.powerGood 0) State.reset)).map (fun m => m.sys.mode) = some .boot := by decide +kernel

/-- R613: IDLE to SERVICE. -/
theorem test_mode_service : (after (exec (.modeRequestService 0 1) (st (ready .idle 4)))).map (fun m => m.sys.mode)
    = some .service := by decide +kernel

/-- A step takes the front of the queue and leaves the rest. -/
theorem test_step_takes_the_front :
    (match step { st (ready .idle 4) with pending := [.encCount 0 true, .encIllegal 0] } with
      | .next s => s.pending | _ => []) = [.encIllegal 0] := by decide +kernel

/-! ### Witnesses of the statements, clause by clause -/

theorem test_StepRunsTheFront_has_witness :
    (let s : State := st (State.reset.m);
      s.pending = []) :=
  by decide +kernel

theorem test_EveryStepKeepsTheInvariant_has_witness :
    (State.reset.Inv ∧ step State.reset = .next State.reset) :=
  ⟨rfl, rfl⟩

theorem test_CommandsRunAndLeaveTheQueue_has_witnesses :
    ((Instr.tapIdcode 0).wf = true)
    ∧ ((Instr.psoPulseEnd 0 16).wf = false)
    ∧ (∃ t, exec (.tapIdcode 0) State.reset = .next t) :=
  ⟨by decide,
    by decide,
    ⟨_, rfl⟩⟩

theorem test_OtherCommandsLeaveJobMemory_has_witness :
    (mayStore (.tapIdcode 0) = false ∧ ∃ t, exec (.tapIdcode 0) State.reset = .next t) :=
  ⟨rfl, _, rfl⟩

theorem test_JobMemoryReadsWhatWasWritten_has_witnesses :
    (Memory.wf (Memory.write [] 3 5) = true)
    ∧ (Memory.wf (st (ready .idle 4)).mem = true ∧ ∃ t, (st (ready .idle 4)).actUser 0 id = .next t) :=
  ⟨by decide,
    ⟨by decide, _, rfl⟩⟩

theorem test_RefusedWritesChangeNothing_has_witnesses :
    (let dt : Nat := 0;
      let sid : Nat := 1;
      let idx : Nat := 0x2100;
      let sub : Nat := 9;
      let s : State := st ((ready .idle 4));
      (s.found dt).answers (.host sid) = true
      ∧ (match findObj idx with | none => true | some o => !o.hasSub sub) = true)
    ∧ (let dt : Nat := 0;
      let sid : Nat := 1;
      let idx : Nat := 0x2100;
      let sub : Nat := 9;
      let consume : Bool := true;
      let s : State := st ((ready .idle 4));
      (s.found dt).answers (.host sid) = true
      ∧ (match findObj idx with | none => true | some o => !o.hasSub sub) = true
      ∧ (idx ≠ 0xC019 ∨ sub ≠ 0 ∨ consume = true))
    ∧ (let dt : Nat := 0;
      let sid : Nat := 1;
      let idx : Nat := 0x1001;
      let sub : Nat := 1;
      let s : State := st ((ready .idle 4));
      let o : Obj := (findObj 0x1001).getD oNone;
      (s.found dt).answers (.host sid) = true ∧ findObj idx = some o ∧ o.hasSub sub = true
      ∧ (o.acc = .ro ∨ o.acc = .rc))
    ∧ (let dt : Nat := 0;
      let sid : Nat := 1;
      let idx : Nat := 0x2100;
      let sub : Nat := 0;
      let data : Bytes := [0,0,0,0];
      let s : State := st ((ready .armed 4));
      let o : Obj := (findObj 0x2100).getD oNone;
      let vals : List (Nat × Fld × Bytes) := (((findObj 0x2100).getD oNone).values 0 [0,0,0,0]).getD [];
      (s.found dt).answers (.host sid) = true ∧ findObj idx = some o ∧ o.values sub data = some vals
      ∧ (s.found dt).accessGate (.host sid) idx sub 15 = .ok
      ∧ (s.found dt).accessGate (.host sid) idx sub (writeLevels idx sub) = .ok
      ∧ (s.found dt).modeGate idx sub = .modeLocked ∧ (s.found dt).writeOwn (.host sid) idx sub data = none
      ∧ idx ≠ 0x7010)
    ∧ (let m : Mach := fd ((ready .idle 4));
      let w : Who := Who.host 1;
      let idx : Nat := 0x2120;
      let sub : Nat := 0;
      let v : Int := (0 : Int);
      m.answers w = true ∧ m.writeGate w idx sub = .ok ∧ okValueAt idx sub v = false) :=
  ⟨by decide +kernel,
    by decide +kernel,
    by decide +kernel,
    by decide +kernel,
    by decide +kernel⟩

theorem test_CountsMoveTheRawPosition_has_witnesses :
    (let m : Mach := fd ((ready .idle 4));
      m.counts = true)
    ∧ (let aLeads : Bool := true;
      let m : Mach := fd ((ready .idle 4));
      m.counts = true ∧ (aLeads != bit (m.nat 0x2100 0 0) 8) = true ∧ m.enc.dirNoticed = false
      ∧ m.enc.waitForward = false ∧ max m.enc.hiRaw (m.enc.raw + 1) - m.num 0x2105 0 0 ≤ m.enc.raw + 1)
    ∧ (let aLeads : Bool := false;
      let m : Mach := fd ({ (ready .idle 4) with enc := { State.reset.m.enc with hiRaw := 9, raw := 5 } });
      m.counts = true ∧ (aLeads != bit (m.nat 0x2100 0 0) 8) = false ∧ m.enc.dirNoticed = false
      ∧ m.enc.raw - 1 < max m.enc.hiRaw (m.enc.raw - 1) - m.num 0x2105 0 0)
    ∧ (let dt : Nat := 0;
      let s : State := st (State.reset.m);
      (s.found dt).counts = false) :=
  ⟨by decide +kernel,
    by decide +kernel,
    by decide +kernel,
    by decide +kernel⟩

theorem test_EncoderFaultsAreRaisedAndCleared_has_witnesses :
    (let m : Mach := fd ((ready .idle 4));
      let times : List Nat := m.enc.illegalTimes.filter (fun t => decide (m.now < t + 1000000)) ++ [m.now];
      m.counts = true ∧ times.length < m.nat 0x2104 0 0)
    ∧ (let m : Mach := fd ({ (ready .idle 4) with enc.illegalTimes := [0, 0, 0] });
      let times : List Nat := m.enc.illegalTimes.filter (fun t => decide (m.now < t + 1000000)) ++ [m.now];
      m.counts = true ∧ m.nat 0x2104 0 0 ≤ times.length)
    ∧ (let dt : Nat := 0;
      let s : State := st (State.reset.m);
      (s.found dt).counts = false)
    ∧ (let m : Mach := fd ({ (ready .idle 4) with enc.faultCause := 2 });
      bit m.enc.faultCause 1 = true)
    ∧ (let m : Mach := fd ((ready .idle 4));
      bit m.enc.faultCause 1 = false)
    ∧ (let sid : Nat := 1;
      let m : Mach := fd ({ (ready .idle 4) with enc.fault := true });
      m.admits (.host sid) 0x2102 0 1 = true ∧ m.enc.fault = true ∧ m.enc.speedState = 0 ∧ m.enc.openLines = []
      ∧ m.illegalNow < m.nat 0x2104 0 0)
    ∧ (let sid : Nat := 1;
      let v : Nat := (0 : Nat);
      let m : Mach := fd ((ready .idle 4));
      m.admits (.host sid) 0x2102 0 v = true
      ∧ (v = 0 ∨ (v = 1 ∧ m.enc.fault = false ∧ m.enc.speedState = 0 ∧ m.enc.openLines = [] ∧ m.illegalNow < m.nat 0x2104 0 0)))
    ∧ (let sid : Nat := 1;
      let m : Mach := fd ({ (ready .idle 4) with enc.openLines := [.a] });
      m.admits (.host sid) 0x2102 0 1 = true
      ∧ (m.enc.speedState ≠ 0 ∨ m.enc.openLines ≠ [] ∨ m.nat 0x2104 0 0 ≤ m.illegalNow)) :=
  ⟨by decide +kernel,
    by decide +kernel,
    by decide +kernel,
    by decide +kernel,
    by decide +kernel,
    by decide +kernel,
    by decide +kernel,
    by decide +kernel⟩

theorem test_IndexIsIgnoredWhileCountingDown_has_witnesses :
    (let dt : Nat := 0;
      let s : State := st ({ State.reset.m with enc.dirDown := true });
      (s.found dt).enc.dirDown = true)
    ∧ (let dt : Nat := 0;
      let s : State := st (State.reset.m);
      (s.found dt).counts = false) :=
  ⟨by decide +kernel,
    by decide +kernel⟩

theorem test_IndexOriginAndStall_has_witnesses :
    (let m : Mach := fd ((ready .idle 4));
      m.counts = true ∧ m.enc.dirDown = false ∧ (m.nat 0x2109 0 0 = 0 ∨ m.enc.indexFree = true))
    ∧ (let m : Mach := fd ({ (ready .idle 4).setNum 0x2109 0 0 1000 with enc := { State.reset.m.enc with raw := 1000, indexFree := false } });
      let spacing : Nat := m.nat 0x2109 0 0;
      let d : Int := m.enc.raw - m.enc.indexRef;
      let k : Int := max 1 ((2 * d + spacing) / (2 * spacing));
      m.counts = true ∧ m.enc.dirDown = false ∧ spacing ≠ 0 ∧ m.enc.indexFree = false
      ∧ (d - k * spacing).natAbs ≤ m.nat 0x210A 0 0 ∧ k = 1)
    ∧ (let m : Mach := fd ({ (ready .idle 4).setNum 0x2109 0 0 1000 with enc := { State.reset.m.enc with raw := 2000, indexFree := false } });
      let spacing : Nat := m.nat 0x2109 0 0;
      let d : Int := m.enc.raw - m.enc.indexRef;
      let k : Int := max 1 ((2 * d + spacing) / (2 * spacing));
      m.counts = true ∧ m.enc.dirDown = false ∧ spacing ≠ 0 ∧ m.enc.indexFree = false
      ∧ (d - k * spacing).natAbs ≤ m.nat 0x210A 0 0 ∧ 1 < k)
    ∧ (let m : Mach := fd ({ (ready .idle 4).setNum 0x2109 0 0 1000 with enc := { State.reset.m.enc with raw := 400, indexFree := false } });
      let spacing : Nat := m.nat 0x2109 0 0;
      let d : Int := m.enc.raw - m.enc.indexRef;
      let k : Int := max 1 ((2 * d + spacing) / (2 * spacing));
      m.counts = true ∧ m.enc.dirDown = false ∧ spacing ≠ 0 ∧ m.enc.indexFree = false
      ∧ m.nat 0x210A 0 0 < (d - k * spacing).natAbs)
    ∧ (let m : Mach := fd ((ready .idle 4));
      m.pair.role ≠ 1 ∧ m.pair.role ≠ 4)
    ∧ (let sid : Nat := 1;
      let v : Nat := (1 : Nat);
      let m : Mach := fd ((ready .idle 4));
      m.admits (.host sid) 0x210B 0 v = true)
    ∧ (let m : Mach := fd ({ (ready .idle 4) with enc.window := [(0, 0)], now := 5000000000 });
      m.enc.lastCount + m.nat 0x2131 0 0 * 1000000 ≤ m.now
      ∧ (m.enc.counted = true ∨ m.enc.window ≠ [] ∨ m.enc.datumTimes ≠ []))
    ∧ (let m : Mach := fd ((ready .idle 4));
      (m.now < m.enc.lastCount + m.nat 0x2131 0 0 * 1000000 ∨ (m.enc.counted = false ∧ m.enc.window = [] ∧ m.enc.datumTimes = [])))
    ∧ (let m : Mach := fd ({ (ready .armed 4) with enc.armed := true });
      m.sys.mode = .armed ∧ m.enc.armed = true)
    ∧ (let m : Mach := fd ({ (ready .armed 4) with enc.armed := true });
      let source : Nat := 1;
      m.sys.mode = .armed ∧ m.enc.armed = true ∧ source ≠ m.enc.armSource) :=
  ⟨by decide +kernel,
    by decide +kernel,
    by decide +kernel,
    by decide +kernel,
    by decide +kernel,
    by decide +kernel,
    by decide +kernel,
    by decide +kernel,
    by decide +kernel,
    by decide +kernel⟩

theorem test_PsoPulsesAndSchedules_has_witnesses :
    (let n : Nat := 15;
      let e : Nat := 0;
      let m : Mach := fd ({ (ready .idle 4) with psos := [(15, { pulseEnd := some 0 })] });
      n < 16 ∧ (m.pso n).pulseEnd = some e ∧ e ≤ m.now)
    ∧ (let n : Nat := 15;
      let e : Nat := 1;
      let m : Mach := fd ({ (ready .idle 4) with psos := [(15, { pulseEnd := some 1 })] });
      n < 16 ∧ (m.pso n).pulseEnd = some e ∧ m.now < e)
    ∧ (let sid : Nat := 1;
      let n : Nat := 15;
      let v : Nat := (3 : Nat);
      let m : Mach := fd ((ready .idle 4));
      n < 16 ∧ m.admits (.host sid) 0x2142 (n + 1) v = true ∧ (m.enc.origin = none ∨ (m.pso n).next ≤ bits v 0 48)
      ∧ m.psoFree n ≠ 0)
    ∧ (let sid : Nat := 1;
      let n : Nat := 0;
      let v : Nat := (3 : Nat);
      let m : Mach := fd ({ (ready .idle 4) with enc.origin := some 0, psos := [(0, { next := 4 })] });
      n < 16 ∧ m.admits (.host sid) 0x2142 (n + 1) v = true ∧ m.enc.origin.isSome = true
      ∧ bits v 0 48 < (m.pso n).next)
    ∧ (let sid : Nat := 1;
      let n : Nat := 15;
      let v : Nat := (3 : Nat);
      let m : Mach := fd ({ (ready .idle 4) with psos := [(15, { queue := List.replicate 48 ⟨3, 0, none⟩ })] });
      n < 16 ∧ m.admits (.host sid) 0x2142 (n + 1) v = true ∧ (m.enc.origin = none ∨ (m.pso n).next ≤ bits v 0 48)
      ∧ m.psoFree n = 0) :=
  ⟨by decide +kernel,
    by decide +kernel,
    by decide +kernel,
    by decide +kernel,
    by decide +kernel⟩

theorem test_CommitsAreDecidedOrWait_has_witnesses :
    (let sid : Nat := 1;
      let target : Nat := 0;
      let scope : Nat := 1;
      let id : Nat := 7;
      let flags : Nat := 0;
      let m : Mach := fd ((ready .idle 4));
      m.answers (.host sid) = true ∧ m.writeGate (.host sid) 0x2000 0 = .ok
      ∧ (okValueAt 0x2000 1 target && okValueAt 0x2000 2 scope && okValueAt 0x2000 3 id && okValueAt 0x2000 4 flags) = true
      ∧ (m.seams.table.any (fun x => seamLive x && x.id = id)) = false
      ∧ (m.seams.table.filter (fun x => seamLive x && x.host)).length < 24 ∧ m.shadowsLoaded scope = true
      ∧ (m.commitAt target scope id flags true).2 = false)
    ∧ (let sid : Nat := 1;
      let target : Nat := 4;
      let scope : Nat := 1;
      let id : Nat := 7;
      let flags : Nat := 0;
      let m : Mach := fd ({ (ready .print 4) with enc.origin := some 0, seams.fireNext := [(0, 5)] });
      m.answers (.host sid) = true ∧ m.writeGate (.host sid) 0x2000 0 = .ok
      ∧ (okValueAt 0x2000 1 target && okValueAt 0x2000 2 scope && okValueAt 0x2000 3 id && okValueAt 0x2000 4 flags) = true
      ∧ (m.seams.table.any (fun x => seamLive x && x.id = id)) = false
      ∧ (m.seams.table.filter (fun x => seamLive x && x.host)).length < 24 ∧ m.shadowsLoaded scope = true
      ∧ (m.commitAt target scope id flags true).2 = true)
    ∧ (let sid : Nat := 1;
      let target : Nat := 0;
      let scope : Nat := 2;
      let id : Nat := 7;
      let flags : Nat := 0;
      let m : Mach := fd ({ (ready .idle 4) with seams.banks := [(1, { loads := [0] })] });
      m.answers (.host sid) = true ∧ m.writeGate (.host sid) 0x2000 0 = .ok
      ∧ (okValueAt 0x2000 1 target && okValueAt 0x2000 2 scope && okValueAt 0x2000 3 id && okValueAt 0x2000 4 flags) = true
      ∧ (m.seams.table.any (fun x => seamLive x && x.id = id)) = false
      ∧ (m.seams.table.filter (fun x => seamLive x && x.host)).length < 24 ∧ m.shadowsLoaded scope = false)
    ∧ (let sid : Nat := 1;
      let target : Nat := 0;
      let scope : Nat := 1;
      let id : Nat := 7;
      let flags : Nat := 0;
      let m : Mach := fd ({ (ready .idle 4) with seams.table := [{ id := 7, state := 1, outcome := 1, target := 9, applied := some 9, slip := 0, composed := 0, fired := 0, time := 0, scope := 1, squashed := 0, host := true }] });
      m.answers (.host sid) = true ∧ m.writeGate (.host sid) 0x2000 0 = .ok
      ∧ (okValueAt 0x2000 1 target && okValueAt 0x2000 2 scope && okValueAt 0x2000 3 id && okValueAt 0x2000 4 flags) = true
      ∧ (m.seams.table.any (fun x => seamLive x && x.id = id)) = true)
    ∧ (let sid : Nat := 1;
      let id : Nat := 7;
      let m : Mach := fd ({ (ready .idle 4) with seams.table := [{ id := 7, state := 1, outcome := 1, target := 9, applied := some 9, slip := 0, composed := 0, fired := 0, time := 0, scope := 1, squashed := 0, host := true }] });
      let x : Seam := { id := 7, state := 1, outcome := 1, target := 9, applied := some 9, slip := 0, composed := 0, fired := 0, time := 0, scope := 1, squashed := 0, host := true };
      m.admits (.host sid) 0x2003 0 id = true ∧ m.liveSeam id = some x ∧ m.mayCancel x = true)
    ∧ ((fd (ready .idle 4)).admits (.host 1) 0x2003 0 7 = true
      ∧ (∀ x, (fd (ready .idle 4)).liveSeam 7 = some x → (fd (ready .idle 4)).mayCancel x = false)) :=
  ⟨by decide +kernel,
    by decide +kernel,
    by decide +kernel,
    by decide +kernel,
    by decide +kernel,
    by
      have h : (fd (ready .idle 4)).liveSeam 7 = none := by decide +kernel
      exact ⟨by decide +kernel, fun x hx => absurd (h.symm.trans hx) (by simp)⟩⟩

theorem test_EveryCommitHasItsOutcome_has_witnesses :
    (lineFired.enc.origin.isSome = true ∧ (∃ k, k < 8 ∧ 4 < lineFired.fireNext k))
    ∧ (originSet.enc.origin.isSome = true ∧ (∀ k, k < 8 → originSet.fireNext k ≤ 0) ∧ originSet.compTop ≤ 0)
    ∧ (lineComposed.enc.origin.isSome = true ∧ (∀ k, k < 8 → lineComposed.fireNext k ≤ 0) ∧ 0 < lineComposed.compTop)
    ∧ (lineComposed.enc.origin.isSome = true ∧ (∀ k, k < 8 → lineComposed.fireNext k ≤ 0) ∧ 0 < lineComposed.compTop
      ∧ (0 : Nat) = 0) :=
  ⟨⟨by decide +kernel, 7, by decide, by decide +kernel⟩,
    ⟨by decide +kernel, fun _ _ => Nat.le_refl 0, by decide +kernel⟩,
    ⟨by decide +kernel, fun _ _ => Nat.le_refl 0, by decide +kernel⟩,
    ⟨by decide +kernel, fun _ _ => Nat.le_refl 0, by decide +kernel, rfl⟩⟩

theorem test_LinesAreComposedSentAndFired_has_witnesses :
    (let bar : Nat := 7;
      let group : Nat := 4;
      let m : Mach := fd ({ (ready .idle 4) with seams.banks := [(60, { loads := [0] })] });
      bar < 8 ∧ group < 6 ∧ (m.banks bar group).loads ≠ [] ∧ ffind m.seams.bankWait (8 * bar + group) = none)
    ∧ (let bar : Nat := 7;
      let group : Nat := 4;
      let since : Nat := 0;
      let m : Mach := fd ({ (ready .idle 4) with seams := { State.reset.m.seams with banks := [(60, { loads := [0] })], bankWait := [(60, 0)] } });
      let n : Mach := m.onBanks bar group (fun b => { b with loads := b.loads.drop 1 });
      bar < 8 ∧ group < 6 ∧ (m.banks bar group).loads ≠ [] ∧ ffind m.seams.bankWait (8 * bar + group) = some since
      ∧ (n.banks bar group).loads.contains 1 = false)
    ∧ (let bar : Nat := 7;
      let group : Nat := 4;
      let m : Mach := fd ((ready .idle 4));
      bar < 8 ∧ group < 6 ∧ (m.banks bar group).loads = [])
    ∧ (let bar : Nat := 7;
      let took : Nat := 0;
      let m : Mach := fd ({ (ready .print 4) with enc.origin := some 0 });
      bar < 8 ∧ (m.mayCompose bar (m.nextToCompose bar) && m.paced bar took) = true
      ∧ m.bankBusy bar (m.nextToCompose bar) = none)
    ∧ (let bar : Nat := 7;
      let took : Nat := 0;
      let m : Mach := fd ({ (ready .print 4) with enc.origin := some 0, seams.banks := [(60, { loads := [1], nextSeam := some 0 })] });
      let g : Nat := 4;
      bar < 8 ∧ (m.mayCompose bar (m.nextToCompose bar) && m.paced bar took) = true
      ∧ m.bankBusy bar (m.nextToCompose bar) = some g ∧ ffind m.seams.bankWait (8 * bar + g) = none)
    ∧ (let port : Nat := 63;
      let m : Mach := fd ({ (withHead (ready .print 4) 63) with enc.origin := some 0, seams.compNext := [(7, 1)] });
      let e : Nat := m.nextLineOf port;
      port < 64 ∧ m.lineDue port e = true)
    ∧ (let port : Nat := 63;
      let m : Mach := fd ((ready .idle 4));
      port < 64 ∧ m.lineDue port (m.nextLineOf port) = false)
    ∧ (let bar : Nat := 7;
      let t : Nat := 7500;
      let late : Bool := true;
      let m : Mach := fd ({ (withHead (ready .print 4) 0) with enc.origin := some 0 });
      bar < 8 ∧ m.fireDue bar = some (t, late))
    ∧ (let bar : Nat := 7;
      let m : Mach := fd ((ready .idle 4));
      bar < 8 ∧ m.fireDue bar = none)
    ∧ (let bar : Nat := 7;
      let m : Mach := fd ((ready .idle 4));
      bar < 8 ∧ m.firesEvents = false) :=
  ⟨by decide +kernel,
    by decide +kernel,
    by decide +kernel,
    by decide +kernel,
    by decide +kernel,
    by decide +kernel,
    by decide +kernel,
    by decide +kernel,
    by decide +kernel,
    by decide +kernel⟩

theorem test_FramesAndStoppedPorts_has_witnesses :
    (let m : Mach := fd ({ ready .print 4 with ports := [(63, { tx.freeAt := 1 })] });
      let p : Nat := 63;
      m.now < (m.port p).tx.freeAt)
    ∧ (let m : Mach := fd (ready .print 4);
      let p : Nat := 63;
      let body : FrameBody := (.fire 0 true);
      (m.port p).tx.freeAt ≤ m.now ∧ (m.port p).tx.queue = [] ∧ bodyType body ≠ 0x21)
    ∧ (let m : Mach := fd (ready .print 4);
      let p : Nat := 63;
      let body : FrameBody := (.fire 0 true);
      (m.port p).tx.freeAt ≤ m.now ∧ (m.port p).tx.queue = [] ∧ bodyType body ≠ 0x21 ∧ bodySequenced body = true)
    ∧ (let m : Mach := fd (ready .print 4);
      let p : Nat := 63;
      let body : FrameBody := (.idleSet);
      (m.port p).tx.freeAt ≤ m.now ∧ (m.port p).tx.queue = [] ∧ bodyType body ≠ 0x21 ∧ bodySequenced body = false)
    ∧ (let m : Mach := fd (ready .print 4);
      let p : Nat := 63;
      let body : FrameBody := (.fire 0 true);
      let q : Nat := 0;
      (m.port p).tx.freeAt ≤ m.now ∧ (m.port p).tx.queue = [] ∧ bodyType body ≠ 0x21 ∧ q ≠ p)
    ∧ (let m : Mach := fd ({ (withHead (ready .print 4) 63) with power.failAt := some 0 });
      let p : Nat := 63;
      let e : Nat := 0;
      let n : Mach := m.policiesDue p e false;
      m.portUsed p = true ∧ n.unsentCauses p ≠ []) :=
  ⟨by decide +kernel,
    by decide +kernel,
    by decide +kernel,
    by decide +kernel,
    by decide +kernel,
    by decide +kernel⟩

theorem test_JobObjectsAreStored_has_witnesses :
    (let sid : Nat := 1;
      let layer : Nat := 0;
      let job : Nat := 1;
      let frame : Nat := 0;
      let content : Nat := 3;
      let m : Mach := fd (posting);
      m.answers (.host sid) = true ∧ m.writeGate (.host sid) 0x5020 0 = .ok ∧ okValueAt 0x5020 1 layer = true
      ∧ m.postStatus layer job frame content = .ok)
    ∧ (let sid : Nat := 1;
      let layer : Nat := 7;
      let job : Nat := 1;
      let frame : Nat := 0;
      let content : Nat := 3;
      let m : Mach := fd (posting);
      m.answers (.host sid) = true ∧ m.writeGate (.host sid) 0x5020 0 = .ok ∧ okValueAt 0x5020 1 layer = true
      ∧ m.postStatus layer job frame content = .authFailed)
    ∧ (let sid : Nat := 1;
      let sub : Nat := 4;
      let data : Bytes := [0xFF];
      let m : Mach := fd (ready .idle 4 { layerSel := 6 });
      let vals : List (Nat × Fld × Bytes) := ((findObj 0x5010).bind (fun o => o.values sub data)).getD [];
      let l : Nat := (m.locals (.host sid)).layerSel;
      let n : Mach := m.storeVals 0x5010 l vals;
      l ≠ 7 ∧ m.admitsBytes (.host sid) 0x5010 sub 10 data vals = true ∧ n.layerFits l = true)
    ∧ (let sid : Nat := 1;
      let sub : Nat := 2;
      let data : Bytes := [0, 8, 0, 0];
      let m : Mach := fd (ready .idle 4);
      let vals : List (Nat × Fld × Bytes) := ((findObj 0x5001).bind (fun o => o.values sub data)).getD [];
      1 < sub ∧ m.admitsBytes (.host sid) 0x5001 sub 10 data vals = true)
    ∧ (let sid : Nat := 1;
      let v : Nat := (98303 : Nat);
      let m : Mach := fd (ready .idle 4);
      m.admits (.host sid) 0x7102 0 v = true)
    ∧ (let sid : Nat := 1;
      let slot : Nat := 7;
      let v : Nat := (2 ^ 29 + 128 * 2 ^ 14 : Nat);
      let m : Mach := fd (ready .idle 4 { portSel := 63 });
      let p : Nat := (m.locals (.host sid)).portSel;
      let n : Mach := m.setNum 0x3010 (slot + 1) p v;
      slot < 8 ∧ m.admits (.host sid) 0x3010 (slot + 1) v = true
      ∧ (slotsFit (n.slots p) && n.staggerFits (n.nat 0x2010 0 0)) = true)
    ∧ (let sid : Nat := 1;
      let slot : Nat := 7;
      let v : Nat := (2 ^ 29 + 128 * 2 ^ 14 + 12288 : Nat);
      let m : Mach := fd (ready .idle 4 { portSel := 63 });
      let p : Nat := (m.locals (.host sid)).portSel;
      let n : Mach := m.setNum 0x3010 (slot + 1) p v;
      slot < 8 ∧ m.admits (.host sid) 0x3010 (slot + 1) v = true
      ∧ (slotsFit (n.slots p) && n.staggerFits (n.nat 0x2010 0 0)) = false) :=
  ⟨by decide +kernel,
    by decide +kernel,
    by decide +kernel,
    by decide +kernel,
    by decide +kernel,
    by decide +kernel,
    by decide +kernel⟩

theorem test_ContoneIsInterpolated_has_witnesses :
    (let t : Tables := ⟨[], [], [], [], 0, 4, []⟩;
      let v := fun k => toned t.curve t.zones k 7;
      (∀ k, v k = toned t.curve t.zones k ((fun _ => 7) k)) ∧ (0 < 1 ∧ 2 * (0 + 1) < t.width ∧ t.width ≤ 2 * (1 + 1)))
    ∧ (let t : Tables := ⟨[], [], [], [], 0, 4, []⟩;
      let b := fun k => gained t (fun i => i + k) 0;
      (∀ k, b k = gained t (fun i => (fun i k => i + k) i k) 0) ∧ (0 < 1 ∧ 1 ≠ (2048 - 1) / 2)) :=
  ⟨⟨fun _ => rfl, by decide⟩,
    ⟨fun _ => rfl, by decide⟩⟩

theorem test_APlaneHasItsLength_has_witnesses :
    (let c : Content := { w := 128 };
      let d : Content := { w := 128, kind := 1 };
      c.x = d.x ∧ c.y = d.y ∧ c.w = d.w ∧ c.h = d.h ∧ c.coding = d.coding)
    ∧ (let c : Content := { coding := 0 };
      c.coding = 0)
    ∧ (let c : Content := { coding := 1 };
      c.coding = 1)
    ∧ (let c : Content := { coding := 2 };
      c.coding = 2)
    ∧ (let c : Content := { w := 80314, h := 24000, coding := 1 };
      c.x = 0 ∧ c.y = 0 ∧ c.w = 80314 ∧ c.h = 24000 ∧ c.coding = 1)
    ∧ (let c : Content := { w := 80314, h := 24000, coding := 1, mask := 1 };
      c.x = 0 ∧ c.y = 0 ∧ c.w = 80314 ∧ c.h = 24000 ∧ c.coding = 1 ∧ c.kind = 0 ∧ c.input = 0 ∧ c.mask = 1) :=
  ⟨by decide +kernel,
    by decide +kernel,
    by decide +kernel,
    by decide +kernel,
    by decide +kernel,
    by decide +kernel⟩

theorem test_ContentIsCodedAndVerified_has_witnesses :
    (let h : Nat := 3;
      let c : Content := { coding := 1, state := 3 };
      let rest : List (Nat × Content) := [];
      let disagree : List (Nat × Nat) := [];
      let m : Mach := fd ({ (ready .print 4) with frc.objects := [(3, { coding := 1, state := 3 })], mem.quarantine := 0 });
      let errors : List (Nat × List Nat) := (List.range c.bars.length).map (fun p => (p, (List.range (c.nr * c.ns)).map (fun k => c.stripeError p (k / c.ns) (k % c.ns))));
      let n : Mach := ((((m.onContent h (fun c => { c with errors := errors, worst := maxOf 0 (errors.flatMap (fun e => e.2)), refused := 0 })).frcCount 1 1).onContent h (fun c => { c with stream := c.code, raw := [] })).takeBuffers h).1;
      m.frc.objects.filter (fun p => p.2.state = 3) = (h, c) :: rest ∧ c.refusals disagree = [] ∧ c.coding ≠ 0
      ∧ bit n.mem.quarantine 15 = false)
    ∧ (let h : Nat := 3;
      let c : Content := { coding := 1, state := 3 };
      let rest : List (Nat × Content) := [];
      let disagree : List (Nat × Nat) := [];
      let m : Mach := fd ({ (ready .print 4) with frc.objects := [(3, { coding := 1, state := 3 })], mem.quarantine := 32768 });
      let errors : List (Nat × List Nat) := (List.range c.bars.length).map (fun p => (p, (List.range (c.nr * c.ns)).map (fun k => c.stripeError p (k / c.ns) (k % c.ns))));
      let n : Mach := ((((m.onContent h (fun c => { c with errors := errors, worst := maxOf 0 (errors.flatMap (fun e => e.2)), refused := 0 })).frcCount 1 1).onContent h (fun c => { c with stream := c.code, raw := [] })).takeBuffers h).1;
      m.frc.objects.filter (fun p => p.2.state = 3) = (h, c) :: rest ∧ c.refusals disagree = [] ∧ c.coding ≠ 0
      ∧ bit n.mem.quarantine 15 = true)
    ∧ (let m : Mach := fd (ready .print 4);
      m.frc.objects.filter (fun p => p.2.state = 3) = [])
    ∧ (let h : Nat := 3;
      let c : Content := { coding := 1, state := 4 };
      let m : Mach := fd ({ (ready .print 4) with frc.objects := [(3, { coding := 1, state := 4 })] });
      m.content h = some c ∧ c.state = 4 ∧ c.verify = none)
    ∧ (let h : Nat := 3;
      let c : Content := { input := 1, stream := [0], state := 4 };
      let m : Mach := fd ({ (ready .print 4) with frc.objects := [(3, { input := 1, stream := [0], state := 4 })] });
      let cause : Nat := 6;
      let bad : Nat := 0xFFFFFFFF;
      m.content h = some c ∧ c.state = 4 ∧ c.verify = some (cause, bad)) :=
  ⟨by decide +kernel,
    by decide +kernel,
    by decide +kernel,
    by decide +kernel,
    by decide +kernel⟩

theorem test_LinksTrainStepByStep_has_witnesses :
    (let p : Nat := 63;
      let m : Mach := fd ({ ready .idle 4 with ports := [(63, { link := { phase := .ts1, ts1Run := 6 } })] });
      let o : OrderedSet := ⟨1, 63, m.moduleId, true, false, false, 0⟩;
      p < 64 ∧ ((m.port p).link.phase = .ts1 ∨ (m.port p).link.phase = .lock) ∧ o.version = 1
      ∧ (m.port p).link.ts1Run + 1 < 8)
    ∧ (let p : Nat := 63;
      let m : Mach := fd ({ ready .idle 4 with ports := [(63, { link := { phase := .ts1, ts1Run := 7 } })] });
      let o : OrderedSet := ⟨1, 63, m.moduleId, true, false, false, 0⟩;
      p < 64 ∧ ((m.port p).link.phase = .ts1 ∨ (m.port p).link.phase = .lock) ∧ o.version = 1
      ∧ (m.port p).link.ts1Run = 7 ∧ bit (m.port p).link.eqConfig 4 = false ∧ (m.port p).link.eqDone = false)
    ∧ (let p : Nat := 63;
      let m : Mach := fd ({ ready .idle 4 with ports := [(63, { link := { phase := .lock, ts1Run := 7 } })] });
      p < 64 ∧ ((m.port p).link.phase = .ts1 ∨ (m.port p).link.phase = .lock))
    ∧ (let p : Nat := 63;
      let m : Mach := fd ({ { ready .idle 4 with ports := [(63, { link := { phase := .eq, eqTried := 14 } })] } with now := 500000 });
      let l : Link := (m.port p).link;
      p < 64 ∧ l.phase = .eq ∧ l.eqDone = false ∧ l.eqSince + 500000 ≤ m.now ∧ l.eqTried ≠ 15)
    ∧ (let p : Nat := 63;
      let m : Mach := fd ({ ready .idle 4 with ports := [(63, { link := { phase := .config, ts2Run := 6 } })] });
      let o : OrderedSet := ⟨1, 63, m.moduleId, true, false, false, 0⟩;
      p < 64 ∧ (m.port p).link.phase = .config ∧ o.side = m.moduleId ∧ o.link = p ∧ o.version = 1
      ∧ (m.port p).link.ts2Run < 7)
    ∧ (let p : Nat := 63;
      let m : Mach := fd ({ ready .idle 4 with ports := [(63, { link := { phase := .config, ts2Run := 7 } })] });
      let o : OrderedSet := ⟨1, 63, m.moduleId, true, false, false, 0⟩;
      p < 64 ∧ (m.port p).link.phase = .config ∧ o.side = m.moduleId ∧ o.link = p ∧ o.version = 1
      ∧ 7 ≤ (m.port p).link.ts2Run)
    ∧ (let p : Nat := 63;
      let m : Mach := fd ({ ready .idle 4 with ports := [(63, { link := { phase := .config, ts2Run := 7 } })] });
      let o : OrderedSet := ⟨1, 63, m.moduleId + 1, true, false, false, 0⟩;
      p < 64 ∧ (m.port p).link.phase = .config ∧ o.side ≠ m.moduleId) :=
  ⟨by decide +kernel,
    by decide +kernel,
    by decide +kernel,
    by decide +kernel,
    by decide +kernel,
    by decide +kernel,
    by decide +kernel⟩

theorem test_LinksRetrainAndSleep_has_witnesses :
    (let sid : Nat := 1;
      let m : Mach := fd (ready .idle 4 { portSel := 63 });
      m.admits (.host sid) 0x3045 0 1 = true)
    ∧ (let p : Nat := 63;
      let m : Mach := fd ({ ready .idle 4 with ports := [(63, { link := { phase := .active } })] });
      p < 64 ∧ m.linkUp p = true)
    ∧ (let p : Nat := 63;
      let first : Nat := 1;
      let a : Nat := 2;
      let b : Nat := 3;
      let m : Mach := fd ({ ready .idle 4 with ports := [(63, { link := { phase := .active, badSymbols := [1, 2, 3] } })] });
      p < 64 ∧ m.linkUp p = true ∧ (m.port p).link.badSymbols = [first, a, b])
    ∧ (let sid : Nat := 1;
      let v : Nat := (0 : Nat);
      let m : Mach := fd (ready .idle 4);
      m.admits (.host sid) 0x3101 0 v = true ∧ (m.paired = false ∨ bits v 8 2 ≠ 0))
    ∧ (let sid : Nat := 1;
      let m : Mach := fd (ready .idle 4);
      m.paired = false ∧ m.admits (.host sid) 0x3102 0 1 = true ∧ (m.setNum 0x3102 0 0 1).sleeps = true)
    ∧ (let sid : Nat := 1;
      let m : Mach := fd (ready .idle 4);
      m.paired = false ∧ m.admits (.host sid) 0x3102 0 0 = true ∧ (m.setNum 0x3102 0 0 0).sleeps = false)
    ∧ (let sid : Nat := 1;
      let m : Mach := fd ({ ready .idle 4 with pair.role := 1 });
      m.paired = true ∧ m.admits (.host sid) 0x3102 0 1 = true)
    ∧ ((0 : Nat) ≠ 63) :=
  ⟨by decide +kernel,
    by decide +kernel,
    by decide +kernel,
    by decide +kernel,
    by decide +kernel,
    by decide +kernel,
    by decide +kernel,
    by decide +kernel⟩

theorem test_LinkTimersAndAcknowledgements_has_witnesses :
    (let m : Mach := fd ({ ready .idle 4 with now := 1000000 });
      m.gate.syncAt + 1000000 ≤ m.now)
    ∧ (let m : Mach := fd ({ ready .idle 4 with now := 5000 });
      m.gate.liveAt + 5000 ≤ m.now)
    ∧ (let p : Nat := 63;
      let dt : Nat := 0;
      let s : State := st ({ ready .idle 4 with ports := [(63, { link := { phase := .active, measuring := true } })] });
      let m : Mach := (s.found dt).nextMeasure;
      p < 64 ∧ (m.port p).link.measuring = true ∧ (m.port p).link.exchange = none
      ∧ (m.port p).link.exchangeDue ≤ m.now)
    ∧ (let dt : Nat := 0;
      let p : Nat := 63;
      let t1 : Nat := 7;
      let s : State := st ({ ready .idle 4 with ports := [(63, { link := { phase := .active, measuring := true, exchange := some 7 } })] });
      let lostMask : Nat := 0;
      let lastSeq : Nat := 0;
      let seq : Nat := 0;
      let m : Mach := ((s.found dt).headerSeq p seq).ackUpTo p lastSeq lostMask;
      p < 64 ∧ (s.found dt).receives p = true ∧ (m.port p).link.exchange = some t1
      ∧ (m.port p).link.samples.length + 1 ≠ 16)
    ∧ (let p : Nat := 63;
      let m : Mach := fd ({ ready .idle 4 with ports := [(63, { link := { phase := .active } })] });
      p < 64 ∧ m.receives p = true)
    ∧ (let p : Nat := 63;
      let m : Mach := fd ({ ready .idle 4 with ports := [(63, { link := { phase := .config } })] });
      p < 64 ∧ m.receives p = false)
    ∧ (let dt : Nat := 0;
      let p : Nat := 63;
      let reason : Nat := (3 : Nat);
      let s : State := st ({ ready .idle 4 with ports := [(63, { link := { phase := .active } })] });
      p < 64 ∧ (s.found dt).receives p = true ∧ reason ≠ 4 ∧ reason ≠ 5)
    ∧ (let dt : Nat := 0;
      let p : Nat := 63;
      let reason : Nat := (4 : Nat);
      let s : State := st ({ ready .idle 4 with ports := [(63, { link := { phase := .active } })] });
      p < 64 ∧ (s.found dt).receives p = true ∧ (reason = 4 ∨ reason = 5))
    ∧ (let p : Nat := 63;
      let bytes : Bytes := [];
      let symbolError : Bool := true;
      let m : Mach := fd ({ ready .idle 4 with ports := [(63, { link := { phase := .active } })] });
      p < 64 ∧ m.receives p = true ∧ frameFault bytes symbolError = some 0)
    ∧ (let p : Nat := 63;
      let bytes : Bytes := ([0x7F, 0, 0, 1] ++ List.replicate 12 0 ++ leBytes 4 (crc32 ([0x7F, 0, 0, 1] ++ List.replicate 12 0)));
      let symbolError : Bool := false;
      let m : Mach := fd ({ ready .idle 4 with ports := [(63, { link := { phase := .active } })] });
      p < 64 ∧ m.receives p = true ∧ frameFault bytes symbolError = some 3)
    ∧ (let dt : Nat := 0;
      let p : Nat := 63;
      let s : State := st ({ ready .idle 4 with ports := [(63, { link := { phase := .ts1 } })] });
      p < 64 ∧ (s.found dt).receives p = false) :=
  ⟨by decide +kernel,
    by decide +kernel,
    by decide +kernel,
    by decide +kernel,
    by decide +kernel,
    by decide +kernel,
    by decide +kernel,
    by decide +kernel,
    by decide +kernel,
    by decide +kernel,
    by decide +kernel⟩

theorem test_StatusesAndTokens_has_witnesses :
    (let p : Nat := 63;
      let m : Mach := fd ({ ready .idle 4 with ports := [(63, { link := { phase := .active }, tx := { }, fire := { } })] });
      p < 64 ∧ m.linkUp p = true)
    ∧ (let p : Nat := 63;
      let m : Mach := fd ({ ready .idle 4 with ports := [(63, { link := { phase := .active }, tx := { }, fire := { statusAt := 1 } })], now := 5000001 });
      p < 64 ∧ (m.port p).fire.statusAt ≠ 0 ∧ (m.port p).link.phase ≠ .sleep
      ∧ (m.port p).fire.statusAt + 5000000 ≤ m.linkTime ∧ (m.port p).fire.noStatus = false)
    ∧ (let p : Nat := 63;
      let m : Mach := fd ({ ready .idle 4 with ports := [(63, { link := { phase := .active }, tx := { }, fire := { noStatus := true } })] });
      p < 64 ∧ (m.port p).fire.noStatus = true)
    ∧ (let p : Nat := 63;
      let kind : Nat := 0;
      let sentAt : Nat := 0;
      let tries : Nat := 1;
      let g : Grant := (⟨1, 1, 0, noLine⟩ : Grant);
      let m : Mach := fd ({ ready .idle 4 with ports := [(63, { link := { phase := .active }, tx := { claim := some (0, 0, 1) }, fire := { } })] });
      let seq : Nat := 0;
      let n : Mach := (m.received p seq).onLink p (fun l => { l with holder := if g.holder = 0 then 0 else if g.holder = m.moduleId then 1 else 2 });
      p < 64 ∧ m.linkUp p = true ∧ (n.port p).tx.claim = some (kind, sentAt, tries) ∧ g.result ≤ 1 ∧ kind ≠ 1
      ∧ g.lastFired = noLine)
    ∧ (let p : Nat := 63;
      let kind : Nat := 0;
      let sentAt : Nat := 0;
      let tries : Nat := 1;
      let g : Grant := (⟨2, 1, 0, noLine⟩ : Grant);
      let m : Mach := fd ({ ready .idle 4 with ports := [(63, { link := { phase := .active }, tx := { claim := some (0, 0, 1) }, fire := { } })] });
      let seq : Nat := 0;
      let n : Mach := (m.received p seq).onLink p (fun l => { l with holder := if g.holder = 0 then 0 else if g.holder = m.moduleId then 1 else 2 });
      p < 64 ∧ m.linkUp p = true ∧ (n.port p).tx.claim = some (kind, sentAt, tries) ∧ 1 < g.result)
    ∧ (let p : Nat := 63;
      let kind : Nat := 0;
      let sentAt : Nat := 0;
      let tries : Nat := 2;
      let m : Mach := fd ({ ready .idle 4 with ports := [(63, { link := { phase := .active }, tx := { claim := some (0, 0, 2), unacked := [(⟨⟨.tokenClaim 0 0, 0, none, 0, false, false⟩, 0, 0, false⟩ : Unacked)] }, fire := { } })], now := 5000 });
      let us := ([] : List Unacked);
      let u := (⟨⟨.tokenClaim 0 0, 0, none, 0, false, false⟩, 0, 0, false⟩ : Unacked);
      p < 64 ∧ m.linkUp p = true ∧ (m.port p).tx.claim = some (kind, sentAt, tries)
      ∧ (m.port p).tx.queue.any (fun f => bodyType f.body = 0x10) = false ∧ (m.port p).tx.unacked = us ++ [u]
      ∧ bodyType u.f.body = 0x10 ∧ tries < 3 ∧ sentAt + 5000 ≤ m.now)
    ∧ (let p : Nat := 63;
      let kind : Nat := 0;
      let sentAt : Nat := 0;
      let tries : Nat := 3;
      let m : Mach := fd ({ ready .idle 4 with ports := [(63, { link := { phase := .active }, tx := { claim := some (0, 0, 3) }, fire := { } })], now := 21000 });
      p < 64 ∧ m.linkUp p = true ∧ (m.port p).tx.claim = some (kind, sentAt, tries)
      ∧ (m.port p).tx.queue.any (fun f => bodyType f.body = 0x10) = false ∧ tries = 3 ∧ sentAt + 21000 ≤ m.now) :=
  ⟨by decide +kernel,
    by decide +kernel,
    by decide +kernel,
    by decide +kernel,
    by decide +kernel,
    by decide +kernel,
    by decide +kernel⟩

theorem test_RequestsAreAnsweredOrResent_has_witnesses :
    (let p : Nat := 63;
      let m : Mach := fd ({ ready .idle 4 with ports := [(63, { link := { phase := .active }, tx := { }, fire := { } })] });
      p < 64 ∧ m.linkUp p = true)
    ∧ (let p : Nat := 63;
      let m : Mach := fd ({ ready .idle 4 with ports := [(63, { link := { phase := .ts1 }, tx := { }, fire := { } })] });
      p < 64 ∧ m.linkUp p = false)
    ∧ (let p : Nat := 63;
      let r : CfgReq := (⟨0, none, none, 0, 0, 2⟩ : CfgReq);
      let rest : List CfgReq := [];
      let m : Mach := fd ({ ready .idle 4 with ports := [(63, { link := { phase := .active }, tx := { cfgQueue := [⟨0, none, none, 0, 0, 2⟩] }, fire := { } })], now := 1000000 });
      p < 64 ∧ (m.port p).tx.cfgQueue = r :: rest ∧ r.sentAt + 1000000 ≤ m.now
      ∧ (m.port p).tx.queue.any (fun f => f.body = cfgBody r.addr r.data && f.event = r.event) = false ∧ r.tries < 3)
    ∧ (let p : Nat := 63;
      let r : CfgReq := (⟨0, none, none, 0, 0, 3⟩ : CfgReq);
      let rest : List CfgReq := [];
      let m : Mach := fd ({ ready .idle 4 with ports := [(63, { link := { phase := .active }, tx := { cfgQueue := [⟨0, none, none, 0, 0, 3⟩] }, fire := { } })], now := 1000000 });
      p < 64 ∧ (m.port p).tx.cfgQueue = r :: rest ∧ r.sentAt + 1000000 ≤ m.now
      ∧ (m.port p).tx.queue.any (fun f => f.body = cfgBody r.addr r.data && f.event = r.event) = false ∧ 3 ≤ r.tries) :=
  ⟨by decide +kernel,
    by decide +kernel,
    by decide +kernel,
    by decide +kernel⟩

theorem test_GatesLatchUntilCleared_has_witnesses :
    (let k : Nat := 9;
      let m : Mach := fd ((ready .idle 4).setNum 0x2150 0 0 512);
      k < 10 ∧ bit (m.nat 0x2150 0 0) k = true)
    ∧ (let k : Nat := 9;
      let m : Mach := fd ((ready .idle 4).setNum 0x2150 0 0 511);
      k < 10 ∧ bit (m.nat 0x2150 0 0) k = false)
    ∧ (let sid : Nat := 1;
      let v : Nat := (512 : Nat);
      let m : Mach := fd ({ ready .idle 4 with gate.present := 512 });
      m.admits (.host sid) 0x2152 0 v = true ∧ (setBits v 10).any (fun k => bit m.gate.present k) = true)
    ∧ (let sid : Nat := 1;
      let v : Nat := (1 : Nat);
      let m : Mach := fd ({ ready .idle 4 with gate.present := 512 });
      m.admits (.host sid) 0x2152 0 v = true ∧ (setBits v 10).any (fun k => bit m.gate.present k) = false)
    ∧ (let sid : Nat := 1;
      let m : Mach := fd ({ ((ready .idle 4 { portSel := 63 }).setNum 0x3010 1 63 (2 ^ 29 + 128 * 2 ^ 14)) with ports := [(63, { link.phase := .active, tx.epInfo := [(8, 1)], fire := { tempStop := true, temps := [some 400] } })] });
      let p : Nat := (m.locals (.host sid)).portSel;
      m.admits (.host sid) 0x3025 0 1 = true ∧ (m.port p).fire.tempStop = true
      ∧ m.allBelow p ((m.limits p).2.1 - (m.limits p).2.2) = true)
    ∧ (let sid : Nat := 1;
      let m : Mach := fd ({ ((ready .idle 4 { portSel := 63 }).setNum 0x3010 1 63 (2 ^ 29 + 128 * 2 ^ 14)) with ports := [(63, { link.phase := .active, tx.epInfo := [(8, 1)], fire := { tempStop := true, temps := [some 1600] } })] });
      let p : Nat := (m.locals (.host sid)).portSel;
      m.admits (.host sid) 0x3025 0 1 = true ∧ (m.port p).fire.tempStop = true
      ∧ m.allBelow p ((m.limits p).2.1 - (m.limits p).2.2) = false) :=
  ⟨by decide +kernel,
    by decide +kernel,
    by decide +kernel,
    by decide +kernel,
    by decide +kernel,
    by decide +kernel⟩

theorem test_CamerasTakeFrames_has_witnesses :
    (let c : Nat := 3;
      let e : Nat := 0;
      let m : Mach := fd ({ ready .idle 4 with cams := [(3, { trigEnd := some 0 })] });
      c < 4 ∧ (m.cam c).trigEnd = some e ∧ e ≤ m.now)
    ∧ (let c : Nat := 3;
      let e : Nat := 0;
      let m : Mach := fd ({ ready .idle 4 with cams := [(3, { flashAt := some 0 })] });
      c < 4 ∧ (m.cam c).flashAt = some e ∧ e ≤ m.now)
    ∧ (let c : Nat := 3;
      let e : Nat := 0;
      let m : Mach := fd ({ ready .idle 4 with cams := [(3, { flashEnd := some 0 })] });
      c < 4 ∧ (m.cam c).flashEnd = some e ∧ e ≤ m.now ∧ (m.cam c).shots = [] ∧ (m.cam c).cur = none)
    ∧ (let c : Nat := 3;
      let e : Nat := 1;
      let m : Mach := fd ({ ready .idle 4 with cams := [(3, { flashEnd := some 1 })] });
      c < 4 ∧ (m.cam c).flashEnd = some e ∧ m.now < e)
    ∧ (let sid : Nat := 1;
      let m : Mach := fd ({ ready .idle 4 { camSel := 3 } with cams := [(3, { phase := 2 })] });
      let c : Nat := (m.locals (.host sid)).camSel;
      m.admits (.host sid) 0x6011 0 1 = true ∧ (m.cam c).phase = 2 ∧ m.trigTooSoon c = false)
    ∧ (let sid : Nat := 1;
      let m : Mach := fd ({ ready .idle 4 { camSel := 3 } with cams := [(3, { phase := 2, lastTrig := some 0 })] });
      let c : Nat := (m.locals (.host sid)).camSel;
      m.admits (.host sid) 0x6011 0 1 = true ∧ (m.cam c).phase = 2 ∧ m.trigTooSoon c = true)
    ∧ (let c : Nat := 3;
      let vc : Nat := 0;
      let wrong : Nat := 1;
      let x : Shot := (⟨{}, 0, 0, false, [], 0, 0⟩ : Shot);
      let rest : List Shot := [];
      let m : Mach := fd ({ ready .idle 4 with cams := [(3, { phase := 2, shots := [(⟨{}, 0, 0, false, [], 0, 0⟩ : Shot)] })] });
      c < 4 ∧ m.takesPacket c vc wrong = true ∧ (m.cam c).phase ≠ 0 ∧ (m.cam c).cur = none
      ∧ (m.cam c).shots = x :: rest)
    ∧ (let c : Nat := 3;
      let vc : Nat := 0;
      let wrong : Nat := 1;
      let m : Mach := fd ({ ready .idle 4 with cams := [(3, { phase := 2 })] });
      c < 4 ∧ m.takesPacket c vc wrong = true ∧ (m.cam c).phase ≠ 0 ∧ (m.cam c).cur = none ∧ (m.cam c).shots = [])
    ∧ (let c : Nat := 3;
      let vc : Nat := 0;
      let m : Mach := fd ({ ready .idle 4 with cams := [(3, { phase := 2, cur := some (⟨{}, 0, 0, false, [], 0, 0⟩ : Shot) })] });
      let type : Nat := (0x2A + bits (m.camCfg 3) 54 2);
      let wrong : Nat := 1;
      let pixels : List Nat := (List.replicate (m.sensor 3).width 0);
      let x : Shot := (⟨{}, 0, 0, false, [], 0, 0⟩ : Shot);
      c < 4 ∧ m.takesPacket c vc wrong = true ∧ type = 0x2A + bits (m.camCfg c) 54 2 ∧ (m.cam c).cur = some x
      ∧ (m.cam c).rowCount < (m.sensor c).rows ∧ pixels.length = (m.sensor c).width
      ∧ bit m.mem.quarantine (8 + c) = false)
    ∧ (let c : Nat := 3;
      let m : Mach := fd ({ ready .idle 4 with cams := [(3, { phase := 2 })] });
      c < 4 ∧ (m.cam c).cur = none)
    ∧ (let dt : Nat := 0;
      let c : Nat := 3;
      let vc : Nat := 0;
      let wrong : Nat := 1;
      let s : State := st ({ ready .idle 4 with cams := [(3, { phase := 2 })] });
      c < 4 ∧ (s.found dt).takesPacket c vc wrong = true)
    ∧ (let c : Nat := 3;
      let vc : Nat := 0;
      let wrong : Nat := 2;
      let m : Mach := fd ({ ready .idle 4 with cams := [(3, { phase := 2 })] });
      c < 4 ∧ m.takesPacket c vc wrong = false)
    ∧ (let m : Mach := fd ({ ready .idle 4 with cams := [(3, { phase := 2 })] });
      let c : Nat := 3;
      (m.cam c).cur = none)
    ∧ (let c : Nat := 3;
      let x : Shot := (⟨{}, 0, 0, false, [], 0, 0⟩ : Shot);
      let rest : List Shot := [];
      let m : Mach := fd ({ ready .idle 4 with cams := [(3, { phase := 2, shots := [(⟨{}, 0, 0, false, [], 0, 0⟩ : Shot)] })], now := 1000000000 });
      c < 4 ∧ (m.cam c).shots = x :: rest ∧ x.issuedAt + m.fsTimeoutNs c ≤ m.now ∧ x.cal = false)
    ∧ (let c : Nat := 3;
      let m : Mach := fd ({ ready .idle 4 with cams := [(3, { phase := 2 })], now := 1000000000 });
      c < 4 ∧ (m.cam c).lastRow + m.fsTimeoutNs c ≤ m.now)
    ∧ (let c : Nat := 3;
      let m : Mach := fd ({ ready .idle 4 with cams := [(3, { phase := 2, lastRow := 1 })] });
      c < 4 ∧ m.now < (m.cam c).lastRow + m.fsTimeoutNs c) :=
  ⟨by decide +kernel,
    by decide +kernel,
    by decide +kernel,
    by decide +kernel,
    by decide +kernel,
    by decide +kernel,
    by decide +kernel,
    by decide +kernel,
    by decide +kernel,
    by decide +kernel,
    by decide +kernel,
    by decide +kernel,
    by decide +kernel,
    by decide +kernel,
    by decide +kernel,
    by decide +kernel⟩

theorem test_CameraSettingsTakeEffect_has_witnesses :
    (let sid : Nat := 1;
      let idx : Nat := 0x6002;
      let sub : Nat := 1;
      let data : Bytes := [8];
      let m : Mach := fd ({ ready .idle 4 { camSel := 3 } with cams := [(3, { phase := 2 })] });
      let vals : List (Nat × Fld × Bytes) := ((findObj idx).bind (fun o => o.values sub data)).getD [];
      (idx = 0x6002 ∨ idx = 0x6003) ∧ m.admitsBytes (.host sid) idx sub (writeLevels idx sub) data vals = true)
    ∧ (let sid : Nat := 1;
      let sub : Nat := 0;
      let data : Bytes := (leBytes 8 0x20040008010);
      let m : Mach := fd ({ ready .idle 4 { camSel := 3 } with cams := [(3, { phase := 2 })] });
      let vals : List (Nat × Fld × Bytes) := ((findObj 0x6001).bind (fun o => o.values sub data)).getD [];
      m.admitsBytes (.host sid) 0x6001 sub (writeLevels 0x6001 sub) data vals = true)
    ∧ (let sid : Nat := 1;
      let m : Mach := fd (({ ready .idle 4 { camSel := 3 } with cams := [(3, { phase := 2 })] }).setNum 0x6018 1 3 5);
      let c : Nat := (m.locals (.host sid)).camSel;
      m.admits (.host sid) 0x6019 0 1 = true ∧ (m.shadowSet c).setId ≠ (m.cam c).inEffect.setId ∧ m.cal.phase = 0
      ∧ (m.cam c).expState ≠ 1 ∧ (m.cam c).expState ≠ 2 ∧ (m.cam c).bus = [])
    ∧ (let sid : Nat := 1;
      let m : Mach := fd ({ ready .idle 4 { camSel := 3 } with cams := [(3, { phase := 2, inEffect.setId := 1 })] });
      let c : Nat := (m.locals (.host sid)).camSel;
      m.admits (.host sid) 0x6019 0 1 = true ∧ (m.shadowSet c).setId = (m.cam c).inEffect.setId)
    ∧ (let sid : Nat := 1;
      let m : Mach := fd ({ ready .idle 4 { camSel := 3 } with cams := [(3, { phase := 2 })] });
      let c : Nat := (m.locals (.host sid)).camSel;
      m.admits (.host sid) 0x6032 0 1 = true ∧ m.cropFits c (m.nat 0x6030 1 c) (m.nat 0x6030 2 c) = true
      ∧ m.cropFits c (m.nat 0x6030 4 c) (m.nat 0x6030 5 c) = true) :=
  ⟨by decide +kernel,
    by decide +kernel,
    by decide +kernel,
    by decide +kernel,
    by decide +kernel⟩

theorem test_LoopCyclesAndCommands_has_witnesses :
    (let a : Nat := 0;
      let t : Nat := 0;
      let m : Mach := fd ({ ready .idle 4 with loop := { cycleFrom := some 0, computing := some 0 } });
      m.loop.cycleFrom = some a ∧ m.loop.computing = some t ∧ m.now ≤ t + 20000000)
    ∧ (let a : Nat := 0;
      let t : Nat := 0;
      let m : Mach := fd ({ ready .idle 4 with loop := { cycleFrom := some 0, computing := some 0 }, now := 20000000 });
      m.loop.cycleFrom = some a ∧ m.loop.computing = some t ∧ t + 20000000 ≤ m.now)
    ∧ (let m : Mach := fd (ready .idle 4);
      m.loop.computing = none)
    ∧ (let p : LoopPost := (⟨0, 1, [], [], 0, [], []⟩ : LoopPost);
      let m : Mach := fd ({ ready .idle 4 with loop.retry := some ⟨0, 1, [], [], 0, [], []⟩ });
      m.loop.retry = some p)
    ∧ (let sid : Nat := 1;
      let v : Nat := (2 : Nat);
      let m : Mach := fd (ready .idle 4);
      m.admits (.host sid) 0x7001 0 v = true)
    ∧ (let sid : Nat := 1;
      let v : Nat := (7 : Nat);
      let m : Mach := fd (ready .idle 4);
      m.admits (.host sid) 0x700A 0 v = true)
    ∧ (let sid : Nat := 1;
      let m : Mach := fd (ready .idle 4);
      m.admits (.host sid) 0x700B 0 1 = true)
    ∧ (let m : Mach := fd ({ ready .idle 4 with now := 600000000000 });
      m.loop.savedAt + 600000000000 ≤ m.now ∧ m.loop.learning ≠ 0xFF)
    ∧ (let m : Mach := fd ({ ready .idle 4 with now := 599999999999 });
      m.now < m.loop.savedAt + 600000000000) :=
  ⟨by decide +kernel,
    by decide +kernel,
    by decide +kernel,
    by decide +kernel,
    by decide +kernel,
    by decide +kernel,
    by decide +kernel,
    by decide +kernel,
    by decide +kernel⟩

theorem test_RefreshesAndArbiters_has_witnesses :
    (let ch : Nat := 7;
      let rate : Nat := 0;
      let m : Mach := fd ({ ready .idle 4 with mem.channels := [(7, { debt := 3 })] });
      let n : Mach := (((m.onChannel ch (fun c => c.paid m.now)).takeRate ch (min rate 2)).onChannel ch (fun c => { c with paying := none }));
      ch < 8 ∧ (n.channel ch).debt < debtLimit (n.channel ch).rate)
    ∧ (let ch : Nat := 7;
      let rate : Nat := 0;
      let m : Mach := fd ({ ready .idle 4 with mem.channels := [(7, { debt := 4 })] });
      let n : Mach := (((m.onChannel ch (fun c => c.paid m.now)).takeRate ch (min rate 2)).onChannel ch (fun c => { c with paying := none }));
      ch < 8 ∧ debtLimit (n.channel ch).rate ≤ (n.channel ch).debt)
    ∧ (let ch : Nat := 7;
      let m : Mach := fd (ready .safe 4);
      ch < 8 ∧ m.sys.mode = .safe)
    ∧ (let ch : Nat := 7;
      let m : Mach := fd ({ ready .idle 4 with mem.channels := [(7, { debt := 1 })] });
      ch < 8 ∧ ((m.channel ch).paid m.now).debt ≠ 0 ∧ ((m.channel ch).paid m.now).paying = none)
    ∧ (let ch : Nat := 7;
      let t : Int := (849 : Int);
      let m : Mach := fd ({ ready .idle 4 with mem.channels := [(7, { debt := 0 })] });
      ch < 8 ∧ (m.channel ch).tempHigh = false ∧ t < m.num 0x8003 0 0 ∧ t < 1050)
    ∧ (let ch : Nat := 7;
      let m : Mach := fd ((ready .idle 4).setNum 0x8001 0 0 16);
      ch < 8 ∧ bit (m.nat 0x8001 0 0) 4 = true)
    ∧ (let q : Nat := 8;
      let m : Mach := fd (ready .idle 4);
      let cycles : Nat := (m.nat 0x8014 0 0 + 1);
      8 ≤ q ∧ q < 23 ∧ m.nat 0x8014 0 0 < cycles ∧ bit m.mem.quarantine q = false)
    ∧ (let q : Nat := 7;
      let cycles : Nat := 0;
      let m : Mach := fd (ready .idle 4);
      q < 23 ∧ (q < 8 ∨ cycles ≤ m.nat 0x8014 0 0))
    ∧ (let sid : Nat := 1;
      let m : Mach := fd (ready .idle 4);
      m.admits (.host sid) 0x8010 0 1 = true ∧ m.arbFits = true)
    ∧ (let sid : Nat := 1;
      let m : Mach := fd ((ready .idle 4).setNum 0x8012 9 0 0x10F);
      m.admits (.host sid) 0x8010 0 1 = true ∧ m.arbFits = false)
    ∧ (let sid : Nat := 1;
      let v : Nat := (22 : Nat);
      let m : Mach := fd (ready .idle 4);
      m.admits (.host sid) 0x8011 0 v = true ∧ bit m.mem.quarantine v = false)
    ∧ (let sid : Nat := 1;
      let v : Nat := (22 : Nat);
      let m : Mach := fd ({ ready .idle 4 with mem.quarantine := 2 ^ 22 });
      m.admits (.host sid) 0x8011 0 v = true ∧ bit m.mem.quarantine v = true)
    ∧ (let sid : Nat := 1;
      let v : Nat := (22 : Nat);
      let m : Mach := fd (ready .idle 4);
      m.admits (.host sid) 0x8016 0 v = true)
    ∧ (let ch : Nat := 7;
      let q : Nat := 7;
      ch < 8 ∧ q < 8) :=
  ⟨by decide +kernel,
    by decide +kernel,
    by decide +kernel,
    by decide +kernel,
    by decide +kernel,
    by decide +kernel,
    by decide +kernel,
    by decide +kernel,
    by decide +kernel,
    by decide +kernel,
    by decide +kernel,
    by decide +kernel,
    by decide +kernel,
    by decide +kernel⟩

theorem test_EnginesFaultAndTheUserEngineRuns_has_witnesses :
    (let n : Nat := 12;
      let cause : Nat := 4;
      let m : Mach := fd ({ ready .idle 4 with cpu.engines := [(12, { state := 1 })] });
      n < 13 ∧ ((m.engine n).state = 1 ∨ (m.engine n).state = 4 ∨ (m.engine n).state = 5) ∧ 1 ≤ cause ∧ cause ≤ 4)
    ∧ (let m : Mach := fd ({ ready .idle 4 with cpu.engines := [(12, { state := 1 })] });
      (m.engine 12).state ≠ 0 ∧ (m.engine 12).state ≠ 3)
    ∧ (let n : Nat := 12;
      let m : Mach := fd ({ ready .idle 4 with cpu.engines := [(12, { state := 0 })] });
      n < 13 ∧ (m.engine n).state = 0)
    ∧ ((let m : Mach := fd ((ready .idle 4).setBlob 0x1210 8 0 key); let image := message ++ signature; m.admitsBytes (.host 1) 0x9020 0 (writeLevels 0x9020 0) image (((findObj 0x9020).bind (fun o => o.values 0 image)).getD []) = true ∧ sha256 (image.take (image.length - 64)) = sha256 message ∧ m.blob 0x1210 8 0 = key ∧ image.drop (image.length - 64) = signature)
      ∧ ecdsaOk key (sha256 message) signature = true)
    ∧ (let sid : Nat := 1;
      let image : Bytes := (message ++ signature);
      let m : Mach := fd (ready .idle 4);
      let vals : List (Nat × Fld × Bytes) := ((findObj 0x9020).bind (fun o => o.values 0 image)).getD [];
      let digest : Bytes := (sha256 message);
      m.admitsBytes (.host sid) 0x9020 0 (writeLevels 0x9020 0) image vals = true
      ∧ sha256 (image.take (image.length - 64)) = digest
      ∧ [5, 6, 7, 8].any (fun i => ecdsaOk (m.blob 0x1210 i 0) digest (image.drop (image.length - 64))) = false)
    ∧ (let sid : Nat := 1;
      let v : Nat := (1 : Nat);
      let m : Mach := fd (ready .idle 4);
      m.admits (.host sid) 0x9021 0 v = true ∧ bit v 0 = true ∧ m.userRun = false)
    ∧ (let sid : Nat := 1;
      let v : Nat := (0 : Nat);
      let m : Mach := fd (ready .idle 4);
      m.admits (.host sid) 0x9021 0 v = true ∧ bit v 0 = false)
    ∧ (let m : Mach := fd ({ (ready .idle 4).setNum 0x9022 0 0 1 with cpu.engines := [(13, { state := 1 })], now := 1000000 });
      m.userWdtOver = true)
    ∧ (let m : Mach := fd (ready .idle 4);
      m.userWdtOver = false)
    ∧ (let m : Mach := fd ({ ready .idle 4 with cpu.engines := [(13, { state := 1 })] });
      (m.engine 13).state = 1)
    ∧ (let m : Mach := fd ({ ready .idle 4 with cpu.engines := [(13, { state := 1 })] });
      (m.engine 13).state = 1)
    ∧ (let sid : Nat := 1;
      let msg : Bytes := [7];
      let m : Mach := fd ({ ready .idle 4 with cpu.engines := [(13, { state := 1 })] });
      let vals : List (Nat × Fld × Bytes) := ((findObj 0x9024).bind (fun o => o.values 0 msg)).getD [];
      m.admitsBytes (.host sid) 0x9024 0 (writeLevels 0x9024 0) msg vals = true ∧ m.cpu.user.mailIn.length < 8
      ∧ m.userRuns = true)
    ∧ (let sid : Nat := 1;
      let msg : Bytes := [7];
      let m : Mach := fd ({ ready .idle 4 with cpu.engines := [(13, { state := 1 })], cpu.user.mailIn := List.replicate 8 [7] });
      let vals : List (Nat × Fld × Bytes) := ((findObj 0x9024).bind (fun o => o.values 0 msg)).getD [];
      m.admitsBytes (.host sid) 0x9024 0 (writeLevels 0x9024 0) msg vals = true ∧ 8 ≤ m.cpu.user.mailIn.length)
    ∧ (let sid : Nat := 1;
      let msg : Bytes := [7];
      let m : Mach := fd (ready .idle 4);
      let vals : List (Nat × Fld × Bytes) := ((findObj 0x9024).bind (fun o => o.values 0 msg)).getD [];
      m.admitsBytes (.host sid) 0x9024 0 (writeLevels 0x9024 0) msg vals = true ∧ m.cpu.user.mailIn.length < 8
      ∧ m.userRuns = false)
    ∧ (let msg : Bytes := (List.replicate 256 7 : Bytes);
      let m : Mach := fd ({ ready .idle 4 with cpu.engines := [(13, { state := 1 })] });
      (m.engine 13).state = 1 ∧ 1 ≤ msg.length ∧ msg.length ≤ 256 ∧ m.cpu.user.mailOut.length < 8)
    ∧ (let msg : Bytes := ([7] : Bytes);
      let m : Mach := fd ({ ready .idle 4 with cpu.engines := [(13, { state := 1 })], cpu.user.mailOut := List.replicate 8 (1, [7]) });
      (m.engine 13).state = 1 ∧ 1 ≤ msg.length ∧ msg.length ≤ 256 ∧ 8 ≤ m.cpu.user.mailOut.length)
    ∧ (let msg : Bytes := [7];
      let rest : List Bytes := [];
      let m : Mach := fd ({ ready .idle 4 with cpu.engines := [(13, { state := 1 })], cpu.user.mailIn := [[7]] });
      (m.engine 13).state = 1 ∧ m.cpu.user.mailIn = msg :: rest) :=
  ⟨by decide +kernel,
    by decide +kernel,
    by decide +kernel,
    ⟨by decide +kernel, test_signature⟩,
    by decide +kernel,
    by decide +kernel,
    by decide +kernel,
    by decide +kernel,
    by decide +kernel,
    by decide +kernel,
    by decide +kernel,
    by decide +kernel,
    by decide +kernel,
    by decide +kernel,
    by decide +kernel,
    by decide +kernel,
    by decide +kernel⟩

theorem test_SemaphoresAreGrantedAndReleased_has_witnesses :
    (let n : Nat := 12;
      let q : Nat := 63;
      let m : Mach := fd ({ ready .idle 4 with cpu.engines := [(12, { state := 1 })], cpu.sems := [(63, { state := 0 })] });
      n < 13 ∧ q < 64 ∧ (m.engine n).state = 1 ∧ (m.sem q).state ≠ 1)
    ∧ (let n : Nat := 12;
      let q : Nat := 63;
      let m : Mach := fd ({ ready .idle 4 with cpu.engines := [(12, { state := 1 })], cpu.sems := [(63, { state := 1, owner := 3 })] });
      n < 13 ∧ q < 64 ∧ (m.engine n).state = 1 ∧ (m.sem q).state = 1 ∧ (m.sem q).owner ≠ n)
    ∧ (let n : Nat := 12;
      let q : Nat := 63;
      let m : Mach := fd ({ ready .idle 4 with cpu.engines := [(12, { state := 1 })], cpu.sems := [(63, { state := 1, owner := 12 })] });
      n < 13 ∧ q < 64 ∧ (m.engine n).state = 1 ∧ (m.sem q).state = 1 ∧ (m.sem q).owner = n)
    ∧ (let q : Nat := 63;
      let m : Mach := fd ({ ready .idle 4 with cpu.engines := [(12, { state := 1 })], cpu.sems := [(63, { state := 1, owner := 12 })] });
      q < 64 ∧ (m.sem q).state = 1 ∧ (m.sem q).frozen = none ∧ (m.sem q).leaseEnd ≤ m.now)
    ∧ (let q : Nat := 63;
      let m : Mach := fd ({ ready .idle 4 with cpu.engines := [(12, { state := 1 })], cpu.sems := [(63, { state := 1, leaseEnd := 1 })] });
      q < 64 ∧ m.now < (m.sem q).leaseEnd)
    ∧ ((0 : Nat) ≠ 63)
    ∧ (let m : Mach := fd (ready .idle 4);
      let q : Nat := 63;
      (m.sem q).waiters = [])
    ∧ (((fd (ready .idle 4)).sem 63).waiters = [] ∧ (0 : Nat) ≠ 63) :=
  ⟨by decide +kernel,
    by decide +kernel,
    by decide +kernel,
    by decide +kernel,
    by decide +kernel,
    by decide +kernel,
    by decide +kernel,
    by decide +kernel⟩

theorem test_TheLongestWaiterIsNext_has_witnesses :
    ([((3 : Nat), (5 : Nat))] ≠ [])
    ∧ (let m : Mach := fd ({ ready .idle 4 with cpu.engines := [(12, { state := 1 })], cpu.sems := [(63, { state := 1, owner := 2, waiters := [(3, 5), (1, 9)] })] });
      let q : Nat := 63;
      let w : Nat × Nat := ((3, 5) : Nat × Nat);
      longestWaiter (m.sem q).waiters = some w)
    ∧ (let m : Mach := fd ({ ready .idle 4 with cpu.engines := [(12, { state := 1 })], cpu.sems := [(63, { state := 1, owner := 2, waiters := [(12, 5), (1, 9)] })] });
      let q : Nat := 63;
      let w : Nat × Nat := ((12, 5) : Nat × Nat);
      longestWaiter (m.sem q).waiters = some w ∧ w.1 ≠ 15)
    ∧ (let m : Mach := fd ({ ready .idle 4 with cpu.engines := [(12, { state := 1 })], cpu.sems := [(63, { state := 1, owner := 2, waiters := [(15, 5), (1, 9)] })] });
      let q : Nat := 63;
      let w : Nat × Nat := ((15, 5) : Nat × Nat);
      longestWaiter (m.sem q).waiters = some w ∧ w.1 = 15) :=
  ⟨by decide +kernel,
    by decide +kernel,
    by decide +kernel,
    by decide +kernel⟩

theorem test_TheDebugPortUnlocksAndScans_has_witnesses :
    (let scope : Nat := 2;
      let m : Mach := fd ((ready .idle 4).setNum 0x9041 0 0 1);
      m.sys.debugLock = 0 ∧ m.nat 0x9041 0 0 ≠ 0 ∧ m.cpu.dbg.blocked = false ∧ (scope = 1 ∨ scope = 2))
    ∧ (let m : Mach := fd (ready .idle 4);
      (m.sys.debugLock ≠ 0 ∨ m.nat 0x9041 0 0 = 0 ∨ m.cpu.dbg.blocked = true))
    ∧ ((let m : Mach := fd ({ ready .idle 4 with cpu.dbg := { challenge := message, scope := 2 }, sys.keyHashes := [[], [], [], [], [], [], [], sha256 key] }); m.cpu.dbg.blocked = false ∧ m.cpu.dbg.challenge ≠ [] ∧ m.sys.debugLock = 0 ∧ 2 = m.cpu.dbg.scope ∧ m.hashSlot (scopeSlots 2) key = some 7 ∧ sha256 m.cpu.dbg.challenge = sha256 message)
      ∧ ecdsaOk key (sha256 message) signature = true)
    ∧ (let scope : Nat := 2;
      let i : Nat := 7;
      let key : Bytes := key;
      let sig : Bytes := [];
      let m : Mach := fd ({ ready .idle 4 with cpu.dbg := { challenge := message, scope := 2 }, sys.keyHashes := [[], [], [], [], [], [], [], sha256 key] });
      m.cpu.dbg.blocked = false ∧ m.cpu.dbg.challenge ≠ [] ∧ m.sys.debugLock = 0 ∧ scope = m.cpu.dbg.scope
      ∧ m.hashSlot (scopeSlots scope) key = some i ∧ ecdsaOk key (sha256 m.cpu.dbg.challenge) sig = false)
    ∧ (let m : Mach := fd ({ ready .idle 4 with cpu.dbg.blocked := true });
      m.cpu.dbg.blocked = true)
    ∧ (let code : Nat := 0x3E;
      tapCodes.contains code = false)
    ∧ (let m : Mach := fd ({ ready .idle 4 with cpu.dbg.unlocked := 1 });
      m.cpu.dbg.unlocked ≠ 0)
    ∧ (let m : Mach := fd (ready .idle 4);
      m.cpu.dbg.unlocked = 0) :=
  ⟨by decide +kernel,
    by decide +kernel,
    ⟨by decide +kernel, test_signature⟩,
    by decide +kernel,
    by decide +kernel,
    by decide +kernel,
    by decide +kernel,
    by decide +kernel⟩

theorem test_TheDebugPortHaltsAndSteps_has_witnesses :
    (let dt : Nat := 0;
      let n : Nat := 13;
      let s : State := st ({ ready .idle 4 with cpu.engines := [(13, { state := 1 })], cpu.dbg.unlocked := 1 });
      let m : Mach := (s.found dt).onDbg (fun d => { d with ir := 0x20, driven := 0, access := none });
      n < 16 ∧ (s.found dt).cpu.dbg.unlocked ≠ 0 ∧ (s.found dt).inScopeEngine n = true
      ∧ ((m.engine n).state = 1 ∨ (m.engine n).state = 4 ∨ (m.engine n).state = 5))
    ∧ (let dt : Nat := 0;
      let n : Nat := 12;
      let s : State := st ({ ready .idle 4 with cpu.engines := [(12, { state := 2 })], cpu.dbg.unlocked := 2 });
      let m : Mach := (s.found dt).onDbg (fun d => { d with ir := 0x20, driven := 0, access := none });
      n < 16 ∧ (s.found dt).cpu.dbg.unlocked ≠ 0 ∧ (s.found dt).inScopeEngine n = true ∧ (m.engine n).state = 2)
    ∧ (let dt : Nat := 0;
      let n : Nat := 12;
      let s : State := st ({ ready .idle 4 with cpu.engines := [(12, { state := 2 })], cpu.dbg.unlocked := 2 });
      let m : Mach := (s.found dt).onDbg (fun d => { d with ir := 0x20, driven := 0, access := none });
      let reg : Nat := 0x1FFF;
      n < 16 ∧ (s.found dt).cpu.dbg.unlocked ≠ 0 ∧ (s.found dt).inScopeEngine n = true ∧ (m.engine n).state = 2
      ∧ isReg reg = true)
    ∧ (let dt : Nat := 0;
      let n : Nat := 12;
      let s : State := st ({ ready .idle 4 with cpu.engines := [(12, { state := 2 })], cpu.dbg.unlocked := 2 });
      let m : Mach := (s.found dt).onDbg (fun d => { d with ir := 0x20, driven := 0, access := none });
      let reg : Nat := 0x1FFF;
      n < 16 ∧ (s.found dt).cpu.dbg.unlocked ≠ 0 ∧ (s.found dt).inScopeEngine n = true ∧ (m.engine n).state = 2
      ∧ isReg reg = true)
    ∧ (let dt : Nat := 0;
      let n : Nat := 12;
      let s : State := st ({ ready .idle 4 with cpu.engines := [(12, { state := 1 })], cpu.dbg.unlocked := 2 });
      let m : Mach := (s.found dt).onDbg (fun d => { d with ir := 0x20, driven := 0, access := none });
      n < 16 ∧ (s.found dt).cpu.dbg.unlocked ≠ 0 ∧ (s.found dt).inScopeEngine n = true ∧ (m.engine n).state ≠ 2)
    ∧ (let dt : Nat := 0;
      let n : Nat := 12;
      let s : State := st ({ ready .idle 4 with cpu.engines := [(12, { state := 1 })], cpu.dbg.unlocked := 2 });
      let bp : Nat := 3;
      n < 16 ∧ (s.found dt).cpu.dbg.unlocked ≠ 0 ∧ (s.found dt).inScopeEngine n = true ∧ bp < 4)
    ∧ (let dt : Nat := 0;
      let n : Nat := 12;
      let s : State := st ({ ready .idle 4 with cpu.engines := [(12, { state := 1 })], cpu.dbg.unlocked := 2 });
      let bp : Nat := 3;
      n < 16 ∧ (s.found dt).cpu.dbg.unlocked ≠ 0 ∧ (s.found dt).inScopeEngine n = true ∧ bp < 4)
    ∧ (let dt : Nat := 0;
      let n : Nat := 12;
      let s : State := st ({ ready .idle 4 with cpu.engines := [(12, { state := 1, bps := [(3, {})] })], cpu.dbg.unlocked := 2 });
      let bp : Nat := 3;
      n < 16 ∧ (s.found dt).cpu.dbg.unlocked ≠ 0 ∧ (s.found dt).inScopeEngine n = true ∧ bp < 4
      ∧ ((s.found dt).engine n).state = 1 ∧ (ffind ((s.found dt).engine n).bps bp).isSome = true)
    ∧ (let n : Nat := 15;
      let m : Mach := fd (ready .idle 4);
      n < 16 ∧ m.cpu.dbg.unlocked = 0)
    ∧ (let n : Nat := 12;
      let m : Mach := fd ({ ready .idle 4 with cpu.engines := [(12, { state := 1 })], cpu.dbg.unlocked := 1 });
      n < 16 ∧ m.cpu.dbg.unlocked ≠ 0 ∧ m.inScopeEngine n = false) :=
  ⟨by decide +kernel,
    by decide +kernel,
    by decide +kernel,
    by decide +kernel,
    by decide +kernel,
    by decide +kernel,
    by decide +kernel,
    by decide +kernel,
    by decide +kernel,
    by decide +kernel⟩

theorem test_TheDebugPortReachesMemoryAndSemaphores_has_witnesses :
    (let dt : Nat := 0;
      let n : Nat := 12;
      let a : Nat := 262136;
      let s : State := st ({ ready .idle 4 with cpu.engines := [(12, { state := 1 })], cpu.dbg.unlocked := 2 });
      n < 16 ∧ (s.found dt).cpu.dbg.unlocked ≠ 0 ∧ (s.found dt).memAllowed n (a % 2 ^ 32) = true
      ∧ okOffset (a % 2 ^ 32) = true ∧ bit (a % 2 ^ 32) 31 = false)
    ∧ (let dt : Nat := 0;
      let n : Nat := 12;
      let a : Nat := 262136;
      let s : State := st ({ ready .idle 4 with cpu.engines := [(12, { state := 1 })], cpu.dbg.unlocked := 2 });
      n < 16 ∧ (s.found dt).cpu.dbg.unlocked ≠ 0 ∧ (s.found dt).memAllowed n (a % 2 ^ 32) = true
      ∧ okOffset (a % 2 ^ 32) = true ∧ bit (a % 2 ^ 32) 31 = false)
    ∧ (let n : Nat := 13;
      let a : Nat := (2 ^ 31 + 64);
      let m : Mach := fd ({ ready .idle 4 with cpu.engines := [(12, { state := 1 })], cpu.dbg.unlocked := 2 });
      n < 16 ∧ m.dbgReachesJob n (a % 2 ^ 32) = true)
    ∧ (let t : Nat := 0;
      let a : Nat := 8;
      let old : Bytes := [1];
      let m : Mach := fd ({ ready .idle 4 with cpu.dbg.access := some (0, 8, [1]), now := 1000000 });
      m.cpu.dbg.access = some (t, a, old) ∧ t + 1000000 ≤ m.now)
    ∧ (let t : Nat := 0;
      let a : Nat := 8;
      let old : Bytes := [1];
      let m : Mach := fd ({ ready .idle 4 with cpu.dbg.access := some (0, 8, [1]), now := 999999 });
      m.cpu.dbg.access = some (t, a, old) ∧ m.now < t + 1000000)
    ∧ (let dt : Nat := 0;
      let q : Nat := 63;
      let s : State := st ({ ready .idle 4 with cpu.dbg.unlocked := 1, cpu.sems := [(63, { state := 0 })] });
      let m : Mach := (s.found dt).onDbg (fun d => { d with ir := 0x20, driven := 0, access := none });
      q < 64 ∧ (s.found dt).cpu.dbg.unlocked ≠ 0 ∧ (s.found dt).inScopeSem q = true ∧ (m.sem q).state ≠ 1)
    ∧ (let dt : Nat := 0;
      let q : Nat := 63;
      let s : State := st ({ ready .idle 4 with cpu.dbg.unlocked := 1, cpu.sems := [(63, { state := 1, owner := 15 })] });
      let m : Mach := (s.found dt).onDbg (fun d => { d with ir := 0x20, driven := 0, access := none });
      q < 64 ∧ (s.found dt).cpu.dbg.unlocked ≠ 0 ∧ (s.found dt).inScopeSem q = true ∧ (m.sem q).state = 1
      ∧ (m.sem q).owner = 15 ∧ (m.sem q).recovering = false)
    ∧ (let dt : Nat := 0;
      let q : Nat := 63;
      let s : State := st ({ ready .idle 4 with cpu.dbg.unlocked := 1, cpu.sems := [(63, { state := 1, owner := 15, recovering := true })] });
      let m : Mach := (s.found dt).onDbg (fun d => { d with ir := 0x20, driven := 0, access := none });
      q < 64 ∧ (s.found dt).cpu.dbg.unlocked ≠ 0 ∧ (s.found dt).inScopeSem q = true ∧ (m.sem q).state = 1
      ∧ (m.sem q).owner = 15) :=
  ⟨by decide +kernel,
    by decide +kernel,
    by decide +kernel,
    by decide +kernel,
    by decide +kernel,
    by decide +kernel,
    by decide +kernel,
    by decide +kernel⟩

theorem test_PairsHearEachOtherAndTakeRoles_has_witnesses :
    (let m : Mach := fd ({ ready .idle 4 with pair.role := 1, now := 5000 });
      m.paired = true ∧ m.sys.mode ≠ .reset ∧ m.pair.beatAt + 5000 ≤ m.now)
    ∧ (let m : Mach := fd ({ ready .idle 4 with pair.role := 1, now := 5000 });
      m.paired = true ∧ m.sys.mode ≠ .reset ∧ m.pair.hareAt + 5000 ≤ m.now)
    ∧ (let m : Mach := fd (ready .idle 4);
      m.paired = false)
    ∧ (let v : Nat := (0xD500000000 + crc8 (beBytes 4 0xD5000000));
      let m : Mach := fd ({ ready .idle 4 with pair.role := 1 });
      m.paired = true ∧ bits (v % 2 ^ 40) 32 8 = 0xD5 ∧ crc8 (beBytes 4 (v % 2 ^ 40 / 256)) = v % 2 ^ 40 % 256
      ∧ bits (v % 2 ^ 40) 10 6 = 0 ∧ bit (v % 2 ^ 40) 9 = false)
    ∧ (let v : Nat := 0;
      (bits (v % 2 ^ 40) 32 8 ≠ 0xD5 ∨ crc8 (beBytes 4 (v % 2 ^ 40 / 256)) ≠ v % 2 ^ 40 % 256 ∨ bits (v % 2 ^ 40) 10 6 ≠ 0))
    ∧ (let m : Mach := fd ({ ready .idle 4 with pair.role := 1 });
      m.paired = true)
    ∧ (let m : Mach := fd ({ ready .idle 4 with pair.role := 2, now := 15000, pair.lastHare := 1 });
      m.paired = true ∧ m.pair.role ≠ 5 ∧ m.pair.bindFailed = false ∧ m.absent m.pair.lastBind = true
      ∧ m.pair.hareFailed = false ∧ m.absent m.pair.lastHare = false)
    ∧ (let m : Mach := fd ({ ready .idle 4 with pair.role := 2, now := 15000, pair.lastBind := 1 });
      m.paired = true ∧ m.pair.role ≠ 5 ∧ m.pair.hareFailed = false ∧ m.absent m.pair.lastHare = true
      ∧ m.pair.bindFailed = false ∧ m.absent m.pair.lastBind = false)
    ∧ (let m : Mach := fd ({ ready .idle 4 with pair.role := 2 });
      m.pair.role = 2)
    ∧ (let m : Mach := fd ({ ready .idle 4 with pair.role := 1 });
      (m.pair.role = 0 ∨ m.pair.role = 1))
    ∧ (let m : Mach := fd ({ { State.reset.m with sys.mode := .assemble } with pair := { role := 5, cfg := 3 }, now := 100000000 });
      m.pair.role = 5 ∧ m.sys.mode = .assemble ∧ m.pair.discoveryAt + 100000000 ≤ m.now ∧ bit m.pair.flags 2 = false
      ∧ m.pair.heardHare = false ∧ m.pair.heardBind = false ∧ m.moduleId = 1)
    ∧ (let m : Mach := fd ({ { State.reset.m with sys.mode := .assemble } with pair := { role := 5, cfg := 5 }, now := 100000000 });
      m.pair.role = 5 ∧ m.sys.mode = .assemble ∧ m.pair.discoveryAt + 100000000 ≤ m.now ∧ bit m.pair.flags 2 = false
      ∧ m.pair.heardHare = false ∧ m.pair.heardBind = false ∧ m.moduleId ≠ 1 ∧ m.pair.secondWait = false) :=
  ⟨by decide +kernel,
    by decide +kernel,
    by decide +kernel,
    by decide +kernel,
    by decide +kernel,
    by decide +kernel,
    by decide +kernel,
    by decide +kernel,
    by decide +kernel,
    by decide +kernel,
    by decide +kernel,
    by decide +kernel⟩

theorem test_VerdictsAndWritesAreAcknowledged_has_witnesses :
    (let no : Nat := 4;
      let m : Mach := fd ({ ready .idle 4 with pair.role := 2, pair.verdictApplied := 4 });
      m.pair.role = 2 ∧ no ≤ m.pair.verdictApplied)
    ∧ (let no : Nat := 5;
      let m : Mach := fd ({ ready .idle 4 with pair.role := 2, pair.verdictApplied := 4 });
      m.pair.role = 2 ∧ m.pair.verdictApplied < no ∧ m.pair.verdictQueue.any (fun x => x.1 = no) = false)
    ∧ (let m : Mach := fd ({ ready .idle 4 with pair.role := 1, pair.sentVerdicts := [⟨3, 0, .headPolicy 1 1 0⟩], now := 20000 });
      let v : SentVerdict := (⟨3, 0, .headPolicy 1 1 0⟩ : SentVerdict);
      v ∈ m.pair.sentVerdicts ∧ v.sentAt + 20000 ≤ m.now)
    ∧ (let m : Mach := fd ({ ready .idle 4 with pair.role := 1 });
      m.pair.sentVerdicts = [] ∧ m.pair.sentForwards = [])
    ∧ (Status.busy ≠ .ok)
    ∧ (let idx : Nat := 0xE001;
      let dev : Nat := 0;
      let m : Mach := fd ({ ready .idle 4 with pair.role := 2 });
      let data : Bytes := [1];
      let no : Nat := 1;
      let sub : Nat := 0;
      let n : Mach := Mach.writeObj { m.onPair (fun p => { p with forwardApplied := no }) with out := [] } (.peer dev) idx sub data;
      m.pair.role = 2 ∧ idx ≠ 0 ∧ answerIn (.peer dev) n.out = none)
    ∧ (let m : Mach := fd ({ ready .idle 4 with pair.role := 1 });
      m.pair.role = 1) :=
  ⟨by decide +kernel,
    by decide +kernel,
    by decide +kernel,
    by decide +kernel,
    by decide +kernel,
    by decide +kernel,
    by decide +kernel⟩

theorem test_TheStandbyMirrorsTheActive_has_witnesses :
    (let no : Nat := 1;
      let m : Mach := fd ({ ready .idle 4 with pair.role := 1, pair.peerRole := 2, now := 1000000 });
      m.inStepPeer = true ∧ m.pair.mirrorAt + 1000000 ≤ m.now ∧ m.pair.mirrorNo + 1 = no ∧ m.pair.resync = 0
      ∧ m.enc.origin = none)
    ∧ (let m : Mach := fd ({ ready .idle 4 with pair.role := 2 });
      m.pair.role ≠ 1)
    ∧ (let chunk : Nat := 15;
      let data : Bytes := (List.replicate 4096 0 : Bytes);
      let m : Mach := fd ({ ready .idle 4 with pair.role := 2 });
      m.pair.role = 2 ∧ 1 ≤ chunk ∧ chunk < 16 ∧ data.length ≤ 4096 ∧ m.pair.mirrorPart = none)
    ∧ (let time : Nat := 0;
      let count : Int := (3 : Int);
      let m : Mach := fd ({ ready .idle 4 with pair.role := 2, enc.origin := some 0 });
      m.pair.role = 2 ∧ m.enc.origin.isSome = true ∧ 2 < (m.countAt time - count).natAbs)
    ∧ (let time : Nat := 0;
      let count : Int := (2 : Int);
      let m : Mach := fd ({ ready .idle 4 with pair.role := 2, enc.origin := some 0 });
      m.pair.role = 2 ∧ m.enc.origin.isSome = true ∧ (m.countAt time - count).natAbs ≤ 2)
    ∧ (let m : Mach := fd ({ ready .idle 4 with pair.role := 1 });
      m.paired = true ∧ m.enc.origin = none) :=
  ⟨by decide +kernel,
    by decide +kernel,
    by decide +kernel,
    by decide +kernel,
    by decide +kernel,
    by decide +kernel⟩

theorem test_PeerReportsAreTaken_has_witnesses :
    (let m : Mach := fd ({ ready .idle 4 with pair.role := 1 });
      m.paired = true)
    ∧ (let m : Mach := fd ({ ready .idle 4 with pair.role := 1 });
      m.pair.role = 1)
    ∧ (let m : Mach := fd ({ ready .idle 4 with pair.role := 2 });
      m.pair.role ≠ 1)
    ∧ (let h : Nat := 3;
      let since : Nat := 0;
      let c : Content := { state := 5, waitSince := some 0 };
      let m : Mach := fd ({ ready .idle 4 with frc.objects := [(3, { state := 5, waitSince := some 0 })], now := 0 });
      m.content h = some c ∧ c.waitSince = some since)
    ∧ (let h : Nat := 3;
      let digest : Bytes := [1];
      let c : Content := { state := 5 };
      let m : Mach := fd ({ ready .idle 4 with pair.role := 1, pair.peerRole := 2, frc.objects := [(3, { state := 5 })] });
      m.content h = some c ∧ c.state = 5 ∧ digest ≠ c.hash ∧ m.inStepPeer = true ∧ c.waitSince = none)
    ∧ (let h : Nat := 3;
      let since : Nat := 0;
      let c : Content := { state := 5, waitSince := some 0 };
      let m : Mach := fd ({ ready .idle 4 with frc.objects := [(3, { state := 5, waitSince := some 0 })], now := 50000000 });
      m.content h = some c ∧ c.waitSince = some since ∧ since + m.nat 0xA005 0 0 * 1000000 ≤ m.now)
    ∧ (let h : Nat := 3;
      let since : Nat := 0;
      let c : Content := { state := 5, waitSince := some 0 };
      let m : Mach := fd ({ ready .idle 4 with frc.objects := [(3, { state := 5, waitSince := some 0 })], now := 49999999 });
      m.content h = some c ∧ c.waitSince = some since ∧ m.now < since + m.nat 0xA005 0 0 * 1000000)
    ∧ (let m : Mach := fd ({ ready .idle 4 with pair.role := 4 });
      m.pair.role = 4) :=
  ⟨by decide +kernel,
    by decide +kernel,
    by decide +kernel,
    by decide +kernel,
    by decide +kernel,
    by decide +kernel,
    by decide +kernel,
    by decide +kernel⟩

theorem test_YarrowMetersTheWeb_has_witnesses :
    (let aLeads : Bool := true;
      let m : Mach := fd ({ ready .idle 4 with yarrow := { State.reset.m.yarrow with up := true, ready := true } });
      m.yarrow.up = true ∧ m.yarrow.run = none ∧ (aLeads != bit m.yarrow.params.encConfig 8) = true
      ∧ m.yarrow.highest < m.yarrow.count + 1)
    ∧ (let aLeads : Bool := false;
      let m : Mach := fd ({ ready .idle 4 with yarrow := { State.reset.m.yarrow with up := true, ready := true } });
      m.yarrow.up = true ∧ m.yarrow.run = none ∧ (aLeads != bit m.yarrow.params.encConfig 8) = false
      ∧ m.yarrow.count - 1 ≤ m.yarrow.highest)
    ∧ (let aLeads : Bool := true;
      let m : Mach := fd ({ ready .idle 4 with yarrow := { State.reset.m.yarrow with up := true, ready := true, calDue := true } });
      m.yarrow.up = true ∧ m.yarrow.run = none ∧ m.yarrow.openX = []
      ∧ (aLeads != bit m.yarrow.params.encConfig 9) = true ∧ m.yarrow.calDue = true ∧ m.yarrow.params.calAuto = 1
      ∧ m.yarrow.full = false ∧ m.yarrow.ready = true ∧ m.yarrow.restarting = false)
    ∧ (let aLeads : Bool := true;
      let r : CalLenRun := (⟨0, 0, 0, 0⟩ : CalLenRun);
      let m : Mach := fd ({ ready .idle 4 with yarrow := { State.reset.m.yarrow with up := true, ready := true, run := some ⟨0, 0, 0, 0⟩ } });
      m.yarrow.up = true ∧ m.yarrow.run = some r ∧ (aLeads != bit m.yarrow.params.encConfig 9) = true
      ∧ max r.highX (r.countX + 1) - (r.countX + 1) ≤ 4 ∧ r.countX + 1 < (m.yarrow.runLength : Int))
    ∧ (let m : Mach := fd (ready .idle 4);
      m.yarrow.up = false) :=
  ⟨by decide +kernel,
    by decide +kernel,
    by decide +kernel,
    by decide +kernel,
    by decide +kernel⟩

theorem test_YarrowKeepsItsCauses_has_witnesses :
    (let sid : Nat := 1;
      let m : Mach := fd ({ ready .idle 4 with yarrow := { State.reset.m.yarrow with up := true, ready := true } });
      m.admits (.host sid) 0xC021 0 1 = true ∧ m.yarrowAnswers = true)
    ∧ (let sid : Nat := 1;
      let m : Mach := fd (ready .idle 4);
      m.admits (.host sid) 0xC021 0 1 = true ∧ m.yarrowAnswers = false)
    ∧ (let m : Mach := fd ({ ready .idle 4 with yarrow := { State.reset.m.yarrow with up := true, ready := true } });
      m.yarrow.up = true ∧ m.yarrow.sealClosed = true)
    ∧ (let m : Mach := fd ({ ready .idle 4 with yarrow := { State.reset.m.yarrow with up := true, ready := true, sealClosed := false } });
      m.yarrow.up = true ∧ m.yarrow.sealClosed = false)
    ∧ (let m : Mach := fd ({ ready .idle 4 with yarrow := { State.reset.m.yarrow with up := true, ready := true } });
      m.yarrow.up = true ∧ m.yarrow.ready = true)
    ∧ (let m : Mach := fd ({ ready .idle 4 with yarrow := { State.reset.m.yarrow with up := true, ready := true } });
      m.yarrow.up = true)
    ∧ (let line : EncLine := EncLine.z;
      let m : Mach := fd ({ ready .idle 4 with yarrow := { State.reset.m.yarrow with up := true, ready := true } });
      m.yarrow.up = true ∧ m.yarrow.openP.contains line = false)
    ∧ (let m : Mach := fd ({ ready .idle 4 with yarrow := { State.reset.m.yarrow with up := true, ready := true } });
      m.yarrow.up = true)
    ∧ (let temps : List (Option Int) := ([some 500] : List (Option Int));
      let t : Int := (500 : Int);
      let m : Mach := fd ({ ready .idle 4 with yarrow := { State.reset.m.yarrow with up := true, ready := true } });
      m.yarrowAnswers = true ∧ nth (temps.map tempReading) m.yarrow.params.rollerInput none = some t
      ∧ (t - m.yarrow.refTemp).natAbs ≤ m.yarrow.params.calDt)
    ∧ (let temps : List (Option Int) := ([none] : List (Option Int));
      let m : Mach := fd ({ ready .idle 4 with yarrow := { State.reset.m.yarrow with up := true, ready := true } });
      m.yarrowAnswers = true ∧ nth (temps.map tempReading) m.yarrow.params.rollerInput none = none) :=
  ⟨by decide +kernel,
    by decide +kernel,
    by decide +kernel,
    by decide +kernel,
    by decide +kernel,
    by decide +kernel,
    by decide +kernel,
    by decide +kernel,
    by decide +kernel,
    by decide +kernel⟩

theorem test_DropReportsAreTakenInOrder_has_witnesses :
    (let m : Mach := fd ({ ready .idle 4 with yarrow := { State.reset.m.yarrow with up := true, ready := true, expect := some 9 } });
      m.yarrow.up = true ∧ m.yarrow.ready = true ∧ m.yarrow.restarting = false)
    ∧ (let m : Mach := fd ({ ready .idle 4 with yarrow := { State.reset.m.yarrow with up := true, ready := true, expect := some 9, job := some { jobId := 1, line := 0, channels := 1, increment := 65536 } } });
      let seq : Nat := 9;
      let n : Mach := m.yrSeq seq;
      m.yarrow.up = true ∧ m.yarrow.ready = true ∧ m.yarrow.restarting = false ∧ n.yarrow.job.isSome = true)
    ∧ (let m : Mach := fd ({ ready .idle 4 with yarrow := { State.reset.m.yarrow with up := true, ready := true, expect := some 9 } });
      let seq : Nat := 9;
      let n : Mach := m.yrSeq seq;
      m.yarrow.up = true ∧ m.yarrow.ready = true ∧ m.yarrow.restarting = false ∧ n.yarrow.job = none)
    ∧ (let m : Mach := fd ({ ready .idle 4 with yarrow := { State.reset.m.yarrow with up := true, ready := true, expect := some 9 } });
      m.yarrow.up = true ∧ m.yarrow.ready = true ∧ m.yarrow.restarting = false)
    ∧ (let m : Mach := fd ({ ready .idle 4 with yarrow := { State.reset.m.yarrow with up := true, ready := true, expect := some 9 } });
      m.yarrow.up = true ∧ m.yarrow.ready = true ∧ m.yarrow.restarting = false)
    ∧ (let m : Mach := fd ({ ready .idle 4 with yarrow := { State.reset.m.yarrow with up := true, ready := true } });
      let seq : Nat := 9;
      let n : Mach := m.yrSeq seq;
      let p : Nat := 63;
      let b := (⟨0, 1, false, false, 1, 0, 0⟩ : StatusBlock);
      m.yarrow.up = true ∧ m.yarrow.ready = true ∧ m.yarrow.restarting = false ∧ p < 64 ∧ b.isOpen = false
      ∧ ffind n.yarrow.lastBlock p = none ∧ n.yarrow.jobAt b.firstEvent = none)
    ∧ (let m : Mach := fd ({ ready .idle 4 with yarrow := { State.reset.m.yarrow with up := true, ready := true } });
      let p : Nat := 63;
      let b := (⟨0, 1, true, false, 1, 0, 0⟩ : StatusBlock);
      m.yarrow.up = true ∧ m.yarrow.ready = true ∧ m.yarrow.restarting = false ∧ p < 64 ∧ b.isOpen = true)
    ∧ (let m : Mach := fd ({ ready .idle 4 with yarrow := { State.reset.m.yarrow with up := true, ready := true, restarting := true } });
      m.yarrow.up = true ∧ m.yarrow.restarting = true ∧ m.yarrow.buffer.length < 4096)
    ∧ (let m : Mach := fd ({ ready .idle 4 with yarrow := { State.reset.m.yarrow with up := true, ready := true } });
      let seq : Nat := 9;
      (m.yarrow.expect = some seq ∨ m.yarrow.expect = none)) :=
  ⟨by decide +kernel,
    by decide +kernel,
    by decide +kernel,
    by decide +kernel,
    by decide +kernel,
    by decide +kernel,
    by decide +kernel,
    by decide +kernel,
    by decide +kernel⟩

theorem test_YarrowSavesAndReports_has_witnesses :
    (let m : Mach := fd ({ ready .idle 4 with yarrow := { State.reset.m.yarrow with up := true, ready := true }, now := 1000000000 });
      m.yarrowAnswers = true ∧ m.yarrow.saved.savedAt + 1000000000 ≤ m.now)
    ∧ (let m : Mach := fd ({ ready .idle 4 with yarrow := { State.reset.m.yarrow with up := true, ready := true } });
      m.yarrowAnswers = true ∧ m.now < m.yarrow.saved.savedAt + 1000000000)
    ∧ (let m : Mach := fd ({ ready .idle 4 with yarrow := { State.reset.m.yarrow with up := true, ready := true, restarting := true } });
      m.yarrow.restarting = true ∧ m.yarrow.buffer = [])
    ∧ (let m : Mach := fd ({ ready .idle 4 with yarrow := { State.reset.m.yarrow with up := true, ready := false, saved.clean := true } });
      m.yarrow.up = true ∧ m.yarrow.ready = false ∧ m.yarrow.saved.clean = true)
    ∧ (let m : Mach := fd ({ ready .idle 4 with yarrow := { State.reset.m.yarrow with up := true, ready := false } });
      m.yarrow.up = true ∧ m.yarrow.ready = false)
    ∧ (let m : Mach := fd ({ ready .idle 4 with now := 100000000 });
      m.yarrowAnswers = false ∧ m.yarrow.answerAt + 100000000 ≤ m.now ∧ m.sys.mode ≠ .reset)
    ∧ (let sid : Nat := 1;
      let data : Bytes := (List.replicate 32 1 ++ [1, 64, 0, 0, 0, 0, 0, 0] : Bytes);
      let m : Mach := fd ({ ready .idle 4 with yarrow := { State.reset.m.yarrow with up := true, ready := true } });
      let vals : List (Nat × Fld × Bytes) := ((findObj 0xC040).bind (fun o => o.values 0 data)).getD [];
      m.admitsBytes (.host sid) 0xC040 0 15 data vals = true ∧ m.yarrowAnswers = true ∧ leAt data 32 1 ≤ 1
      ∧ leAt data 33 1 ≤ 64 ∧ leAt data 34 6 = 0)
    ∧ (let sid : Nat := 1;
      let data : Bytes := (List.replicate 40 255 : Bytes);
      let m : Mach := fd ({ ready .idle 4 with yarrow := { State.reset.m.yarrow with up := true, ready := true } });
      let vals : List (Nat × Fld × Bytes) := ((findObj 0xC040).bind (fun o => o.values 0 data)).getD [];
      m.admitsBytes (.host sid) 0xC040 0 15 data vals = true ∧ m.yarrowAnswers = true
      ∧ (1 < leAt data 32 1 ∨ 64 < leAt data 33 1))
    ∧ (let t : Nat := 0;
      let body : Bytes := [1];
      let m : Mach := fd ({ ready .idle 4 with yarrow := { State.reset.m.yarrow with up := true, ready := true, pendingReport := some ([1], 0) } });
      m.yarrow.pendingReport = some (body, t) ∧ m.yarrowAnswers = true)
    ∧ (let jobId : Nat := 1;
      let frame : Nat := 0;
      let t : Nat := 0;
      let m : Mach := fd ({ ready .idle 4 with yarrow := { State.reset.m.yarrow with up := true, ready := true, markFrame := some (1, 0, 0) } });
      m.yarrow.markFrame = some (jobId, frame, t) ∧ m.yarrowAnswers = true ∧ m.pair.role ≠ 2 ∧ m.pair.role ≠ 4) :=
  ⟨by decide +kernel,
    by decide +kernel,
    by decide +kernel,
    by decide +kernel,
    by decide +kernel,
    by decide +kernel,
    by decide +kernel,
    by decide +kernel,
    by decide +kernel,
    by decide +kernel⟩

theorem test_SignedWritesNeedTheNonce_has_witnesses :
    (let sid : Nat := 1;
      let m : Mach := fd ({ ready .idle 4 with yarrow := { State.reset.m.yarrow with up := true, ready := true } });
      m.answers (.host sid) = true ∧ m.yarrowAnswers = true)
    ∧ (let sid : Nat := 1;
      let m : Mach := fd (ready .idle 4);
      m.answers (.host sid) = true ∧ m.yarrowAnswers = false)
    ∧ (let t : Nat := 0;
      let n : Bytes := ([1] : Bytes);
      let m : Mach := fd ({ ready .idle 4 with yarrow := { State.reset.m.yarrow with up := true, ready := true, nonce := some ([1], 0) }, now := 60000000000 });
      m.yarrow.nonce = some (n, t) ∧ t + 60000000000 ≤ m.now)
    ∧ (let t : Nat := 0;
      let n : Bytes := ([1] : Bytes);
      let m : Mach := fd ({ ready .idle 4 with yarrow := { State.reset.m.yarrow with up := true, ready := true, nonce := some ([1], 0) }, now := 59999999999 });
      m.yarrow.nonce = some (n, t) ∧ m.now < t + 60000000000)
    ∧ (let sid : Nat := 1;
      let data : Bytes := (metro ++ metroSignature);
      let m : Mach := fd ({ ready .idle 3 with yarrow := { State.reset.m.yarrow with up := true, ready := true } });
      let vals : List (Nat × Fld × Bytes) := ((findObj 0xC01A).bind (fun o => o.values 0 data)).getD [];
      m.admitsBytes (.host sid) 0xC01A 0 4 data vals = true ∧ m.yarrowAnswers = true ∧ m.yarrow.full = false
      ∧ m.nonceOk (slice data 4 16) = false)
    ∧ ((let m : Mach := fd ({ ready .idle 3 with yarrow := { State.reset.m.yarrow with up := true, ready := true, nonce := some (slice metro 4 16, 0), verifierKeys := [[], [], [], sha256 key] } }); let data := metro ++ metroSignature; m.admitsBytes (.host 1) 0xC01A 0 4 data (((findObj 0xC01A).bind (fun o => o.values 0 data)).getD []) = true ∧ m.yarrowAnswers = true ∧ m.yarrow.full = false ∧ m.nonceOk (slice data 4 16) = true ∧ m.metroSigner (leAt data 0 2) key = some 4 ∧ data.take (data.length - 64) = metro ∧ data.drop (data.length - 64) = metroSignature ∧ leAt data 3 1 = 0 ∧ leAt data 20 4 + 88 = data.length ∧ m.metroValueOk (leAt data 0 2) (leAt data 2 1) (slice data 24 (data.length - 88)) = true ∧ m.foreignProof (leAt data 0 2) (slice data 24 (data.length - 88)) = true)
      ∧ ecdsaOk key (sha256 metro) metroSignature = true)
    ∧ (let sid : Nat := 1;
      let m : Mach := fd ({ ready .idle 4 with yarrow := { State.reset.m.yarrow with up := true, ready := true, causes := 0x20 } });
      m.admits (.host sid) 0xC050 0 1 = true ∧ stopCauses m.yarrow.causes = 0)
    ∧ (let sid : Nat := 1;
      let m : Mach := fd ({ ready .idle 4 with yarrow := { State.reset.m.yarrow with up := true, ready := true, causes := 1 } });
      m.admits (.host sid) 0xC050 0 1 = true ∧ stopCauses m.yarrow.causes ≠ 0)
    ∧ ((let m : Mach := fd ({ ready .idle 3 with yarrow := { State.reset.m.yarrow with up := true, ready := true, fwHash := sha256 key } }); m.admitsBytes (.host 1) 0xC051 0 4 message (((findObj 0xC051).bind (fun o => o.values 0 message)).getD []) = true ∧ m.yarrowAnswers = true ∧ m.yarrow.full = false ∧ sha256 key = m.yarrow.fwHash)
      ∧ ecdsaOk key (sha256 message) signature = true)
    ∧ (let sid : Nat := 1;
      let image : Bytes := message;
      let key : Bytes := key;
      let m : Mach := fd ({ ready .idle 3 with yarrow := { State.reset.m.yarrow with up := true, ready := true, fwHash := [] } });
      let vals : List (Nat × Fld × Bytes) := ((findObj 0xC051).bind (fun o => o.values 0 image)).getD [];
      m.admitsBytes (.host sid) 0xC051 0 4 image vals = true ∧ m.yarrowAnswers = true ∧ m.yarrow.full = false
      ∧ sha256 key ≠ m.yarrow.fwHash)
    ∧ ((let m : Mach := fd ({ ready .idle 3 with yarrow := { State.reset.m.yarrow with up := true, ready := true, nonce := some (message.take 16, 0), verifierKeys := [sha256 key, [], [], []], trailBase := message.drop 16 } }); let data := message ++ signature; m.admitsBytes (.host 1) 0xC04B 0 4 data (((findObj 0xC04B).bind (fun o => o.values 0 data)).getD []) = true ∧ m.yarrowAnswers = true ∧ m.yarrow.sealClosed = true ∧ m.nonceOk (slice data 0 16) = true ∧ m.keySlot key = some 1 ∧ data.take 48 = message ∧ data.drop 48 = signature ∧ slice data 16 32 = m.yarrow.runningHash)
      ∧ ecdsaOk key (sha256 message) signature = true)
    ∧ ((let m : Mach := fd ({ ready .idle 3 with yarrow := { State.reset.m.yarrow with up := true, ready := true, nonce := some (message.take 16, 0), verifierKeys := [sha256 key, [], [], []], trailBase := [9] } }); let data := message ++ signature; m.admitsBytes (.host 1) 0xC04B 0 4 data (((findObj 0xC04B).bind (fun o => o.values 0 data)).getD []) = true ∧ m.yarrowAnswers = true ∧ m.yarrow.sealClosed = true ∧ m.nonceOk (slice data 0 16) = true ∧ m.keySlot key = some 1 ∧ data.take 48 = message ∧ data.drop 48 = signature ∧ slice data 16 32 ≠ m.yarrow.runningHash)
      ∧ ecdsaOk key (sha256 message) signature = true) :=
  ⟨by decide +kernel,
    by decide +kernel,
    by decide +kernel,
    by decide +kernel,
    by decide +kernel,
    ⟨by decide +kernel, test_metro_signature⟩,
    by decide +kernel,
    by decide +kernel,
    ⟨by decide +kernel, test_signature⟩,
    by decide +kernel,
    ⟨by decide +kernel, test_signature⟩,
    ⟨by decide +kernel, test_signature⟩⟩

theorem test_NetworkPortsPassFrames_has_witnesses :
    (let p : Nat := 1;
      let f : NetFrame := (⟨64, macOf 1, none, 1, false, true, 0, 0, 0⟩ : NetFrame);
      let m : Mach := fd ({ ready .idle 4 with time.net1 := { linkUp := true } });
      p < 2 ∧ (m.netPort p).linkUp = true ∧ bit (m.netCfg p) 0 = true ∧ f.fcsOk = false)
    ∧ ((let m : Mach := fd ({ ready .idle 4 with time.net1 := { linkUp := true } }); let f : NetFrame := (⟨64, macOf 1, none, 6, true, true, 0, 262080, 0⟩ : NetFrame); (m.netPort 1).linkUp = true ∧ bit (m.netCfg 1) 0 = true ∧ f.fcsOk = true ∧ m.tagOk 1 f = true ∧ 64 ≤ f.length ∧ f.length ≤ 9216 ∧ f.kind ≠ 7 ∧ 262080 + 64 ≤ 262144)
      ∧ (fd ({ ready .idle 4 with time.net1 := { linkUp := true } })).takesDst 1 (⟨64, macOf 1, none, 6, true, true, 0, 262080, 0⟩ : NetFrame) = true)
    ∧ ((let m : Mach := fd ({ ready .idle 4 with time.net1 := { linkUp := true } }); let f : NetFrame := (⟨9216, macOf 1, none, 1, true, true, 0, 0, 0⟩ : NetFrame); (m.netPort 1).linkUp = true ∧ bit (m.netCfg 1) 0 = true ∧ f.fcsOk = true ∧ m.tagOk 1 f = true ∧ 64 ≤ f.length ∧ f.length ≤ 9216 ∧ f.kind ≠ 7 ∧ 0 + 9216 ≤ 262144)
      ∧ (fd ({ ready .idle 4 with time.net1 := { linkUp := true } })).takesDst 1 (⟨9216, macOf 1, none, 1, true, true, 0, 0, 0⟩ : NetFrame) = true)
    ∧ ((let m : Mach := fd ({ ready .idle 4 with time.net1 := { linkUp := true } }); let f : NetFrame := (⟨64, macOf 1, none, 1, true, true, 0, 262144, 0⟩ : NetFrame); (m.netPort 1).linkUp = true ∧ bit (m.netCfg 1) 0 = true ∧ f.fcsOk = true ∧ m.tagOk 1 f = true ∧ 64 ≤ f.length ∧ f.length ≤ 9216 ∧ f.kind ≠ 7 ∧ 262144 < 262144 + 64)
      ∧ (fd ({ ready .idle 4 with time.net1 := { linkUp := true } })).takesDst 1 (⟨64, macOf 1, none, 1, true, true, 0, 262144, 0⟩ : NetFrame) = true)
    ∧ (let p : Nat := 1;
      let f : NetFrame := (⟨9217, macOf 1, none, 1, true, true, 0, 0, 0⟩ : NetFrame);
      let m : Mach := fd ({ ready .idle 4 with time.net1 := { linkUp := true } });
      p < 2 ∧ (m.netPort p).linkUp = true ∧ bit (m.netCfg p) 0 = true ∧ f.fcsOk = true
      ∧ (f.length < 64 ∨ 9216 < f.length))
    ∧ (let p : Nat := 1;
      let m : Mach := fd (ready .idle 4);
      p < 2 ∧ bit (m.netCfg p) 0 = true ∧ (m.netPort p).linkUp = false ∧ m.sys.mode ≠ .reset)
    ∧ (let p : Nat := 1;
      let m : Mach := fd ({ ready .idle 4 with time.net1 := { linkUp := true } });
      p < 2 ∧ (m.netPort p).linkUp = true)
    ∧ (let p : Nat := 1;
      let m : Mach := fd (ready .idle 4);
      p < 2 ∧ (m.netPort p).linkUp = false)
    ∧ (let sid : Nat := 1;
      let p : Nat := 1;
      let v : Nat := (7 : Nat);
      let m : Mach := fd ({ ready .idle 4 with time.net1 := { linkUp := true } });
      p < 2 ∧ m.admits (.host sid) 0xD001 (p + 1) v = true ∧ (bit v 2 = false ∨ bit v 1 = true))
    ∧ (let sid : Nat := 1;
      let p : Nat := 1;
      let v : Nat := (5 : Nat);
      let m : Mach := fd ({ ready .idle 4 with time.net1 := { linkUp := true } });
      p < 2 ∧ m.admits (.host sid) 0xD001 (p + 1) v = true ∧ bit v 2 = true ∧ bit v 1 = false) :=
  ⟨by decide +kernel,
    ⟨by decide +kernel, by simp [Mach.takesDst]⟩,
    ⟨by decide +kernel, by simp [Mach.takesDst]⟩,
    ⟨by decide +kernel, by simp [Mach.takesDst]⟩,
    by decide +kernel,
    by decide +kernel,
    by decide +kernel,
    by decide +kernel,
    by decide +kernel,
    by decide +kernel⟩

theorem test_DomainsFollowTheirMaster_has_witnesses :
    (let d : Nat := 1;
      let p : Nat := 1;
      let a : Announce := (⟨7, 7, [], 254, 0⟩ : Announce);
      let m : Mach := fd ({ (ready .idle 4).setNum 0xD020 2 0 5 with time.net1 := { linkUp := true }, time.tdB := { } });
      d < 2 ∧ p < 2 ∧ (m.tdOn d && m.carries d p && (m.netPort p).linkUp) = true ∧ a.steps < 255)
    ∧ (let d : Nat := 1;
      let p : Nat := 1;
      let a : Announce := (⟨7, 7, [], 255, 0⟩ : Announce);
      let m : Mach := fd ({ (ready .idle 4).setNum 0xD020 2 0 5 with time.net1 := { linkUp := true }, time.tdB := { } });
      d < 2 ∧ p < 2 ∧ (m.tdOn d && m.carries d p && (m.netPort p).linkUp) = true ∧ 255 ≤ a.steps)
    ∧ (let d : Nat := 1;
      let p : Nat := 1;
      let sender : Nat := 7;
      let m : Mach := fd ({ (ready .idle 4).setNum 0xD020 2 0 5 with time.net1 := { linkUp := true }, time.tdB := { master := some 7, portNow := 1 } });
      d < 2 ∧ p < 2 ∧ m.fromMaster d p sender = true)
    ∧ (let d : Nat := 1;
      let p : Nat := 1;
      let sender : Nat := 7;
      let seq : Nat := 3;
      let rx : Int := (5 : Int);
      let c : Int := (0 : Int);
      let m : Mach := fd ({ (ready .idle 4).setNum 0xD020 2 0 5 with time.net1 := { linkUp := true }, time.tdB := { master := some 7, portNow := 1, twoStep := some (3, 7, 5, 0) } });
      d < 2 ∧ p < 2 ∧ m.fromMaster d p sender = true ∧ (m.domain d).twoStep = some (seq, sender, rx, c))
    ∧ (let d : Nat := 1;
      let p : Nat := 1;
      let sender : Nat := 8;
      let m : Mach := fd ({ (ready .idle 4).setNum 0xD020 2 0 5 with time.net1 := { linkUp := true }, time.tdB := { master := some 7, portNow := 1 } });
      d < 2 ∧ p < 2 ∧ m.fromMaster d p sender = false)
    ∧ (let d : Nat := 1;
      let m : Mach := fd ({ (ready .idle 4).setNum 0xD020 2 0 5 with time.net1 := { linkUp := true }, time.tdB := { master := some 7, portNow := 1, lockedSince := 1, quality := 2 }, now := 100000000000 });
      d < 2 ∧ m.tdOn d = true ∧ (m.domain d).master.isSome = true ∧ (m.domain d).lockedSince ≠ 0
      ∧ (m.domain d).quality = 2 ∧ (m.domain d).lastSync + m.nat 0xD025 3 0 * (m.domain d).syncInterval ≤ m.now) :=
  ⟨by decide +kernel,
    by decide +kernel,
    by decide +kernel,
    by decide +kernel,
    by decide +kernel,
    by decide +kernel⟩

theorem test_PathDelaysAreMeasured_has_witnesses :
    (let d : Nat := 1;
      let p : Nat := 1;
      let sender : Nat := 7;
      let seq : Nat := 3;
      let t0 : Nat := 1;
      let t1 : Int := (3 : Int);
      let t2 : Int := (4 : Int);
      let t3 : Int := (2 : Int);
      let m : Mach := fd ({ (ready .idle 4).setNum 0xD020 2 0 5 with time.net1 := { linkUp := true }, time.tdB := { master := some 7, portNow := 1, reqSeq := 3, reqSent := some (1, 2), syncPair := some (3, 4) } });
      d < 2 ∧ p < 2 ∧ m.fromMaster d p sender = true ∧ m.p2p d = false ∧ seq = (m.domain d).reqSeq
      ∧ (m.domain d).reqSent = some (t0, t3) ∧ (m.domain d).syncPair = some (t1, t2))
    ∧ (let d : Nat := 1;
      let p : Nat := 1;
      let m : Mach := fd ({ (ready .idle 4).setNum 0xD020 2 0 517 with time.net1 := { linkUp := true }, time.tdB := { } });
      d < 2 ∧ p < 2 ∧ (m.tdOn d && m.p2p d && m.carries d p && (m.netPort p).linkUp) = true)
    ∧ (let d : Nat := 1;
      let p : Nat := 1;
      let m : Mach := fd ({ (ready .idle 4).setNum 0xD020 2 0 517 with time.net1 := { linkUp := true }, time.tdB := { } });
      d < 2 ∧ p < 2 ∧ (m.tdOn d && m.p2p d && m.carries d p) = true)
    ∧ (let d : Nat := 1;
      let p : Nat := 1;
      let t0 : Nat := 0;
      let t1 : Int := (9 : Int);
      let t2 : Int := (1 : Int);
      let t4 : Int := (2 : Int);
      let c : Int := (0 : Int);
      let m : Mach := fd ({ (ready .idle 4).setNum 0xD020 2 0 517 with time.net1 := { linkUp := true }, time.tdB := { pdSent := [(1, (0, 9))], pdGot := [(1, (1, 2, 0))] } });
      d < 2 ∧ p < 2 ∧ (m.tdOn d && m.p2p d && m.carries d p) = true ∧ ffind (m.domain d).pdSent p = some (t0, t1)
      ∧ ffind (m.domain d).pdGot p = some (t2, t4, c))
    ∧ (let d : Nat := 1;
      let m : Mach := fd ({ (ready .idle 4).setNum 0xD020 2 0 5 with time.net1 := { linkUp := true }, time.tdB := { master := some 7, portNow := 1 } });
      let p : Nat := (m.domain d).portNow;
      d < 2 ∧ m.tdOn d = true ∧ m.p2p d = false ∧ (m.domain d).master.isSome = true ∧ (m.netPort p).linkUp = true
      ∧ (m.domain d).reqSent = none)
    ∧ (let d : Nat := 1;
      let p : Nat := 1;
      let m : Mach := fd ({ (ready .idle 4).setNum 0xD020 2 0 517 with time.net1 := { linkUp := true }, time.tdB := { } });
      d < 2 ∧ p < 2 ∧ (m.tdOn d && m.p2p d && m.carries d p && (m.netPort p).linkUp) = true
      ∧ ffind (m.domain d).pdSent p = none) :=
  ⟨by decide +kernel,
    by decide +kernel,
    by decide +kernel,
    by decide +kernel,
    by decide +kernel,
    by decide +kernel⟩

theorem test_TimeIsSetSelectedAndSlewed_has_witnesses :
    (let sid : Nat := 1;
      let d : Nat := 1;
      let v : Nat := (5 + 65536 : Nat);
      let m : Mach := fd (ready .idle 4);
      let n : Mach := m.setNum 0xD020 (d + 1) 0 v;
      d < 2 ∧ m.admits (.host sid) 0xD020 (d + 1) v = true ∧ bit v 0 = true
      ∧ bits (n.tdCfg 0) 16 8 ≠ bits (n.tdCfg 1) 16 8)
    ∧ (let sid : Nat := 1;
      let d : Nat := 1;
      let v : Nat := (7 : Nat);
      let m : Mach := fd (ready .idle 4);
      d < 2 ∧ m.admits (.host sid) 0xD023 (d + 1) v = true ∧ m.tdOn d = false ∧ m.time.sel ≠ d)
    ∧ (let sid : Nat := 1;
      let d : Nat := 1;
      let v : Nat := (7 : Nat);
      let m : Mach := fd ({ (ready .idle 4).setNum 0xD020 2 0 5 with time.net1 := { linkUp := true }, time.tdB := { } });
      d < 2 ∧ m.admits (.host sid) 0xD023 (d + 1) v = true ∧ m.tdOn d = true)
    ∧ (let sid : Nat := 1;
      let v : Nat := (0 : Nat);
      let m : Mach := fd (ready .idle 4);
      m.admits (.host sid) 0xD030 0 v = true ∧ bits v 0 1 = m.time.sel)
    ∧ (let sid : Nat := 1;
      let v : Nat := (1 : Nat);
      let m : Mach := fd ({ ready .idle 4 with time.tdB.quality := 4 });
      m.admits (.host sid) 0xD030 0 v = true ∧ bits v 0 1 ≠ m.time.sel ∧ 2 ≤ (m.domain (bits v 0 1)).quality)
    ∧ (let sid : Nat := 1;
      let v : Nat := (1 : Nat);
      let m : Mach := fd (ready .idle 4);
      m.admits (.host sid) 0xD030 0 v = true ∧ bits v 0 1 ≠ m.time.sel ∧ (m.domain (bits v 0 1)).quality ≤ 1)
    ∧ (let m : Mach := fd ({ ready .idle 4 with time := { k := 1, slewFrom := some 0 }, now := 10000 });
      m.time.slewFrom.isSome = true ∧ m.time.kAt m.linkTime = 0)
    ∧ (let m : Mach := fd ({ ready .idle 4 with time := { k := 1, slewFrom := some 0 }, now := 9999 });
      m.time.slewFrom.isSome = true ∧ m.time.kAt m.linkTime ≠ 0)
    ∧ (let t : Time := ({ k := 5, slewFrom := some 0 } : Time);
      let c0 : Nat := 0;
      t.slewFrom = some c0)
    ∧ (let t : Time := ({ k := 5, slewFrom := some 0 } : Time);
      let c0 : Nat := 0;
      t.slewFrom = some c0 ∧ 0 ≤ t.k)
    ∧ (let t : Time := ({ k := (-5), slewFrom := some 0 } : Time);
      let c0 : Nat := 0;
      t.slewFrom = some c0 ∧ t.k ≤ 0)
    ∧ (let t : Time := ({ k := 5, slewFrom := some 0 } : Time);
      let c0 : Nat := 0;
      let c : Nat := 0;
      t.slewFrom = some c0 ∧ c0 ≤ c ∧ t.kAt (c + 10000) ≠ 0) :=
  ⟨by decide +kernel,
    by decide +kernel,
    by decide +kernel,
    by decide +kernel,
    by decide +kernel,
    by decide +kernel,
    by decide +kernel,
    by decide +kernel,
    by decide +kernel,
    by decide +kernel,
    by decide +kernel,
    by decide +kernel⟩

theorem test_RequestsAreCheckedFirst_has_witnesses :
    (let m : Mach := fd (ready .idle 4);
      let x : HyMsg := ask 4 [];
      let op : Nat := 4;
      let s : Session := opened;
      m.hears x op s ∧ (s.authed = true ∨ op = 2))
    ∧ (let m : Mach := fd ({ ready .idle 4 with hy.sessions := [(1, { level := 4, src := 9 })] });
      let x : HyMsg := ask 4 [];
      let op : Nat := 4;
      let s : Session := { level := 4, src := 9 };
      m.hears x op s ∧ s.authed = false ∧ op ≠ 2)
    ∧ (let m : Mach := fd ({ ready .idle 4 with hy.blocked := [(9, 1)] });
      let x : HyMsg := ask 4 [];
      m.isBlocked x.src = true)
    ∧ (let m : Mach := fd (ready .idle 4);
      let x : HyMsg := { ask 4 [] with net := 1 };
      m.takesFrom x.net = false)
    ∧ (let m : Mach := fd (ready .idle 4);
      let x : HyMsg := { ask 4 [] with mac := [] };
      let op : Nat := 4;
      let s : Session := opened;
      m.takesFrom x.net = true ∧ m.isBlocked x.src = false ∧ hyFormed x = true ∧ ffind m.hy.sessions x.sid = some s
      ∧ x.mac ≠ hyExpected x s.kReq op)
    ∧ (let m : Mach := fd (ready .idle 4);
      let x : HyMsg := ask 4 [] 3;
      let op : Nat := 4;
      let s : Session := opened;
      m.takesFrom x.net = true ∧ m.isBlocked x.src = false ∧ hyFormed x = true ∧ ffind m.hy.sessions x.sid = some s
      ∧ x.mac = hyExpected x s.kReq op ∧ x.seq ≠ s.lastSeq ∧ x.seq ≠ s.lastSeq + 1)
    ∧ (let m : Mach := fd ({ ready .idle 4 with hy.sessions := [(1, { level := 4, authed := true, src := 9, lastSeq := 1, lastMac := [], kept := some (.tap []) })] });
      let x : HyMsg := ask 4 [];
      let op : Nat := 4;
      let s : Session := { level := 4, authed := true, src := 9, lastSeq := 1, lastMac := [], kept := some (.tap []) };
      m.takesFrom x.net = true ∧ m.isBlocked x.src = false ∧ hyFormed x = true ∧ ffind m.hy.sessions x.sid = some s
      ∧ x.mac = hyExpected x s.kReq op ∧ x.seq = s.lastSeq ∧ x.mac ≠ s.lastMac)
    ∧ (let m : Mach := fd ({ ready .idle 4 with hy.sessions := [(1, { level := 4, authed := true, src := 9, lastSeq := 1, lastMac := (ask 4 []).mac, kept := some (.tap []) })] });
      let x : HyMsg := ask 4 [];
      let op : Nat := 4;
      let s : Session := { level := 4, authed := true, src := 9, lastSeq := 1, lastMac := (ask 4 []).mac, kept := some (.tap []) };
      let o := (.tap [] : Out);
      m.takesFrom x.net = true ∧ m.isBlocked x.src = false ∧ hyFormed x = true ∧ ffind m.hy.sessions x.sid = some s
      ∧ x.mac = hyExpected x s.kReq op ∧ x.seq = s.lastSeq ∧ x.mac = s.lastMac ∧ s.kept = some o) :=
  ⟨⟨⟨by decide +kernel, by decide +kernel, by decide +kernel, by decide +kernel, by decide +kernel, by decide +kernel⟩, by decide +kernel⟩,
    ⟨⟨by decide +kernel, by decide +kernel, by decide +kernel, by decide +kernel, by decide +kernel, by decide +kernel⟩, by decide +kernel⟩,
    by decide +kernel,
    by decide +kernel,
    by decide +kernel,
    by decide +kernel,
    by decide +kernel,
    by decide +kernel⟩

theorem test_SessionsOpenAndEnd_has_witnesses :
    (let x : HyMsg := helloMsg;
      let m : Mach := fd (ready .idle 4);
      m.takesFrom x.net = true ∧ m.isBlocked x.src = false ∧ hyFormed x = true ∧ x.sid = 0 ∧ x.seq = 0
      ∧ x.mac = List.replicate 32 0 ∧ x.body.length = 84 ∧ leAt x.body 1 3 = 0 ∧ 1 ≤ leAt x.body 0 1
      ∧ leAt x.body 0 1 ≤ 4 ∧ (ecPoint (slice x.body 20 64)).isSome = true ∧ m.hy.sessions.length < 16)
    ∧ ((let m : Mach := fd ({ ready .idle 4 with hy.sessions := [(1, { level := 4, src := 9, transcript := message.take 44 })], sys.keyHashes := List.replicate 11 [] ++ [sha256 key] }); let x : HyMsg := ask 2 (key ++ signature); let c : Session := { level := 4, src := 9, transcript := message.take 44 }; m.hears x 2 c ∧ c.authed = false ∧ (m.heard x).keyMatches c.level (slice x.body 0 64) = true ∧ x.body.length = 128 ∧ slice x.body 0 64 = key ∧ c.transcript ++ ascii "auth" = message ∧ slice x.body 64 64 = signature)
      ∧ ecdsaOk key (sha256 message) signature = true)
    ∧ (let x : HyMsg := ask 2 (key ++ List.replicate 64 0);
      let c : Session := { level := 4, src := 9, transcript := message.take 44 };
      let m : Mach := fd ({ ready .idle 4 with hy.sessions := [(1, { level := 4, src := 9, transcript := message.take 44 })], sys.keyHashes := List.replicate 11 [] ++ [sha256 key] });
      m.hears x 2 c ∧ c.authed = false ∧ (m.heard x).keyMatches c.level (slice x.body 0 64) = true
      ∧ x.body.length = 128
      ∧ ecdsaOk (slice x.body 0 64) (sha256 (c.transcript ++ ascii "auth")) (slice x.body 64 64) = false)
    ∧ (let x : HyMsg := ask 3 [];
      let c : Session := opened;
      let m : Mach := fd (ready .idle 4);
      m.hears x 3 c ∧ c.authed = true)
    ∧ (let x : HyMsg := ask 4 [];
      let c : Session := opened;
      let m : Mach := fd (ready .idle 4);
      m.hears x 4 c ∧ c.authed = true)
    ∧ (let sid : Nat := 1;
      let c : Session := { level := 4, src := 9 };
      let m : Mach := fd ({ { ready .idle 4 with hy.sessions := [(1, { level := 4, src := 9 })] } with now := 1000000000 });
      ffind m.hy.sessions sid = some c ∧ c.authed = false ∧ c.openedAt + 1000000000 ≤ m.now)
    ∧ (let sid : Nat := 1;
      let c : Session := opened;
      let m : Mach := fd (ready .idle 4);
      ffind m.hy.sessions sid = some c ∧ c.authed = true)
    ∧ (let sid : Nat := 1;
      let c : Session := opened;
      let m : Mach := fd ({ ready .idle 4 with now := 30000000000 });
      ffind m.hy.sessions sid = some c ∧ c.lastReq + m.nat 0x1201 1 0 * 1000000000 ≤ m.now)
    ∧ (let sid : Nat := 1;
      let c : Session := opened;
      let m : Mach := fd ({ ready .idle 4 with now := 29999999999 });
      ffind m.hy.sessions sid = some c ∧ m.now < c.lastReq + m.nat 0x1201 1 0 * 1000000000)
    ∧ (let src : Nat := 9;
      let m : Mach := fd ({ ready .idle 4 with hy.blocked := [(9, 1)], now := 1 });
      (ffind m.hy.blocked src).isSome = true ∧ m.isBlocked src = false)
    ∧ ((2 : Nat) ≠ 1)
    ∧ (({ sid := 2, src := 9, seq := 1, stop := false, small := false } : HyRun) ∈ ((fd { ready .idle 4 with hy.queue := [{ sid := 2, src := 9, seq := 1, stop := false, small := false }] }).closeSession 1 0).hy.queue)
    ∧ (((fd { ready .idle 4 with hy.run := some { sid := 2, src := 9, seq := 1, stop := false, small := false } }).closeSession 1 0).hy.run = some ({ sid := 2, src := 9, seq := 1, stop := false, small := false } : HyRun)) :=
  ⟨by decide +kernel,
    ⟨⟨⟨by decide +kernel, by decide +kernel, by decide +kernel, by decide +kernel, by decide +kernel, by decide +kernel⟩, by decide +kernel⟩, test_signature⟩,
    ⟨⟨by decide +kernel, by decide +kernel, by decide +kernel, by decide +kernel, by decide +kernel, by decide +kernel⟩, by decide +kernel⟩,
    ⟨⟨by decide +kernel, by decide +kernel, by decide +kernel, by decide +kernel, by decide +kernel, by decide +kernel⟩, by decide +kernel⟩,
    ⟨⟨by decide +kernel, by decide +kernel, by decide +kernel, by decide +kernel, by decide +kernel, by decide +kernel⟩, by decide +kernel⟩,
    by decide +kernel,
    by decide +kernel,
    by decide +kernel,
    by decide +kernel,
    by decide +kernel,
    by decide +kernel,
    by decide +kernel,
    by decide +kernel⟩

theorem test_EntriesRunInOrder_has_witnesses :
    (let x : HyMsg := ask 0x10 [0, 0x10, 0, 0, 0, 0, 0, 0, 0, 0, 0, 0];
      let c : Session := opened;
      let e : HyEntry := (⟨0x1000, 0, 0, 0, 0, []⟩ : HyEntry);
      let es : List HyEntry := ([] : List HyEntry);
      let m : Mach := fd (ready .idle 4);
      m.hears x 0x10 c ∧ m.hy.run = none ∧ m.hy.queue = [] ∧ c.authed = true ∧ parseEntries 64 x.body = some (e :: es)
      ∧ (m.heard x).hy.run = none ∧ (m.heard x).hy.queue = [])
    ∧ (let m : Mach := fd (ready .idle 4);
      let r : HyRun := { sid := 1, src := 9, seq := 1, stop := false, small := true };
      let e : HyEntry := ⟨0x1000, 0, 0, 0, 0, []⟩;
      sumOf (r.done.map (fun d => 16 + 4 * divUp d.data.length 4)) + m.entrySize (.host r.sid) e ≤ r.limit
      ∧ (m.runEntry [] r.sid e).2.2.isSome = true ∧ r.stop = false) :=
  ⟨⟨⟨by decide +kernel, by decide +kernel, by decide +kernel, by decide +kernel, by decide +kernel, by decide +kernel⟩, by decide +kernel⟩,
    by decide +kernel⟩

theorem test_TransfersAndSubscriptions_has_witnesses :
    (let x : HyMsg := ask 0x20 bulkBody;
      let c : Session := opened;
      let m : Mach := fd (ready .idle 4);
      let n : Mach := m.heard x;
      m.hears x 0x20 c ∧ c.authed = true ∧ levelHas c.level 10 = true ∧ n.pair.role = 0 ∧ n.stages = true
      ∧ openOk x.body = true ∧ (n.hy.transfers.filter (fun t => t.2.state = 0)).length < 8
      ∧ n.roomFor (openedContent x.body) = true ∧ (openedContent x.body).streamBytes ≠ 0)
    ∧ (let x : HyMsg := ask 0x21 (leBytes 4 7);
      let tid : Nat := leAt x.body 0 4;
      let c : Session := opened;
      let t : Transfer := { state := 1 };
      let m : Mach := fd ({ ready .idle 4 with hy.transfers := [(7, { state := 1 })] });
      let n : Mach := m.heard x;
      m.hears x 0x21 c ∧ c.authed = true ∧ ffind n.hy.transfers tid = some t ∧ t.state ≠ 0)
    ∧ (let x : HyMsg := ask 0x22 (leBytes 4 7);
      let tid : Nat := leAt x.body 0 4;
      let c : Session := opened;
      let t : Transfer := { state := 1 };
      let m : Mach := fd ({ ready .idle 4 with hy.transfers := [(7, { state := 1 })] });
      let n : Mach := m.heard x;
      m.hears x 0x22 c ∧ c.authed = true ∧ ffind n.hy.transfers tid = some t)
    ∧ (let d : Bytes := chunk;
      let n : Nat := leAt d 4 2;
      let off : Nat := leAt d 8 8;
      let t : Transfer := { total := 128 };
      let m : Mach := fd ({ ready .idle 4 with hy.transfers := [(7, { total := 128 })] });
      m.hyUp = true ∧ chunkOk d = true ∧ ffind m.hy.transfers (leAt d 0 4) = some t ∧ t.state = 0 ∧ off + n ≤ t.total
      ∧ (n % 64 = 0 ∨ off + n = t.total) ∧ bit m.mem.quarantine (12 + t.net) = false
      ∧ missing (addRange t.received (off, off + n)) 0 t.total ≠ [])
    ∧ (let d : Bytes := [];
      chunkOk d = false)
    ∧ (let tid : Nat := 7;
      let t : Transfer := {};
      let m : Mach := fd ({ ready .idle 4 with hy.transfers := [(7, {})], now := 5000000000 });
      ffind m.hy.transfers tid = some t ∧ t.state = 0 ∧ t.lastChunk + m.nat 0x1201 2 0 * 1000000 ≤ m.now)
    ∧ (let tid : Nat := 7;
      let t : Transfer := {};
      let m : Mach := fd ({ ready .idle 4 with hy.transfers := [(7, {})], now := 4999999999 });
      ffind m.hy.transfers tid = some t ∧ t.state = 0 ∧ m.now < t.lastChunk + m.nat 0x1201 2 0 * 1000000)
    ∧ (let x : HyMsg := ask 0x30 [0, 0, 0, 0];
      let c : Session := opened;
      let m : Mach := fd (ready .idle 4);
      m.hears x 0x30 c ∧ c.authed = true ∧ 4 ≤ x.body.length ∧ leAt x.body 0 1 = 0)
    ∧ (let x : HyMsg := ask 0x30 [1, 0, 0, 0];
      let c : Session := opened;
      let m : Mach := fd (ready .idle 4);
      m.hears x 0x30 c ∧ c.authed = true ∧ 4 ≤ x.body.length ∧ leAt x.body 0 1 = 1)
    ∧ (let x : HyMsg := ask 0x30 [2, 0, 0, 0];
      let c : Session := opened;
      let m : Mach := fd (ready .idle 4);
      m.hears x 0x30 c ∧ c.authed = true ∧ 4 ≤ x.body.length ∧ 1 < leAt x.body 0 1)
    ∧ (let x : HyMsg := ask 0x31 [0];
      let c : Session := opened;
      let m : Mach := fd (ready .idle 4);
      m.hears x 0x31 c ∧ c.authed = true ∧ x.body ≠ [] ∧ leAt x.body 0 1 = 0)
    ∧ (let x : HyMsg := ask 0x31 [1];
      let c : Session := opened;
      let m : Mach := fd (ready .idle 4);
      m.hears x 0x31 c ∧ c.authed = true ∧ x.body ≠ [] ∧ leAt x.body 0 1 = 1)
    ∧ (let sid : Nat := 1;
      let c : Session := { level := 4, authed := true, src := 9, waiting := [⟨0x0101, .unit 0, false, false, false, false, 0, 1, 1, 0, 0, 0, 0, 0⟩] };
      let m : Mach := fd ({ ready .idle 4 with hy.sessions := [(1, { level := 4, authed := true, src := 9, waiting := [⟨0x0101, .unit 0, false, false, false, false, 0, 1, 1, 0, 0, 0, 0, 0⟩] })] });
      ffind m.hy.sessions sid = some c ∧ m.hyUp = true ∧ c.waiting ≠ []) :=
  ⟨⟨⟨by decide +kernel, by decide +kernel, by decide +kernel, by decide +kernel, by decide +kernel, by decide +kernel⟩, by decide +kernel⟩,
    ⟨⟨by decide +kernel, by decide +kernel, by decide +kernel, by decide +kernel, by decide +kernel, by decide +kernel⟩, by decide +kernel⟩,
    ⟨⟨by decide +kernel, by decide +kernel, by decide +kernel, by decide +kernel, by decide +kernel, by decide +kernel⟩, by decide +kernel⟩,
    by decide +kernel,
    by decide +kernel,
    by decide +kernel,
    by decide +kernel,
    ⟨⟨by decide +kernel, by decide +kernel, by decide +kernel, by decide +kernel, by decide +kernel, by decide +kernel⟩, by decide +kernel⟩,
    ⟨⟨by decide +kernel, by decide +kernel, by decide +kernel, by decide +kernel, by decide +kernel, by decide +kernel⟩, by decide +kernel⟩,
    ⟨⟨by decide +kernel, by decide +kernel, by decide +kernel, by decide +kernel, by decide +kernel, by decide +kernel⟩, by decide +kernel⟩,
    ⟨⟨by decide +kernel, by decide +kernel, by decide +kernel, by decide +kernel, by decide +kernel, by decide +kernel⟩, by decide +kernel⟩,
    ⟨⟨by decide +kernel, by decide +kernel, by decide +kernel, by decide +kernel, by decide +kernel, by decide +kernel⟩, by decide +kernel⟩,
    by decide +kernel⟩

theorem test_TheDictionaryReadsAndWrites_has_witnesses :
    (let sid : Nat := 1;
      let idx : Nat := 0x2104;
      let sub : Nat := 0;
      let data : Bytes := ([9] : Bytes);
      let m : Mach := fd (ready .idle 4);
      let o : Obj := (findObj 0x2104).getD oNone;
      let vals : List (Nat × Fld × Bytes) := ((findObj idx).bind (fun o => o.values sub data)).getD [];
      let n : Mach := m.storeVals idx (m.instOf (.host sid) o.sel) vals;
      findObj idx = some o ∧ m.admitsBytes (.host sid) idx sub (writeLevels idx sub) data vals = true
      ∧ m.accessGate (.host sid) idx sub 15 = .ok ∧ m.writeOwn (.host sid) idx sub data = none
      ∧ [0x7010, 0xC011, 0xC049].contains idx = false
      ∧ vals.all (fun v => n.stored idx v.1 (m.instOf (.host sid) o.sel)) = true)
    ∧ (let sid : Nat := 1;
      let v : Nat := (0x100000 : Nat);
      let m : Mach := fd (ready .idle 4);
      m.admits (.host sid) 0x1100 0 v = true ∧ bit v 31 = false)
    ∧ (let sid : Nat := 1;
      let v : Nat := (2 ^ 31 : Nat);
      let m : Mach := fd (ready .idle 4);
      let q : Nat := 0x100000;
      m.admits (.host sid) 0x1100 0 v = true ∧ bit v 31 = true ∧ nextObject (bits v 0 24) = some q)
    ∧ (let sid : Nat := 1;
      let h : Nat := 3;
      let m : Mach := fd ({ ready .idle 4 with frc.objects := [(3, {})] });
      m.admits (.host sid) 0x1224 0 h = true ∧ (m.content h).isSome = true ∧ m.contentHeld h = false)
    ∧ (let sid : Nat := 1;
      let h : Nat := 3;
      let m : Mach := fd ({ ready .idle 4 with frc.objects := [(3, {})], comp.posts := [⟨0, 1, 0, 3, 0⟩] });
      m.admits (.host sid) 0x1224 0 h = true ∧ (m.content h).isSome = true ∧ m.contentHeld h = true)
    ∧ (let sid : Nat := 1;
      let length : Nat := 8192;
      let offset : Nat := (2 ^ 35 - 8192);
      let m : Mach := fd (ready .idle 4);
      let a : Nat := (m.locals (.host sid)).memBase + offset;
      m.answers (.host sid) = true ∧ m.readGate (.host sid) 0x1105 0 false = .ok ∧ m.sys.mode ≠ .boot ∧ 1 ≤ length
      ∧ length ≤ 8192 ∧ a + length ≤ 2 ^ 35)
    ∧ (let sid : Nat := 1;
      let length : Nat := 8193;
      let m : Mach := fd (ready .idle 4);
      m.answers (.host sid) = true ∧ m.readGate (.host sid) 0x1105 0 false = .ok ∧ m.sys.mode ≠ .boot ∧ 1 ≤ length
      ∧ 8192 < length)
    ∧ ((fd ({ ready .idle 4 with cpu.engines := [(13, { state := 1 })], cpu.user.mailOut := [(1, [7])] })).answers (.host 1) = true
      ∧ (match (fd ({ ready .idle 4 with cpu.engines := [(13, { state := 1 })], cpu.user.mailOut := [(1, [7])] })).look (.host 1) 0x9025 0 true with | .ok _ => true | .error _ => false) = true)
    ∧ ((fd (ready .idle 4)).answers (.host 1) = true
      ∧ (match (fd (ready .idle 4)).look (.host 1) 0x9025 0 true with | .ok _ => true | .error _ => false) = false) :=
  ⟨by decide +kernel,
    by decide +kernel,
    by decide +kernel,
    by decide +kernel,
    by decide +kernel,
    by decide +kernel,
    by decide +kernel,
    by decide +kernel,
    by decide +kernel⟩

theorem test_RecordsItemsAndCalibrations_has_witnesses :
    (let k : Nat := 0;
      let o : OpenRec := (⟨⟨0x0101, .unit 0, false, false, false, false, 0, 1, 1, 0, 0, 0, 0, 0⟩, 0, 0⟩ : OpenRec);
      let m : Mach := fd ({ ready .idle 4 with recorder.openRecs := [⟨⟨0x0101, .unit 0, false, false, false, false, 0, 1, 1, 0, 0, 0, 0, 0⟩, 0, 0⟩], now := 1000000000000 });
      m.recorder.openRecs[k]? = some o ∧ o.lastAt + m.nat 0xB001 0 0 * 1000000 < m.now)
    ∧ (let k : Nat := 0;
      let o : OpenRec := (⟨⟨0x0101, .unit 0, false, false, false, false, 0, 1, 1, 0, 0, 0, 0, 0⟩, 0, 0⟩ : OpenRec);
      let m : Mach := fd ({ ready .idle 4 with recorder.openRecs := [⟨⟨0x0101, .unit 0, false, false, false, false, 0, 1, 1, 0, 0, 0, 0, 0⟩, 0, 0⟩] });
      m.recorder.openRecs[k]? = some o ∧ m.now ≤ o.lastAt + m.nat 0xB001 0 0 * 1000000)
    ∧ (let sid : Nat := 1;
      let m : Mach := fd ({ ready .idle 4 with recorder.layout := 1 });
      m.admits (.host sid) 0xB020 0 1 = true ∧ m.recorder.layout = 1)
    ∧ (let sid : Nat := 1;
      let m : Mach := fd (ready .idle 4);
      m.admits (.host sid) 0xB020 0 1 = true ∧ m.recorder.layout ≠ 1)
    ∧ (let sid : Nat := 1;
      let m : Mach := fd (ready .idle 4);
      m.admits (.host sid) 0xE001 0 1 = true ∧ m.store.saver = none)
    ∧ (let sid : Nat := 1;
      let m : Mach := fd ({ ready .idle 4 with store.saver := some (.host 1) });
      m.admits (.host sid) 0xE001 0 1 = true ∧ m.store.saver.isSome = true)
    ∧ (let x : StoreItem := ({ kind := 1, key := 0 } : StoreItem);
      let retry : Bool := true;
      let rest : List (StoreItem × Bool) := [];
      let m : Mach := fd ({ ready .idle 4 with store.writes := [({ kind := 1, key := 0 }, true)] });
      m.store.writes = (x, retry) :: rest)
    ∧ (let x : StoreItem := ({ kind := 1, key := 0 } : StoreItem);
      let retry : Bool := false;
      let rest : List (StoreItem × Bool) := [];
      let m : Mach := fd ({ ready .idle 4 with store.writes := [({ kind := 1, key := 0 }, false)] });
      m.store.writes = (x, retry) :: rest ∧ retry = false)
    ∧ (let sid : Nat := 1;
      let v : Nat := (2 ^ 63 : Nat);
      let m : Mach := fd (ready .idle 4);
      m.admits (.host sid) 0xE020 0 v = true)
    ∧ (let sid : Nat := 1;
      let m : Mach := fd (ready .idle 4);
      m.admits (.host sid) 0xE012 0 1 = true)
    ∧ (let c : Nat := 3;
      let m : Mach := fd ((ready .idle 4).setNum 0xE011 4 0 1);
      c < 4 ∧ bit (m.calCfg c) 0 = true ∧ bits (m.calCfg c) 16 16 ≠ 0xFFFF ∧ bit (m.calCfg c) 1 = false)
    ∧ (let m : Mach := fd ({ (ready .idle 4).setNum 0xE011 4 0 1 with cams := [(3, { calState := 2, phase := 2 })] });
      m.calMayStart = true)
    ∧ (let m : Mach := fd ({ ready .idle 4 with cal.phase := 1, now := 1000000000 });
      m.cal.since + m.armSettle ≤ m.now ∧ m.cal.phase = 1)
    ∧ (let m : Mach := fd ({ ready .idle 4 with cal.phase := 4, now := 1000000000 });
      m.cal.since + m.armSettle ≤ m.now ∧ m.cal.phase = 4)
    ∧ (let c : Nat := 3;
      let m : Mach := fd ({ ready .idle 4 with cal := { phase := 2, cams := 8, black := [(3, [])] } });
      c < 4 ∧ m.cal.phase = 2 ∧ m.calTakes c = true ∧ (ffind m.cal.black c).isSome = true ∧ ffind m.cal.cause c = none
      ∧ (m.cam c).lastTrig = none ∧ (m.cam c).cur = none ∧ (m.cam c).shots = [] ∧ (fget m.cal.lit c []).length < 3) :=
  ⟨by decide +kernel,
    by decide +kernel,
    by decide +kernel,
    by decide +kernel,
    by decide +kernel,
    by decide +kernel,
    by decide +kernel,
    by decide +kernel,
    by decide +kernel,
    by decide +kernel,
    by decide +kernel,
    by decide +kernel,
    by decide +kernel,
    by decide +kernel,
    by decide +kernel⟩

theorem test_ModeRequestsAreTaken_has_witnesses :
    (let sid : Nat := 1;
      let m : Mach := fd (ready .idle 4);
      m.takes sid .prime = true)
    ∧ (let sid : Nat := 1;
      let m : Mach := fd (ready .idle 4);
      m.takes sid .service = true)
    ∧ (let sid : Nat := 1;
      let m : Mach := fd (ready .idle 4);
      m.takes sid .calibrate = true)
    ∧ (let sid : Nat := 1;
      let m : Mach := fd (ready .idle 3);
      m.takes sid .verify = true)
    ∧ (let sid : Nat := 1;
      let m : Mach := fd (ready .print 4);
      m.takes sid .hold = true)
    ∧ (let sid : Nat := 1;
      let m : Mach := fd (ready .hold 4);
      m.takes sid .print = true)
    ∧ (let sid : Nat := 1;
      let m : Mach := fd (ready .prime 4);
      m.takes sid .idle = true ∧ m.sys.mode ≠ .safe ∧ (m.sendVerdict (.mode .idle m.webLine)).printing = false)
    ∧ (let sid : Nat := 1;
      let m : Mach := fd (ready .print 4);
      let n := m.sendVerdict (.mode .idle m.webLine);
      m.takes sid .idle = true ∧ m.sys.mode ≠ .safe ∧ n.printing = true)
    ∧ ((fd armable).takes 1 .armed = true ∧ (fd armable).armRefused = false ∧ (fd armable).enc.fault = false)
    ∧ (let sid : Nat := 1;
      let m : Mach := fd (ready .idle 4);
      m.takes sid .armed = true ∧ m.armRefused = true)
    ∧ (let sid : Nat := 1;
      let m : Mach := fd (ready .print 4);
      m.takes sid .safe = true)
    ∧ (let sid : Nat := 1;
      let m : Mach := fd (ready .safe 4);
      m.takes sid .idle = true ∧ m.sys.mode = .safe)
    ∧ (let sid : Nat := 1;
      let m : Mach := fd (ready .idle 4);
      m.takes sid .reset = true)
    ∧ (let m : Mach := fd (ready .idle 4);
      let t : Mode := Mode.safe;
      m.sys.mode ≠ t)
    ∧ (let sid : Nat := 1;
      let m : Mach := fd (ready .idle 4);
      m.answers (.host sid) = true ∧ m.pairRefuses (.host sid) 0x1011 = false
      ∧ levelHas (m.level (.host sid)) (modeLevels m.sys.mode .print) = true
      ∧ (m.sys.mode = .idle ∨ m.sys.mode = .armed ∨ m.sys.mode = .prime ∨ m.sys.mode = .safe))
    ∧ (let sid : Nat := 1;
      let m : Mach := fd (ready .service 4);
      m.admits (.host sid) 0x2025 0 1 = true ∧ (m.sys.mode = .prime ∨ m.sys.mode = .service)
      ∧ (setBits (m.nat 0x2024 1 0) 64).any (fun p => decide (m.nat 0x2024 4 0 * 1000 < m.tMin p 0)) = false)
    ∧ (let m : Mach := fd ({ ready .prime 4 with sys.stationary.active := true });
      let st : Stationary := m.sys.stationary;
      st.active = true ∧ m.sys.mode = .prime ∧ m.pair.role = 0 ∧ st.dueAt ≤ m.now ∧ st.left = none)
    ∧ (let m : Mach := fd (ready .idle 4);
      m.sys.stationary.active = false) :=
  ⟨by decide +kernel,
    by decide +kernel,
    by decide +kernel,
    by decide +kernel,
    by decide +kernel,
    by decide +kernel,
    by decide +kernel,
    by decide +kernel,
    by decide +kernel,
    by decide +kernel,
    by decide +kernel,
    by decide +kernel,
    by decide +kernel,
    by decide +kernel,
    by decide +kernel,
    by decide +kernel,
    by decide +kernel,
    by decide +kernel⟩

theorem test_TheModuleStartsInOrder_has_witnesses :
    (let m : Mach := fd (State.reset.m);
      m.sys.mode = .reset ∧ m.power.alwaysOn = true ∧ m.power.held = false ∧ m.power.tripped = none
      ∧ m.power.failAt = none)
    ∧ (let m : Mach := fd ({ State.reset.m with sys := { mode := .boot, step := 2 } });
      m.sys.mode = .boot ∧ m.sys.step = 2)
    ∧ (let m : Mach := fd ({ State.reset.m with sys := { mode := .boot, step := 4 } });
      m.sys.mode = .boot ∧ m.sys.step ≠ 2)
    ∧ (let m : Mach := fd ({ State.reset.m with sys := { mode := .boot, step := 4 } });
      m.sys.mode = .boot ∧ m.sys.step = 4)
    ∧ (let m : Mach := fd ({ State.reset.m with sys := { mode := .boot, step := 5 } });
      m.sys.mode = .boot ∧ m.sys.step ≠ 4)
    ∧ (let m : Mach := fd ({ State.reset.m with sys := { mode := .boot, step := 5 } });
      m.sys.mode = .boot ∧ m.sys.step = 5)
    ∧ (let m : Mach := fd ({ State.reset.m with sys := { mode := .boot, step := 4 } });
      m.sys.mode = .boot ∧ m.sys.step ≠ 5)
    ∧ (let m : Mach := fd ({ State.reset.m with sys := { mode := .assemble, step := 10, group := 7 } });
      m.sys.mode = .assemble ∧ m.sys.group < 8 ∧ m.sys.groupDue ≤ m.now ∧ 10 ≤ m.sys.step)
    ∧ (let m : Mach := fd (ready .idle 4);
      m.sys.mode ≠ .reset ∧ m.power.failAt = none)
    ∧ (let m : Mach := fd (State.reset.m);
      m.sys.mode = .reset) :=
  ⟨by decide +kernel,
    by decide +kernel,
    by decide +kernel,
    by decide +kernel,
    by decide +kernel,
    by decide +kernel,
    by decide +kernel,
    by decide +kernel,
    by decide +kernel,
    by decide +kernel⟩

theorem test_FirmwareAndOtpAreWritten_has_witnesses :
    (((fd keyed).admitsBytes (.host 1) 0x2030 0 (writeLevels 0x2030 0) fwImageBytes (((findObj 0x2030).bind (fun o => o.values 0 fwImageBytes)).getD []) = true ∧ (fd keyed).imageSlot = 1)
      ∧ (Mach.sys { fd keyed with sys := { (fd keyed).sys with slots := (List.range 3).map (fun k => if k = 1 then fwImageBytes else (fd keyed).sys.slotBytes k), factory := (List.range 3).map (fun k => k != 1 && (fd keyed).sys.isFactory k) } }).slotCheck 1 = none)
    ∧ (let sid : Nat := 1;
      let i : Nat := 1;
      let data : Bytes := (List.replicate 257 0 : Bytes);
      let m : Mach := fd (ready .idle 4);
      let n : Mach := { m with sys := { m.sys with slots := (List.range 3).map (fun k => if k = i then data else m.sys.slotBytes k), factory := (List.range 3).map (fun k => k != i && m.sys.isFactory k) } };
      let vals : List (Nat × Fld × Bytes) := ((findObj 0x2030).bind (fun o => o.values 0 data)).getD [];
      let c : Nat := 1;
      m.admitsBytes (.host sid) 0x2030 0 (writeLevels 0x2030 0) data vals = true ∧ m.imageSlot = i
      ∧ n.sys.slotCheck i = some c)
    ∧ (let sid : Nat := 1;
      let v : Nat := (1 : Nat);
      let m : Mach := fd ({ ready .idle 4 with sys.otpConfig := [otpBlockOf 1], sys.inEffect := some 0 });
      m.admits (.host sid) 0x2032 0 v = true ∧ m.sys.slotCheck v = none ∧ bit m.sys.otpFlags 0 = true)
    ∧ (let sid : Nat := 1;
      let v : Nat := (1 : Nat);
      let m : Mach := fd (ready .idle 4);
      m.admits (.host sid) 0x2032 0 v = true ∧ m.sys.slotCheck v = none ∧ bit m.sys.otpFlags 0 = false)
    ∧ (let sid : Nat := 1;
      let v : Nat := (1 : Nat);
      let m : Mach := fd ({ ready .idle 4 with sys.factory := [] });
      m.admits (.host sid) 0x2032 0 v = true ∧ (m.sys.slotCheck v).isSome = true)
    ∧ (let sid : Nat := 1;
      let m : Mach := fd ({ ready .idle 4 with sys.trial := true });
      m.admits (.host sid) 0x2033 0 1 = true ∧ m.sys.mode = .idle ∧ m.sys.trial = true
      ∧ m.sys.running = m.sys.bootNext)
    ∧ (let sid : Nat := 1;
      let m : Mach := fd (ready .idle 4);
      m.admits (.host sid) 0x2033 0 1 = true ∧ m.sys.trial = false)
    ∧ (let sid : Nat := 1;
      let g : Nat := 0;
      let block : Bytes := (otpBlockOf 1);
      let m : Mach := fd (ready .idle 4);
      let vals : List (Nat × Fld × Bytes) := ((findObj 0xF003).bind (fun o => o.values 0 block)).getD [];
      m.admitsBytes (.host sid) 0xF003 0 (writeLevels 0xF003 0) block vals = true ∧ otpValid block = true
      ∧ firstWhere (fun g => otpEmpty (m.sys.otpGen g)) (List.range 4) = some g)
    ∧ (let sid : Nat := 1;
      let slot : Nat := (15 : Nat);
      let m : Mach := fd (ready .idle 4);
      m.admits (.host sid) 0xF005 0 slot = true ∧ m.sys.slotKey m.sys.running ≠ some slot
      ∧ [0, 1, 2, 3].any (fun k => m.sys.hashSet k && !bit (setBit m.sys.otpRevoked slot true) k) = true)
    ∧ (let sid : Nat := 1;
      let slot : Nat := (0 : Nat);
      let m : Mach := fd (ready .idle 4);
      m.admits (.host sid) 0xF005 0 slot = true ∧ m.sys.slotKey m.sys.running = some slot) :=
  ⟨⟨by decide +kernel, by decide +kernel⟩,
    by decide +kernel,
    by decide +kernel,
    by decide +kernel,
    by decide +kernel,
    by decide +kernel,
    by decide +kernel,
    by decide +kernel,
    by decide +kernel,
    by decide +kernel⟩

theorem test_PowerFailsAndSuppliesAreJudged_has_witnesses :
    (let m : Mach := fd (ready .idle 4);
      m.power.alwaysOn = true ∧ m.power.held = false ∧ m.power.failAt = none)
    ∧ (let m : Mach := fd ({ ready .idle 4 with power := { alwaysOn := true, failAt := some 1 } });
      m.power.alwaysOn = true ∧ m.power.held = false ∧ m.power.failAt.isSome = true)
    ∧ (let t : Nat := 0;
      let m : Mach := fd ({ { ready .idle 4 with power := { alwaysOn := true, failAt := some 0 } } with now := 2000000 });
      m.power.failAt = some t ∧ t + 2000000 ≤ m.now)
    ∧ (let t : Nat := 0;
      let m : Mach := fd ({ { ready .idle 4 with power := { alwaysOn := true, failAt := some 0 } } with now := 1999999 });
      m.power.failAt = some t ∧ m.now < t + 2000000)
    ∧ (let m : Mach := fd ({ State.reset.m with power := { alwaysOn := true, held := true } });
      m.power.held = true ∧ m.power.failAt = none ∧ m.sys.mode = .reset ∧ m.power.tripped = none)
    ∧ (let m : Mach := fd ({ State.reset.m with power := {} });
      m.power.alwaysOn = false)
    ∧ (let m : Mach := fd (State.reset.m);
      m.power.alwaysOn = true)
    ∧ (let m : Mach := fd (State.reset.m);
      m.power.alwaysOn = true ∧ m.sys.mode = .reset)
    ∧ (let dt : Nat := 0;
      let s : State := st ({ State.reset.m with power := {} });
      (s.found dt).power.alwaysOn = false)
    ∧ (let who : Nat := 0;
      let t0 : Nat := 0;
      let t : Int := (1100 : Int);
      let m : Mach := fd ({ { State.reset.m with power := { alwaysOn := true, tripped := some (0, 1100), belowSince := some 0 } } with now := 1000000000 });
      m.sys.mode = .reset ∧ m.power.failAt = none ∧ m.power.held = false ∧ m.power.tripped = some (who, t)
      ∧ m.power.belowSince = some t0 ∧ t0 + 1000000000 ≤ m.now)
    ∧ (let who : Nat := 0;
      let t0 : Nat := 0;
      let t : Int := (1100 : Int);
      let m : Mach := fd ({ { State.reset.m with power := { alwaysOn := true, tripped := some (0, 1100), belowSince := some 0 } } with now := 999999999 });
      m.sys.mode = .reset ∧ m.power.failAt = none ∧ m.power.held = false ∧ m.power.tripped = some (who, t)
      ∧ m.power.belowSince = some t0 ∧ m.now < t0 + 1000000000)
    ∧ (let vin : Nat := 7801;
      let m : Mach := fd (ready .idle 4);
      m.power.alwaysOn = true ∧ m.sys.mode ≠ .reset ∧ 7800 < vin ∧ bit m.power.conditions 2 = false)
    ∧ (let vin : Nat := 7800;
      let m : Mach := fd (ready .idle 4);
      m.power.alwaysOn = true ∧ m.sys.mode ≠ .reset ∧ vin ≤ 7800)
    ∧ (let m : Mach := fd (ready .idle 4);
      m.power.alwaysOn = true ∧ m.sys.mode ≠ .reset ∧ m.power.failAt = none)
    ∧ (let rails : Nat := 0x1FF;
      let m : Mach := fd (ready .idle 4);
      m.power.alwaysOn = true ∧ m.power.failAt = none ∧ m.sys.mode ≠ .reset ∧ bits rails 0 9 = 0x1FF)
    ∧ (let rails : Nat := 0x1FE;
      let m : Mach := fd ({ ready .idle 4 with power := { alwaysOn := true, conditions := 8 } });
      m.power.alwaysOn = true ∧ m.power.failAt = none ∧ m.sys.mode ≠ .reset ∧ bits rails 0 9 ≠ 0x1FF
      ∧ bit m.power.conditions 3 = true)
    ∧ (let rails : Nat := 0x1FE;
      let m : Mach := fd (ready .idle 4);
      m.power.alwaysOn = true ∧ m.power.failAt = none ∧ m.sys.mode ≠ .reset ∧ bits rails 0 9 ≠ 0x1FF
      ∧ bit m.power.conditions 3 = false) :=
  ⟨by decide +kernel,
    by decide +kernel,
    by decide +kernel,
    by decide +kernel,
    by decide +kernel,
    by decide +kernel,
    by decide +kernel,
    by decide +kernel,
    by decide +kernel,
    by decide +kernel,
    by decide +kernel,
    by decide +kernel,
    by decide +kernel,
    by decide +kernel,
    by decide +kernel,
    by decide +kernel,
    by decide +kernel⟩

end Sys2Proof.Tests
end

/-! The index pulse: when an index is evaluated, and what one leaves that is not (R44, R51). -/

namespace Sys2Proof.Machine

/-- The modes in which the encoder does not count are RESET and BOOT (R44). -/
theorem Mach.counts_eq_false_iff (m : Mach) : m.counts = false ↔ m.sys.mode = .reset ∨ m.sys.mode = .boot := by
  simp [Mach.counts, or_iff_not_imp_left]

/-- While the last count was down, an index leaves the module alone (R51). -/
theorem Mach.indexPulse_of_dirDown {m : Mach} (h : m.enc.dirDown = true) : m.indexPulse = m := by
  simp [Mach.indexPulse, h]

/-- In RESET and BOOT an index leaves the module alone (R44). -/
theorem Mach.indexPulse_of_not_counts {m : Mach} (h : m.counts = false) : m.indexPulse = m := by
  rcases m.counts_eq_false_iff.mp h with hm | hm <;> simp [Mach.indexPulse, hm]

/-- INDEX_PULSE acts on the module as the command finds it, and on nothing else. -/
theorem exec_indexPulse_becomes (dt : Nat) (s : State) :
    exec (.indexPulse dt) s = s.becomes (s.found dt).indexPulse := by
  rw [exec_indexPulse, execIndexPulse, State.act_eq]

/-- Settles O11: in either case the evaluation of the index is skipped, so the module stays as the command found it. -/
theorem indexIsIgnoredWhileCountingDown : Obligations.IndexIsIgnoredWhileCountingDown := by
  unfold Obligations.IndexIsIgnoredWhileCountingDown
  constructor
  · intro dt s hdown
    rw [exec_indexPulse_becomes, Mach.indexPulse_of_dirDown hdown]
  · intro dt s hstill
    rw [exec_indexPulse_becomes, Mach.indexPulse_of_not_counts hstill]

end Sys2Proof.Machine

/-! Contone across the web and along it: the two values a blend mixes, the near one chosen by the parity of the nozzle or of
the line (R157, R163). -/

namespace Sys2Proof.Machine

/-- t(i, j) of R157 for the composites of row j: pixel i of the row, toned. -/
def tonedPixel (t : Tables) (row : Nat → Nat) (i : Nat) : Nat := toned t.curve t.zones i (row i)

/-- b(n, j) of R163 for the composites c(i, j) of a frame: row j as nozzle n has it after its gain. -/
def gainedRow (t : Tables) (comp : Nat → Nat → Nat) (n j : Nat) : Nat := gained t (fun i => comp i j) n

/-- The even nozzle of pixel i leans to pixel i - 1, which the first pixel does not have (R157). -/
theorem across_two_mul (t : Tables) (row : Nat → Nat) (i : Nat) :
    across t row (2 * i)
      = (3 * tonedPixel t row i + (if i = 0 then tonedPixel t row i else tonedPixel t row (i - 1)) + 2) / 4 := by
  have hpixel : 2 * i / 2 = i := by omega
  simp [across, tonedPixel, hpixel]

/-- The odd nozzle of pixel i leans to pixel i + 1, which lies inside when its first nozzle does (R157). -/
theorem across_two_mul_add_one (t : Tables) (row : Nat → Nat) (i : Nat) :
    across t row (2 * i + 1)
      = (3 * tonedPixel t row i
          + (if 2 * (i + 1) < t.width then tonedPixel t row (i + 1) else tonedPixel t row i) + 2) / 4 := by
  have hpixel : (2 * i + 1) / 2 = i := by omega
  simp [across, tonedPixel, hpixel]

/-- The even line of contone row j leans to row j - 1, which the first row of a frame does not have (R163). -/
theorem along_two_mul (t : Tables) (comp : Nat → Nat → Nat) (frameLines n j : Nat) :
    along t comp frameLines n (2 * j)
      = (3 * gainedRow t comp n j + gainedRow t comp n (if j = 0 then j else j - 1) + 2) / 4 := by
  have hrow : 2 * j / 2 = j := by omega
  simp [along, gainedRow, hrow]

/-- The odd line of contone row j leans to row j + 1, which the last row of a frame does not have (R163). -/
theorem along_two_mul_add_one (t : Tables) (comp : Nat → Nat → Nat) (frameLines n j : Nat) :
    along t comp frameLines n (2 * j + 1)
      = (3 * gainedRow t comp n j
          + gainedRow t comp n (if j = (frameLines - 1) / 2 then j else j + 1) + 2) / 4 := by
  have hrow : (2 * j + 1) / 2 = j := by omega
  simp [along, gainedRow, hrow]

/-- Settles O19: the parity of the nozzle, and of the line, says on which side the neighbour lies; each parity has one clause
for a neighbour inside and one for the edge. -/
theorem contoneIsInterpolated : Obligations.ContoneIsInterpolated := by
  unfold Obligations.ContoneIsInterpolated
  constructor
  · intro t row v i hv
    obtain rfl : v = tonedPixel t row := funext hv
    refine ⟨fun hpos => ?_, across_two_mul t row 0, fun hinside => ?_, fun hedge => ?_⟩
    · rw [across_two_mul, if_neg hpos.ne']
    · rw [across_two_mul_add_one, if_pos hinside]
    · rw [across_two_mul_add_one, if_neg hedge.not_gt]
  · intro t comp frameLines n j b hb
    obtain rfl : b = gainedRow t comp n := funext hb
    refine ⟨fun hpos => ?_, along_two_mul t comp frameLines n 0, fun hinner => ?_, ?_⟩
    · rw [along_two_mul, if_neg hpos.ne']
    · rw [along_two_mul_add_one, if_neg hinner]
    · rw [along_two_mul_add_one, if_pos rfl]

end Sys2Proof.Machine

/-! The length of a coded plane: the bytes of a block, the columns, stripes and rows of a rectangle, and of one at the origin
(R346). -/

namespace Sys2Proof.Machine

@[simp] theorem blockBytes_raw : blockBytes 0 = 16 := rfl

@[simp] theorem blockBytes_frc2 : blockBytes 1 = 8 := rfl

@[simp] theorem blockBytes_frc4 : blockBytes 2 = 4 := rfl

/-- A row of a plane holds its blocks and 4 bytes for each stripe, padded to a multiple of 64 bytes (R344). -/
theorem Content.rowLen_eq (c : Content) :
    c.rowLen = (c.nb * blockBytes c.coding + 4 * c.ns + 63) / 64 * 64 :=
  Nat.mul_comm 64 _

/-- A plane holds nr padded rows (R346). -/
theorem Content.planeLen_eq (c : Content) :
    c.planeLen = c.nr * ((c.nb * blockBytes c.coding + 4 * c.ns + 63) / 64) * 64 := by
  rw [Content.planeLen, Content.rowLen_eq, Nat.mul_assoc]

section SameColumns

variable {c d : Content} (hx : c.x = d.x) (hw : c.w = d.w)

include hx hw

/-- The block columns are those of the rectangle's own columns. -/
theorem Content.nb_congr : c.nb = d.nb := by
  simp [Content.nb, hx, hw]

/-- The stripes of a row are those of the rectangle's own columns. -/
theorem Content.ns_congr : c.ns = d.ns := by
  simp [Content.ns, hx, hw]

end SameColumns

/-- The stripe rows are those of the rectangle's own lines. -/
theorem Content.nr_congr {c d : Content} (hy : c.y = d.y) (hh : c.h = d.h) : c.nr = d.nr := by
  simp [Content.nr, hy, hh]

/-- Two contents of one rectangle and one coding have planes of one length (R346). -/
theorem Content.planeLen_congr {c d : Content} (hx : c.x = d.x) (hy : c.y = d.y) (hw : c.w = d.w) (hh : c.h = d.h)
    (hcoding : c.coding = d.coding) : c.planeLen = d.planeLen := by
  rw [c.planeLen_eq, d.planeLen_eq, Content.nr_congr hy hh, Content.nb_congr hx hw, Content.ns_congr hx hw, hcoding]

section AtTheOrigin

variable {c : Content}

/-- A rectangle from nozzle 0 has a block column for every 8 nozzles, the last one perhaps in part. -/
theorem Content.nb_of_x_eq_zero (hx : c.x = 0) : c.nb = divUp c.w 8 := by
  simp only [Content.nb, hx, divUp]
  split <;> omega

/-- A rectangle from nozzle 0 has a stripe for every 512 nozzles, the last one perhaps in part. -/
theorem Content.ns_of_x_eq_zero (hx : c.x = 0) : c.ns = divUp c.w 512 := by
  simp only [Content.ns, hx, divUp]
  split <;> omega

/-- A rectangle from line 0 has a stripe row for every 8 lines, the last one perhaps in part. -/
theorem Content.nr_of_y_eq_zero (hy : c.y = 0) : c.nr = divUp c.h 8 := by
  simp only [Content.nr, hy, divUp]
  split <;> omega

/-- In a row from nozzle 0 each stripe before s holds 64 blocks, as far as the row has them. -/
theorem Content.blocksBefore_of_x_eq_zero (hx : c.x = 0) (s : Nat) : c.blocksBefore s = min c.nb (64 * s) := by
  simp only [Content.blocksBefore, Content.tx0, Content.bx0, hx]
  split <;> omega

end AtTheOrigin

/-- A raw contone input of one plane holds a byte for each 2 by 2 square of the rectangle (R347). -/
theorem Content.inputLen_of_raw_contone {c : Content} (hkind : c.kind = 0) (hinput : c.input = 0)
    (hbars : c.bars.length = 1) : c.inputLen = c.w / 2 * (c.h / 2) := by
  simp [Content.inputLen, hkind, hinput, hbars]

/-- Settles O20: the length is the product of R346, whose factors read only the rectangle and the coding; at the origin each
factor is a quotient rounded up, which gives the plane of the reference press. -/
theorem aPlaneHasItsLength : Obligations.APlaneHasItsLength := by
  unfold Obligations.APlaneHasItsLength
  refine ⟨Content.planeLen_eq, fun _ _ => Content.planeLen_congr, fun c hraw => ?_, fun c hfrc2 => ?_, fun c hfrc4 => ?_, ?_⟩
  · rw [hraw, blockBytes_raw]
  · rw [hfrc2, blockBytes_frc2]
  · rw [hfrc4, blockBytes_frc4]
  · intro c hx hy hw hh hcoding
    have hnb : c.nb = 10040 := by rw [Content.nb_of_x_eq_zero hx, hw]; rfl
    have hns : c.ns = 157 := by rw [Content.ns_of_x_eq_zero hx, hw]; rfl
    have hnr : c.nr = 3000 := by rw [Content.nr_of_y_eq_zero hy, hh]; rfl
    have hlast : c.blocksIn 156 = 56 := by
      simp [Content.blocksIn, Content.blocksBefore_of_x_eq_zero hx, hnb]
    have hdata : c.rowData = 80948 := by
      rw [Content.rowData, hnb, hns, hcoding, blockBytes_frc2]
    have hrow : c.rowLen = 80960 := by rw [Content.rowLen, hdata]; rfl
    have hplane : c.planeLen = 242880000 := by rw [Content.planeLen, hnr, hrow]
    refine ⟨hnb, hns, hlast, hnr, hdata, hrow, hplane, fun hkind hinput hmask => ?_⟩
    have hbars : c.bars.length = 1 := by rw [Content.bars, hmask]; decide
    rw [Content.inputLen_of_raw_contone hkind hinput hbars, hw, hh]

end Sys2Proof.Machine

/-! A semaphore that leaves HELD: the waiter that has waited longest, and the word that its new owner reads (R411, R412,
R415). -/

namespace Sys2Proof.Machine

/-- The order in which waiters are served (R415): the time at which a wait began, then the owner ID. -/
def waitOrder (w : Nat × Nat) : Nat ×ₗ Nat := toLex (w.2, w.1)

theorem waitOrder_lt_iff (w x : Nat × Nat) : waitOrder w < waitOrder x ↔ w.2 < x.2 ∨ (w.2 = x.2 ∧ w.1 < x.1) :=
  Prod.Lex.toLex_lt_toLex

theorem waitOrder_le_iff (w x : Nat × Nat) : waitOrder w ≤ waitOrder x ↔ w.2 < x.2 ∨ (w.2 = x.2 ∧ w.1 ≤ x.1) :=
  Prod.Lex.toLex_le_toLex

/-- The model's fold is the library's least element of a list under the order of service. -/
theorem longestWaiter_eq_argmin (l : List (Nat × Nat)) : longestWaiter l = l.argmin waitOrder := by
  unfold longestWaiter List.argmin
  congr 1
  funext best w
  cases best <;> simp [List.argAux, waitOrder_lt_iff]

theorem longestWaiter_mem {l : List (Nat × Nat)} {w : Nat × Nat} (h : longestWaiter l = some w) : w ∈ l :=
  List.argmin_mem (longestWaiter_eq_argmin l ▸ h)

/-- The longest waiter comes first in the order of service. -/
theorem longestWaiter_le {l : List (Nat × Nat)} {w x : Nat × Nat} (h : longestWaiter l = some w) (hx : x ∈ l) :
    waitOrder w ≤ waitOrder x :=
  List.le_of_mem_argmin hx (longestWaiter_eq_argmin l ▸ h)

theorem longestWaiter_isSome {l : List (Nat × Nat)} (h : l ≠ []) : ∃ w, longestWaiter l = some w := by
  rw [← Option.ne_none_iff_exists', longestWaiter_eq_argmin]
  exact fun hnone => h (List.argmin_eq_none.mp hnone)

/-! ### A read's word, and a grant -/

@[simp] theorem Mach.sem_semAnswer (m : Mach) (id word q : Nat) : (m.semAnswer id word).sem q = m.sem q := by
  unfold Mach.semAnswer
  split <;> simp

@[simp] theorem Mach.semAnswer_now (m : Mach) (id word : Nat) : (m.semAnswer id word).now = m.now := by
  unfold Mach.semAnswer
  split <;> rfl

/-- The word is what an engine's read of TRY or WAIT returns (R411). -/
theorem Mach.grantWord_semAnswer (m : Mach) {id : Nat} (h : id ≠ 15) (word : Nat) :
    ((m.semAnswer id word).engine id).grantWord = word := by
  simp [Mach.semAnswer, h]

/-- The debug port, owner 15, finds its word in DBG_DATA. -/
theorem Mach.dbgData_semAnswer (m : Mach) (word : Nat) : (m.semAnswer 15 word).cpu.dbg.data = word := rfl

/-- A grant makes the owner's semaphore HELD, RECOVERING where it was ABANDONED, under a fresh lease (R411, R412). -/
theorem Mach.sem_semGrant (m : Mach) (q id : Nat) :
    (m.semGrant q id).sem q = { m.sem q with
      state := 1, recovering := decide ((m.sem q).state = 2), owner := id, leaseEnd := m.now + m.leaseNs q,
      frozen := if id != 15 && (m.engine id).state = 2 then some (m.leaseNs q) else none } := by
  simp [Mach.semGrant]

/-- The word that a new owner reads: GRANTED_ABANDONED where its semaphore was ABANDONED, else GRANTED (R411). -/
def Mach.grantedWord (m : Mach) (q id : Nat) : Nat :=
  semWord (if (m.sem q).state = 2 then 1 else 0) ((m.semGrant q id).sem q) (m.semGrant q id).now

/-- An engine that is granted a semaphore finds the word of that grant. -/
theorem Mach.grantWord_semGrant (m : Mach) (q : Nat) {id : Nat} (h : id ≠ 15) :
    ((m.semGrant q id).engine id).grantWord = m.grantedWord q id := by
  simp [Mach.grantedWord, Mach.semGrant, Mach.grantWord_semAnswer _ h, b2n]

/-- The debug port that is granted a semaphore finds the word of that grant. -/
theorem Mach.dbgData_semGrant (m : Mach) (q : Nat) : (m.semGrant q 15).cpu.dbg.data = m.grantedWord q 15 := by
  simp [Mach.grantedWord, Mach.semGrant, Mach.dbgData_semAnswer, b2n]

/-! ### Leaving HELD -/

/-- The second of two writes at one key is the one that stays. -/
theorem fset_fset_same {α : Type} (l : FMap α) (k : Nat) (v v' : α) : fset (fset l k v) k v' = fset l k v' := by
  induction l with
  | nil => simp [fset]
  | cons p l ih =>
    rcases lt_trichotomy k p.1 with hlt | heq | hgt
    · simp [fset, hlt]
    · simp [fset, heq]
    · simp [fset, hgt.not_gt, hgt.ne', ih]

/-- Two changes of one semaphore are one change. -/
theorem Mach.onSem_onSem (m : Mach) (q : Nat) (f g : Sem → Sem) : (m.onSem q f).onSem q g = m.onSem q (fun x => g (f x)) := by
  simp [Mach.onSem, fupd, fset_fset_same]

/-- A semaphore between two owners: it has left HELD, and `id` no longer waits on it. -/
def Sem.leftFor (x : Sem) (abandoned : Bool) (id : Nat) : Sem :=
  { x with
    state := if abandoned then 2 else 0, recovering := false, lastOwner := x.owner, owner := 14, leaseEnd := 0, frozen := none,
    waiters := x.waiters.filter (fun y => y.1 != id) }

/-- It is ABANDONED exactly when it left HELD as ABANDONED. -/
theorem Sem.leftFor_state_eq_two_iff (x : Sem) (abandoned : Bool) (id : Nat) :
    (x.leftFor abandoned id).state = 2 ↔ abandoned := by
  simp [Sem.leftFor]

/-- Leaving HELD with IDs waiting is a grant to the longest waiter, from the state in which the semaphore was left (R415). -/
theorem Mach.semLeave_of_longestWaiter {m : Mach} {q : Nat} {w : Nat × Nat} (h : longestWaiter (m.sem q).waiters = some w)
    (abandoned : Bool) :
    m.semLeave q abandoned = (m.onSem q (fun x => x.leftFor abandoned w.1)).semGrant q w.1 := by
  simp only [Mach.semLeave, Mach.sem_onSem, h, Mach.onSem_onSem, Sem.leftFor]

/-- The word of the grant that follows says GRANTED_ABANDONED where the semaphore left HELD as ABANDONED (R415). -/
theorem Mach.grantedWord_onSem_leftFor (m : Mach) (q : Nat) (abandoned : Bool) (id : Nat) {n : Mach}
    (hn : (m.onSem q (fun x => x.leftFor abandoned id)).semGrant q id = n) :
    (m.onSem q (fun x => x.leftFor abandoned id)).grantedWord q id
      = semWord (if abandoned then 1 else 0) (n.sem q) n.now := by
  simp only [Mach.grantedWord, Mach.sem_onSem, Sem.leftFor_state_eq_two_iff, hn]

/-- Settles O34: the fold keeps the first waiter in the order of service; leaving HELD is then the grant to that waiter, from
a semaphore that is ABANDONED exactly when it was left so. -/
theorem theLongestWaiterIsNext : Obligations.TheLongestWaiterIsNext := by
  unfold Obligations.TheLongestWaiterIsNext
  constructor
  · intro l hl
    obtain ⟨w, hw⟩ := longestWaiter_isSome hl
    exact ⟨w, hw, longestWaiter_mem hw, fun x hx => (waitOrder_le_iff w x).mp (longestWaiter_le hw hx)⟩
  · intro m n q abandoned w hw hn
    rw [Mach.semLeave_of_longestWaiter hw] at hn
    have hword := Mach.grantedWord_onSem_leftFor m q abandoned w.1 hn
    have hsem : n.sem q = _ := hn ▸ Mach.sem_semGrant _ q w.1
    rw [Mach.sem_onSem] at hsem
    refine ⟨by rw [hsem], by rw [hsem], ?_, by rw [hsem, Sem.leftFor], fun hengine => ?_, fun hport => ?_⟩
    · simp [hsem, Sem.leftFor_state_eq_two_iff]
    · rw [← hword, ← hn, Mach.grantWord_semGrant _ q hengine]
    · rw [← hword, ← hn, hport, Mach.dbgData_semGrant]

end Sys2Proof.Machine

/-! The whole machine: how a command ends, as each of the frames in which commands act leaves the queue and job memory
(R407, R568, and log entries 1, 6 and 62). -/

namespace Sys2Proof.Machine

/-- How a command's outcome keeps the state: the queue stays, job memory stays unless the command `stores`, and job memory
stays in its canonical form. -/
structure KeepsState (s : State) (stores : Bool) (r : Res) : Prop where
  queue : ∀ t, r = .next t → t.pending = s.pending
  memory : ∀ t, r = .next t → stores = false → t.mem = s.mem
  canonical : ∀ t, r = .next t → s.Inv → t.Inv

/-- A command that ends in a fault keeps the state, since it gives none. -/
theorem keepsState_fault (s : State) (stores : Bool) (e : Fault) : KeepsState s stores (.fault e) := by
  constructor <;> rintro _ ⟨⟩

/-- A next state that changes the module alone. -/
theorem State.keepsState_becomes (s : State) (stores : Bool) (m : Mach) : KeepsState s stores (s.becomes m) := by
  constructor
  · rintro _ ⟨⟩; rfl
  · rintro _ ⟨⟩ -; rfl
  · rintro _ ⟨⟩ h; exact h

/-- A next state with another job memory in canonical form, of a command that stores. -/
theorem State.keepsState_next (s : State) (m : Mach) {mem : List Host.Cell} (h : s.Inv → Memory.wf mem = true) :
    KeepsState s true (.next { s with m := m, mem := mem }) := by
  constructor
  · rintro _ ⟨⟩; rfl
  · rintro _ ⟨⟩ hstores; cases hstores
  · rintro _ ⟨⟩ hinv; exact h hinv

theorem State.keepsState_act (s : State) (stores : Bool) (dt : Nat) (f : Mach → Mach) : KeepsState s stores (s.act dt f) :=
  s.keepsState_becomes stores _

theorem State.keepsState_actUnit (s : State) (stores : Bool) (dt : Nat) (name : String) (n limit : Nat) (f : Mach → Mach) :
    KeepsState s stores (s.actUnit dt name n limit f) := by
  unfold State.actUnit
  split
  · exact s.keepsState_act stores dt f
  · exact keepsState_fault s stores _

theorem State.keepsState_actUnits (s : State) (stores : Bool) (dt : Nat) (name₁ : String) (n₁ limit₁ : Nat) (name₂ : String)
    (n₂ limit₂ : Nat) (f : Mach → Mach) : KeepsState s stores (s.actUnits dt name₁ n₁ limit₁ name₂ n₂ limit₂ f) := by
  unfold State.actUnits
  split
  · exact s.keepsState_actUnit stores dt name₂ n₂ limit₂ f
  · exact keepsState_fault s stores _

/-- A start of the user engine clears its window, which leaves the canonical form (R407). -/
theorem State.keepsState_actUser (s : State) (dt : Nat) (f : Mach → Mach) : KeepsState s true (s.actUser dt f) :=
  s.keepsState_next _ (clearWindow_wf _ _)

theorem State.keepsState_actUser_of_lt (s : State) (dt : Nat) (name : String) (n limit : Nat) (f : Mach → Mach) :
    KeepsState s true (if n < limit then s.actUser dt f else .fault (.noSuchUnit name n)) := by
  split
  · exact s.keepsState_actUser dt f
  · exact keepsState_fault s true _

theorem State.keepsState_actSem (s : State) (dt n q : Nat) (f : Mach → Mach) : KeepsState s true (s.actSem dt n q f) :=
  s.keepsState_actUser_of_lt dt "engine" n 14 _

/-- An access that goes on after a command keeps the state as its entries do (log entry 62). -/
theorem KeepsState.resumed {s : State} {stores : Bool} {r : Res} (h : KeepsState s stores r) :
    KeepsState s true (resumed r) := by
  cases r with
  | next t =>
    constructor
    · rintro _ ⟨⟩; exact h.queue t rfl
    · rintro _ ⟨⟩ hstores; cases hstores
    · rintro _ ⟨⟩ hinv; exact resumeRun_wf t.m (h.canonical t rfl hinv)
  | fault e => exact keepsState_fault s true e
  | refused e => constructor <;> rintro _ ⟨⟩

/-- ACCESS runs its entries, at once or when the request before it is done (R568). -/
theorem execAccess_keepsState (dt : Nat) (x : HyMsg) (s : State) : KeepsState s true (execAccess dt x s) := by
  unfold execAccess
  dsimp only
  split
  · exact s.keepsState_next _ (resumeRun_wf _)
  · exact s.keepsState_next _ (fun h => runQueue_wf _ _ (resumeRun_wf _ h))

/-- The debug port writes job memory where the address lies in an engine's window of it (R426). -/
theorem execDbgWriteMem_keepsState (dt n addr data : Nat) (s : State) : KeepsState s true (execDbgWriteMem dt n addr data s) := by
  unfold execDbgWriteMem
  dsimp only
  split
  · exact s.keepsState_next _ (fun h => Mach.dbgWriteJob_wf _ h n _ data)
  · exact s.keepsState_act true dt _

/-- What an access that timed out wrote is undone (R426). -/
theorem execDbgTimeout_keepsState (dt : Nat) (s : State) : KeepsState s true (execDbgTimeout dt s) :=
  s.keepsState_next _ (dbgTimedOut_wf _)

/-- Every command keeps the queue and the canonical form, and one that `mayStore` does not name keeps job memory: the frame in
which it acts says so. -/
theorem exec_keepsState (c : Instr) (s : State) : KeepsState s (mayStore c) (exec c s) := by
  cases c <;> dsimp only [exec, mayStore]
  case access dt x => exact execAccess_keepsState dt x s
  case dbgWriteMem dt n addr data => exact execDbgWriteMem_keepsState dt n addr data s
  case dbgTimeout dt => exact execDbgTimeout_keepsState dt s
  case forwardAckReceived | verdictAckTimeout | yieldReceived | bindweedHeartbeat | ingestWaitExpiry | storeWriteDone =>
    exact (s.keepsState_act false _ _).resumed
  case bankLoadDone => exact (s.keepsState_actUnits false _ _ _ _ _ _ _ _).resumed
  case pathAbsent => exact (s.keepsState_actUnit false _ _ _ _ _).resumed
  case userRun | userWatchdog | timeSyncTimer | dictWrite | userDictRequest | forwardedWriteReceived | discoveryEnd =>
    exact s.keepsState_actUser _ _
  case semTry | semWait | semRelease | semRenew | semDeclareRecovery => exact s.keepsState_actSem _ _ _ _
  case semLeaseExpired | trainTimeout | camBusTransferDone | cfgReplyReceived =>
    exact s.keepsState_actUser_of_lt _ _ _ _ _
  case memReadDone | breakpointHit | ptpSync | ptpFollowUp | ptpAnnounce | ptpDelayResp | pdelayReqTimer | ptpPdelayReq
      | ptpPdelayResp =>
    exact s.keepsState_actUnits _ _ _ _ _ _ _ _ _
  case psoPulseEnd | composeLine | lineSend | fireSend | gateInhibit | gateInputInactive | ts1Received | eqStepTimer
      | ts2Received | lockLost | rxInvalidSymbol | eiosReceived | wakeBurstReceived | delayExchange | ackCumulative
      | ackTimeEcho | nakReceived | rxFrameBad | cfgTimeout | statusTimeout | trigPulseEnd | flashStart | flashEnd
      | camTempRead | calFrameTrigger | gpinEdge | csiFrameStart | csiRowReceived | csiFrameEnd | fsTimeout | feTimeout
      | refreshDue | refreshPaybackStart | mr4Poll | memTempRead | agePromotion | arbCutoff | engineFault
      | tokenGrantReceived | tokenClaimTimeout | statusReceived | yrDropBlock | netFrameReceived | netLinkUp | netLinkDown
      | delayReqTimer | ptpHoldover =>
    exact s.keepsState_actUnit _ _ _ _ _ _
  all_goals exact s.keepsState_act _ _ _

/-- Settles O4: the step takes the front of the queue, and the command's frame keeps the canonical form. -/
theorem everyStepKeepsTheInvariant : Obligations.EveryStepKeepsTheInvariant := by
  unfold Obligations.EveryStepKeepsTheInvariant
  intro s t hinv hstep
  unfold step at hstep
  split at hstep
  · cases hstep; exact hinv
  · exact (exec_keepsState _ _).canonical t hstep hinv

/-- Settles O6: the frame of a command that `mayStore` does not name keeps the list of bytes itself. -/
theorem otherCommandsLeaveJobMemory : Obligations.OtherCommandsLeaveJobMemory := by
  unfold Obligations.OtherCommandsLeaveJobMemory
  intro c s t hstores hexec a
  rw [(exec_keepsState c s).memory t hexec hstores]

/-- Refutes O5: a camera packet on virtual channel 4 is not well formed, and CSI_FRAME_START of camera 0 discards it as one of
another channel than the port's, without a stop (R259). -/
theorem not_commandsRunAndLeaveTheQueue : ¬ Obligations.CommandsRunAndLeaveTheQueue := by
  unfold Obligations.CommandsRunAndLeaveTheQueue
  rintro ⟨hends, -⟩
  obtain ⟨u, n, hstops⟩ := (hends (.csiFrameStart 0 ⟨0, 4, 0⟩) State.reset).2 rfl
  have hruns : exec (.csiFrameStart 0 ⟨0, 4, 0⟩) State.reset = State.reset.becomes (State.reset.found 0) := rfl
  rw [hruns] at hstops
  cases hstops

/-- Settles O1: both parts are the two branches of `step`. -/
theorem stepRunsTheFront : Obligations.StepRunsTheFront := by
  unfold Obligations.StepRunsTheFront
  refine ⟨fun c rest s => rfl, fun s hempty => ?_⟩
  unfold step
  rw [hempty]

/-- Settles O2: each part is a field of the reset state. -/
theorem resetLeaves : Obligations.ResetLeaves := by
  unfold Obligations.ResetLeaves
  exact ⟨rfl, rfl, rfl, rfl, rfl, rfl, rfl, rfl, fun _ => rfl⟩

/-- Settles O3: no byte is listed. -/
theorem resetKeepsTheInvariant : Obligations.ResetKeepsTheInvariant := by
  unfold Obligations.ResetKeepsTheInvariant
  exact rfl

/-! ### Reads of job memory -/

/-- The first entry at an address is what a read finds. -/
theorem Memory.read_cons (j a : Nat) (v : Byte) (l : List (Nat × Byte)) :
    Memory.read ((j, v) :: l) a = if j = a then v else Memory.read l a := rfl

/-- A read after a write, above a bound that the list's addresses keep (R407). -/
theorem Memory.read_write_wfFrom {lo : Nat} {l : List (Nat × Byte)} (hl : Memory.wfFrom lo l = true) (a b : Nat) (v : Byte) :
    Memory.read (Memory.write l a v) b = if b = a then v else Memory.read l b := by
  induction l generalizing lo with
  | nil =>
    by_cases hv : v = Memory.unlisted
    · simp [Memory.write, Memory.read, hv]
    · simp [Memory.write, Memory.read, hv, eq_comm]
  | cons p t ih =>
    obtain ⟨j, w⟩ := p
    simp only [Memory.wfFrom, Bool.and_eq_true, decide_eq_true_eq] at hl
    obtain ⟨⟨-, hw⟩, ht⟩ := hl
    rcases lt_trichotomy a j with hlt | rfl | hgt
    · have habsent : Memory.read ((j, w) :: t) a = Memory.unlisted := by
        rw [Memory.read_cons, if_neg hlt.ne', Memory.read_below (by omega) ht]
      by_cases hv : v = Memory.unlisted
      · by_cases hb : b = a
        · simp [Memory.write, hlt, hv, hb, habsent]
        · simp [Memory.write, hlt, hv, hb]
      · simp [Memory.write, hlt, hv, Memory.read_cons a, eq_comm]
    · by_cases hv : v = Memory.unlisted
      · by_cases hb : b = a
        · simp [Memory.write, hv, hb, Memory.read_below (Nat.lt_succ_self a) ht]
        · simp [Memory.write, hv, hb, Memory.read_cons, Ne.symm hb]
      · by_cases hb : b = a
        · simp [Memory.write, hv, hb, Memory.read_cons]
        · simp [Memory.write, hv, hb, Memory.read_cons, Ne.symm hb]
    · have hwrite : Memory.write ((j, w) :: t) a v = (j, w) :: Memory.write t a v := by
        simp [Memory.write, hgt.not_gt, hgt.ne']
      rw [hwrite, Memory.read_cons, Memory.read_cons, ih ht]
      by_cases hj : j = b
      · have hb : b ≠ a := by omega
        simp [hj, hb]
      · simp [hj]

/-- Where some addresses of a canonical list are left out, those read as unlisted and the others as before. -/
theorem Memory.read_filter (keep : Nat → Bool) {lo : Nat} {l : List (Nat × Byte)} (hl : Memory.wfFrom lo l = true) (a : Nat) :
    Memory.read (l.filter (fun c => keep c.1)) a = if keep a then Memory.read l a else Memory.unlisted := by
  induction l generalizing lo with
  | nil => simp [Memory.read]
  | cons p t ih =>
    obtain ⟨j, w⟩ := p
    simp only [Memory.wfFrom, Bool.and_eq_true, decide_eq_true_eq] at hl
    by_cases hj : j = a
    · subst hj
      by_cases hk : keep j
      · simp [hk, Memory.read_cons]
      · simp [hk, ih hl.2]
    · by_cases hk : keep j
      · simp [hk, Memory.read_cons, hj, ih hl.2]
      · simp [hk, Memory.read_cons, hj, ih hl.2]

/-- Job memory after a command that may start E13: its window is zero where it has, and every other byte as before (R407). -/
theorem read_clearWindow (old new : Mach) {mem : List Host.Cell} (h : Memory.wf mem = true) (a : Nat) :
    Memory.read (clearWindow old new mem) a =
      if new.cpu.user.starts ≠ old.cpu.user.starts ∧ jobBase 0 ≤ a ∧ a < jobBase 0 + new.windowSize then 0
      else Memory.read mem a := by
  unfold clearWindow
  by_cases hstarts : old.cpu.user.starts = new.cpu.user.starts
  · simp [hstarts]
  · rw [if_neg hstarts,
      Memory.read_filter (fun j => decide (j < jobBase 0) || decide (jobBase 0 + new.windowSize ≤ j)) h]
    have hne : new.cpu.user.starts ≠ old.cpu.user.starts := fun e => hstarts e.symm
    by_cases hin : jobBase 0 ≤ a ∧ a < jobBase 0 + new.windowSize
    · simp [hne, hin.1, hin.2, Memory.unlisted]
    · have hout : a < jobBase 0 ∨ jobBase 0 + new.windowSize ≤ a := by omega
      simp [hin, hout]

/-- Settles O7: a write keeps the list sorted, so the first entry at an address is the only one; the clearing of the window
leaves out the entries of its addresses. -/
theorem jobMemoryReadsWhatWasWritten : Obligations.JobMemoryReadsWhatWasWritten := by
  unfold Obligations.JobMemoryReadsWhatWasWritten
  refine ⟨fun l a b v hl => Memory.read_write_wfFrom hl a b v, fun dt f s t hwf hact a => ?_⟩
  cases hact
  exact read_clearWindow (s.found dt) (f (s.found dt)) hwf a

end Sys2Proof.Machine

/-! A command, by the frame in which it acts: once the module that the command finds has a name, the next state is what the
command's own function makes of it. -/

namespace Sys2Proof.Machine

theorem State.act_of_found {s : State} {dt : Nat} {f : Mach → Mach} {m n : Mach} (hm : s.found dt = m) (h : f m = n) :
    s.act dt f = s.becomes n := by
  rw [State.act_eq, hm, h]

theorem State.actUnit_of_found {s : State} {dt : Nat} {name : String} {k limit : Nat} {f : Mach → Mach} {m n : Mach}
    (hk : k < limit) (hm : s.found dt = m) (h : f m = n) : s.actUnit dt name k limit f = s.becomes n := by
  rw [State.actUnit_of_lt hk, hm, h]

theorem State.actUnits_of_found {s : State} {dt : Nat} {name₁ name₂ : String} {k₁ limit₁ k₂ limit₂ : Nat} {f : Mach → Mach}
    {m n : Mach} (hk₁ : k₁ < limit₁) (hk₂ : k₂ < limit₂) (hm : s.found dt = m) (h : f m = n) :
    s.actUnits dt name₁ k₁ limit₁ name₂ k₂ limit₂ f = s.becomes n := by
  rw [State.actUnits_of_lt hk₁ hk₂, hm, h]

theorem State.actUser_of_found {s : State} {dt : Nat} {f : Mach → Mach} {m n : Mach} (hm : s.found dt = m) (h : f m = n) :
    s.actUser dt f = s.becomesUser dt n := by
  rw [State.actUser_eq, hm, h]

theorem State.actSem_of_found {s : State} {dt k q : Nat} {f : Mach → Mach} {m n : Mach} (hk : k < 13) (hq : q < 64)
    (hm : s.found dt = m) (hruns : (m.engine k).state = 1) (h : f m = n) : s.actSem dt k q f = s.becomesUser dt n := by
  rw [State.actSem_of_runs hk hq (hm ▸ hruns), hm, h]

/-- A command after which a waiting access goes on. -/
theorem State.goesOn_of_becomes {s : State} {r : Res} {n : Mach} (h : r = s.becomes n) : resumed r = s.goesOn n := by
  rw [h, resumed_becomes]

end Sys2Proof.Machine

/-! The encoder's faults and the PSO outputs: what raises and clears ENCODER_FAULT (R35, R37 to R39, R42), how a pulse ends and
how an action is scheduled (R68 to R71). -/

namespace Sys2Proof.Machine

/-! ### ENCODER_FAULT -/

/-- The illegal transitions of the current 1 ms, the one at this moment included (R37). -/
def Mach.illegalTimesNow (m : Mach) : List Nat :=
  m.enc.illegalTimes.filter (fun t => decide (m.now < t + 1000000)) ++ [m.now]

/-- An illegal transition that counts is added to the total and the list, and recorded (R37). -/
def Mach.illegalCounted (m : Mach) : Mach :=
  Mach.record { m with enc := { m.enc with
    illegalTotal := satAdd 65535 m.enc.illegalTotal 1, illegalTimes := m.illegalTimesNow
    illegalLatched := if m.enc.fault then m.enc.illegalLatched + 1 else 0 } } 0x0101 1 (p32 m.enc.raw)

theorem Mach.encIllegal_of_counts {m : Mach} (h : m.counts = true) : m.encIllegal =
    if m.nat 0x2104 0 0 ≤ m.illegalTimesNow.length then m.illegalCounted.raiseEncFault 0 else m.illegalCounted := by
  have hmode : ¬(m.sys.mode = .reset ∨ m.sys.mode = .boot) := by
    rw [← m.counts_eq_false_iff, h]; exact Bool.noConfusion
  unfold Mach.encIllegal
  rw [if_neg (by simpa using hmode)]
  rfl

theorem Mach.encIllegal_of_not_counts {m : Mach} (h : m.counts = false) : m.encIllegal = m := by
  simp [Mach.encIllegal, (Mach.counts_eq_false_iff m).mp h]

/-- A write of ENC_FAULT_CLEAR that passes its checks, by the three conditions of R39. -/
theorem Mach.writeEncFaultClear_of_admits {m : Mach} {w : Who} {v : Nat} (h : m.admits w 0x2102 0 v = true) :
    m.writeEncFaultClear w v =
      if v = 0 then m.acceptNum w 0x2102 0 0 1 v
      else if m.enc.speedState ≠ 0 ∨ m.enc.openLines ≠ [] ∨ m.nat 0x2104 0 0 ≤ m.illegalNow then m.reply w 0x2102 0 .notReady
      else if m.enc.fault = true then
        ((((Mach.record (m.withStops (fun x => { x with enc := { x.enc with fault := false, faultCause := 0, illegalLatched := 0 } }))
          0x010A m.enc.illegalLatched (p32 m.enc.raw)).restartSpeed 3).overStopEnds).autoMode).acceptNum w 0x2102 0 0 1 v
      else m.acceptNum w 0x2102 0 0 1 v := by
  rw [Mach.writeEncFaultClear, Mach.guardedNum_of_admits h]
  simp [or_assoc]

/-- Settles O10: a transition raises the fault at the limit, an open line where its cause is not yet set; a write of 1 clears
it only where none of the three conditions of R39 forbids it. -/
theorem encoderFaultsAreRaisedAndCleared : Obligations.EncoderFaultsAreRaisedAndCleared := by
  unfold Obligations.EncoderFaultsAreRaisedAndCleared
  refine ⟨?_, ?_, ?_, ?_, ?_, ?_, ?_⟩
  · rintro dt s m n times hm hcounts rfl rfl
    refine ⟨fun hbelow => ?_, fun hlimit => ?_⟩
    · rw [exec_encIllegal]
      refine State.act_of_found hm ((Mach.encIllegal_of_counts hcounts).trans (if_neg ?_))
      exact Nat.not_le.mpr hbelow
    · rw [exec_encIllegal]
      exact State.act_of_found hm ((Mach.encIllegal_of_counts hcounts).trans (if_pos hlimit))
  · intro dt s hcounts
    rw [exec_encIllegal]
    exact State.act_of_found rfl (Mach.encIllegal_of_not_counts hcounts)
  · rintro dt line s m n hm rfl
    refine ⟨fun hset => ?_, fun hclear => ?_⟩
    · rw [exec_openLine]
      exact State.act_of_found hm (if_pos (c := bit m.enc.faultCause 1 = true) hset)
    · rw [exec_openLine]
      refine State.act_of_found hm (if_neg ?_)
      exact Bool.not_eq_true _ ▸ hclear
  · rintro dt line s m hm
    rw [exec_openLineEnded]
    exact State.act_of_found hm rfl
  · intro dt sid s m hm hadmits hfault hspeed hlines hillegal
    rw [exec_encFaultClear]
    refine State.act_of_found hm ?_
    rw [Mach.writeEncFaultClear_of_admits (v := 1) hadmits]
    simp [hfault, hspeed, hlines, hillegal]
  · intro dt sid v s m hm hadmits hcase
    rw [exec_encFaultClear]
    refine State.act_of_found hm ?_
    rw [Mach.writeEncFaultClear_of_admits hadmits]
    rcases hcase with rfl | ⟨rfl, hfault, hspeed, hlines, hillegal⟩
    · simp
    · simp [hfault, hspeed, hlines, hillegal]
  · intro dt sid s m hm hadmits hforbids
    rw [exec_encFaultClear]
    refine State.act_of_found hm ?_
    rw [Mach.writeEncFaultClear_of_admits (v := 1) hadmits, if_neg one_ne_zero, if_pos hforbids]

/-! ### PSO outputs -/

/-- PSO_SCHEDULE that passes its checks (R69, R70): a line that has passed is rejected, a full queue is busy. -/
theorem Mach.writePsoSchedule_of_admits {m : Mach} {w : Who} {n v : Nat} (h : m.admits w 0x2142 (n + 1) v = true) :
    m.writePsoSchedule w n v =
      if m.enc.origin.isSome = true ∧ bits v 0 48 < (m.pso n).next then m.reply w 0x2142 (n + 1) .commitRejected
      else if m.psoFree n = 0 then m.reply w 0x2142 (n + 1) .busy
      else (m.onPso n (fun p => { p with
        queue := psoInsert p.queue { line := bits v 0 48, action := bits v 48 2, frame := none } })).acceptNum
          w 0x2142 (n + 1) 0 8 v := by
  rw [Mach.writePsoSchedule, Mach.guardedNum_of_admits h]
  simp

/-- A line is still ahead of an output where no origin exists, or where the output has not passed it. -/
theorem Mach.not_passed_of_ahead {m : Mach} {n line : Nat} (h : m.enc.origin = none ∨ (m.pso n).next ≤ line) :
    ¬(m.enc.origin.isSome = true ∧ line < (m.pso n).next) := by
  rintro ⟨horigin, hline⟩
  rcases h with hnone | hle
  · simp [hnone] at horigin
  · omega

/-- Settles O13: the end of a pulse is compared with the time now; a schedule goes by the line, then by the room. -/
theorem psoPulsesAndSchedules : Obligations.PsoPulsesAndSchedules := by
  unfold Obligations.PsoPulsesAndSchedules
  refine ⟨?_, ?_, ?_, ?_, ?_⟩
  · intro dt n e s m hn hm hpulse hover
    rw [exec_psoPulseEnd]
    refine State.actUnit_of_found hn hm ?_
    simp [hpulse, hover]
  · intro dt n e s m hn hm hpulse hearly
    rw [exec_psoPulseEnd]
    refine State.actUnit_of_found hn hm ?_
    simp [hpulse, hearly.not_ge]
  · rintro dt sid n v s m - hm hadmits hahead hroom
    rw [exec_psoSchedule]
    refine State.act_of_found hm ?_
    rw [Mach.writePsoSchedule_of_admits hadmits, if_neg (Mach.not_passed_of_ahead hahead), if_neg hroom]
  · rintro dt sid n v s m - hm hadmits horigin hpassed
    rw [exec_psoSchedule]
    refine State.act_of_found hm ?_
    rw [Mach.writePsoSchedule_of_admits hadmits, if_pos ⟨horigin, hpassed⟩]
  · rintro dt sid n v s m - hm hadmits hahead hfull
    rw [exec_psoSchedule]
    refine State.act_of_found hm ?_
    rw [Mach.writePsoSchedule_of_admits hadmits, if_neg (Mach.not_passed_of_ahead hahead), if_pos hfull]

end Sys2Proof.Machine

/-! Seams and lanes: the outcome of a commit (R92 to R97), how lines are composed, sent and fired (R168 to R172, R203, R204),
and what a frame that leaves does to its port (R185, R196, R202). -/

namespace Sys2Proof.Machine

/-! ### The outcome of a commit -/

theorem Mach.decideSeam_of_fired {m : Mach} {target : Nat} (h : ∃ k, k < 8 ∧ target < m.fireNext k) (flags : Nat) :
    m.decideSeam target flags = (0, target, some 0) := by
  have hany : allBars.any (fun k => decide (target < m.fireNext k)) = true := by
    simpa [allBars] using h
  rw [Mach.decideSeam, if_pos hany]

theorem Mach.decideSeam_of_unfired {m : Mach} {target : Nat} (horigin : m.enc.origin.isSome = true)
    (h : ∀ k, k < 8 → m.fireNext k ≤ target) (flags : Nat) : m.decideSeam target flags =
      if m.compTop ≤ target then (1, target, none)
      else if m.firstMet target (m.compTop - target) = target then
        (2, m.firstMet target (m.compTop - target), if bit flags 1 then some 1 else none)
      else (3, m.firstMet target (m.compTop - target), if bit flags 0 then some 2 else none) := by
  have hany : ¬ allBars.any (fun k => decide (target < m.fireNext k)) = true := by
    simpa [allBars] using h
  have hnone : ¬ m.enc.origin.isNone = true := by
    simpa [Option.isSome_iff_ne_none] using horigin
  rw [Mach.decideSeam, if_neg hany, if_neg hnone]

/-- No bit is set in flags of 0. -/
theorem bit_zero_eq_false (k : Nat) : bit 0 k = false := by
  simp [bit, bits]

/-- Settles O15: the branches of the decision, in their order; the line of SQUASH and SLIPPED is the first that can be met. -/
theorem everyCommitHasItsOutcome : Obligations.EveryCommitHasItsOutcome := by
  unfold Obligations.EveryCommitHasItsOutcome
  intro m target flags horigin
  refine ⟨fun hfired => Mach.decideSeam_of_fired hfired flags, fun hunfired habove => ?_, fun hunfired hbelow => ?_⟩
  · rw [Mach.decideSeam_of_unfired horigin hunfired, if_pos habove]
  · rw [Mach.decideSeam_of_unfired horigin hunfired, if_neg (Nat.not_le.mpr hbelow)]
    by_cases hmet : m.firstMet target (m.compTop - target) = target
    · rw [if_pos hmet]
      refine ⟨rfl, iff_of_true rfl hmet, .inl rfl, ?_⟩
      rintro rfl
      simp [bit_zero_eq_false]
    · rw [if_neg hmet]
      refine ⟨rfl, iff_of_false (show ¬(3 = 2) by decide) hmet, .inr rfl, ?_⟩
      rintro rfl
      simp [bit_zero_eq_false]

/-! ### Composing, sending and firing lines -/

/-- A bank's oldest load ends, and the commits that waited go on (R170, R171). -/
theorem Mach.bankLoaded_of_loads {m n : Mach} {k g : Nat} (own : Mach → Mach) (hloads : (m.banks k g).loads ≠ [])
    (hn : m.onBanks k g (fun b => { b with loads := b.loads.drop 1 }) = n) :
    m.bankLoaded k g own = Mach.releaseCommits (match ffind n.seams.bankWait (8 * k + g) with
      | some t =>
        if (n.banks k g).loads.contains 1 then n
        else Mach.recordAt { n with seams := { n.seams with bankWait := fdel n.seams.bankWait (8 * k + g) } } 0x0301
          (k + 256 * g) (n.now - t) (n.nextToCompose k)
      | none => n) k own := by
  have hsome : ¬ (m.banks k g).loads.isEmpty = true := by
    simpa using hloads
  subst hn
  exact if_neg hsome

theorem Mach.fireDue_of_not_firesEvents {m : Mach} (h : m.firesEvents = false) (k : Nat) : m.fireDue k = none := by
  simp [Mach.fireDue, h]

/-- Settles O16: each command is one decision, on the loads of a bank, on the line and its bank, on the event of a LINE, and on
the time of a FIRE. -/
theorem linesAreComposedSentAndFired : Obligations.LinesAreComposedSentAndFired := by
  unfold Obligations.LinesAreComposedSentAndFired
  refine ⟨?_, ?_, ?_, ?_, ?_, ?_, ?_, ?_, ?_⟩
  · intro dt bar group s m hbar hgroup hm hloads hwait
    rw [exec_bankLoadDone]
    refine State.goesOn_of_becomes (State.actUnits_of_found hbar hgroup hm ?_)
    have hkept : ffind (m.onBanks bar group (fun b => { b with loads := b.loads.drop 1 })).seams.bankWait (8 * bar + group)
        = none := hwait
    rw [Mach.bankLoaded_of_loads _ hloads rfl, hkept]
  · intro dt bar group since s m n hbar hgroup hm hloads hwait hn hnone
    rw [exec_bankLoadDone]
    refine State.goesOn_of_becomes (State.actUnits_of_found hbar hgroup hm ?_)
    have hkept : ffind n.seams.bankWait (8 * bar + group) = some since := by rw [← hn]; exact hwait
    rw [Mach.bankLoaded_of_loads _ hloads hn, hkept]
    simp only [hnone]
    rfl
  · intro dt bar group s m hbar hgroup hm hloads
    rw [exec_bankLoadDone]
    refine State.goesOn_of_becomes (State.actUnits_of_found hbar hgroup hm ?_)
    simp [Mach.bankLoaded, hloads]
  · intro dt bar took s m hbar hm hready
    refine ⟨fun hfree => ?_, fun g hbusy hwait => ?_⟩
    · rw [exec_composeLine]
      refine State.actUnit_of_found hbar hm ?_
      simp only [Mach.composeLine, hready, hfree, if_true]
    · rw [exec_composeLine]
      refine State.actUnit_of_found hbar hm ?_
      simp only [Mach.composeLine, hready, hbusy, hwait, if_true]
      rfl
  · rintro dt port s m n e gen data hport hm hnext hdue hn rfl rfl
    rw [exec_lineSend]
    refine State.actUnit_of_found hport hm ?_
    simp only [Mach.lineSend, hnext, hdue, hn, if_true]
  · intro dt port s m hport hm hdue
    rw [exec_lineSend]
    refine State.actUnit_of_found hport hm ?_
    simp [Mach.lineSend, hdue]
  · intro dt bar t late s m hbar hm hdue
    rw [exec_fireSend]
    refine State.actUnit_of_found hbar hm ?_
    simp only [Mach.fireSend, hdue]
  · intro dt bar s m hbar hm hdue
    rw [exec_fireSend]
    refine State.actUnit_of_found hbar hm ?_
    simp only [Mach.fireSend, hdue]
  · intro dt bar s m hbar hm hfires
    rw [exec_fireSend]
    refine State.actUnit_of_found hbar hm ?_
    simp only [Mach.fireSend, Mach.fireDue_of_not_firesEvents hfires]

/-! ### A frame that leaves, and a port that sends no FIRE -/

/-- What a frame's start marks on its own port, the fields of the lane and its sequence number aside (R203, R204, R219). -/
theorem Mach.frameStarts_lane (m : Mach) (p : Nat) (f : Frame) :
    ((m.frameStarts p f).port p).tx.queue = (m.port p).tx.queue ∧ ((m.frameStarts p f).port p).tx.freeAt = (m.port p).tx.freeAt
      ∧ ((m.frameStarts p f).port p).tx.sending = (m.port p).tx.sending
      ∧ ((m.frameStarts p f).port p).tx.txSeq = (m.port p).tx.txSeq
      ∧ ((m.frameStarts p f).port p).tx.unacked = (m.port p).tx.unacked := by
  unfold Mach.frameStarts
  split <;> simp [Mach.port, Mach.onTx, Mach.onLink, Mach.onPort]

theorem Mach.frameStarts_out (m : Mach) (p : Nat) (f : Frame) : (m.frameStarts p f).out = m.out := by
  unfold Mach.frameStarts
  split <;> rfl

theorem Mach.frameStarts_port_other (m : Mach) {p q : Nat} (h : q ≠ p) (f : Frame) :
    (m.frameStarts p f).port q = m.port q := by
  unfold Mach.frameStarts
  split <;> simp [Mach.port, Mach.onTx, Mach.onLink, Mach.onPort, fget_fupd_other _ h]

/-- A frame that carries no link time leaves as it is, with the port's sequence number (R196). -/
theorem Mach.depart_of_not_timeSync (m : Mach) (p : Nat) {f : Frame} (h : bodyType f.body ≠ 0x21) :
    m.depart p f = Mach.emit ((m.onTx p (fun t => { t with
        freeAt := m.now + frameTime (bodySize f.body) + gapTime
        sending := some ({ f with seq := (m.port p).tx.txSeq }, m.now + frameTime (bodySize f.body))
        txSeq := if bodySequenced f.body then (t.txSeq + 1) % 65536 else t.txSeq
        unacked := if bodySequenced f.body then
          t.unacked ++ [{ f := { f with seq := (m.port p).tx.txSeq }, sentAt := m.now, tries := 0 }] else t.unacked })).frameStarts p
            { f with seq := (m.port p).tx.txSeq })
      (.frame p { f with seq := (m.port p).tx.txSeq } (frameBytes { f with seq := (m.port p).tx.txSeq } p (m.moduleId - 1))) := by
  obtain ⟨body, seq, event, gen, resend, applyAt⟩ := f
  cases body with
  | timeSync => exact absurd rfl h
  | _ => rfl

/-- Nothing holds a port back exactly when its list of causes is empty (R207, R242, R675). -/
theorem Mach.unsentCauses_eq_nil_iff (m : Mach) (p : Nat) : m.unsentCauses p = [] ↔
    m.linkUp p = true ∧ m.stops p = [] ∧ (m.port p).fire.stopUnacked = false ∧ (m.port p).fire.resumeKind = none := by
  simp only [Mach.unsentCauses, List.append_eq_nil_iff, List.map_eq_nil_iff]
  constructor
  · rintro ⟨⟨⟨hup, hstops⟩, hack⟩, hresume⟩
    refine ⟨by simpa using hup, hstops, by simpa [hstops] using hack, ?_⟩
    cases hkind : (m.port p).fire.resumeKind with
    | none => rfl
    | some kind => simp [hkind] at hresume
  · rintro ⟨hup, hstops, hack, hresume⟩
    simp [hup, hstops, hack, hresume]

/-- The lane of every port is as before a change of what a port fires. -/
theorem Mach.tx_onFire (m : Mach) (p q : Nat) (f : FirePort → FirePort) : ((m.onFire p f).port q).tx = (m.port q).tx := by
  by_cases h : q = p
  · subst h; simp
  · rw [Mach.port_onFire_other m h]

/-- The lane of every port is as before a change of its link. -/
theorem Mach.tx_onLink (m : Mach) (p q : Nat) (f : Link → Link) : ((m.onLink p f).port q).tx = (m.port q).tx := by
  by_cases h : q = p
  · subst h; simp
  · rw [Mach.port_onLink_other m h]

theorem Mach.port_emit (m : Mach) (o : Out) (q : Nat) : (m.emit o).port q = m.port q := rfl

/-- Settles O17: a busy lane queues, and a free one lets the frame leave by `depart`; the causes of a port that sends no FIRE are
four lists that are empty together exactly when nothing holds it back. -/
theorem framesAndStoppedPorts : Obligations.FramesAndStoppedPorts := by
  unfold Obligations.FramesAndStoppedPorts
  refine ⟨?_, enqueue_split, ?_, ?_, ?_, ?_⟩
  · rintro m p body event gen resend applyAt f rfl hbusy
    exact Mach.sendFrame_busy hbusy body event gen resend applyAt
  · rintro m p body event gen resend applyAt t f hfree hqueue htype rfl rfl
    rw [Mach.sendFrame_free hfree hqueue, Mach.depart_of_not_timeSync _ _ (f := ⟨body, 0, event, gen, resend, applyAt⟩) htype]
    obtain ⟨hq, hfreeAt, hsending, hseq, hunacked⟩ := Mach.frameStarts_lane _ p _
    refine ⟨?_, ?_, ?_, ?_, fun hsequenced => ⟨?_, ?_⟩, fun hunsequenced => ⟨?_, ?_⟩, fun q hne => ?_⟩
    · rw [Mach.emit_out, Mach.frameStarts_out]
      simp; rfl
    · rw [Mach.port_emit, hq]; simp
    · rw [Mach.port_emit, hfreeAt]; simp
    · rw [Mach.port_emit, hsending]; simp
    · rw [Mach.port_emit, hseq]; simp [hsequenced]
    · rw [Mach.port_emit, hunacked]; simp [hsequenced]
    · rw [Mach.port_emit, hseq]; simp [hunsequenced]
    · rw [Mach.port_emit, hunacked]; simp [hunsequenced]
    · rw [Mach.port_emit, Mach.frameStarts_port_other _ hne]
      simp [Mach.port_onTx_other _ hne]
  · intro m n p e t late hused hn hcauses
    simp only [Mach.firePort, hused, hn]
    cases hlist : n.unsentCauses p with
    | nil => exact absurd hlist hcauses
    | cons c cs => rfl
  · intro m p
    rw [← not_iff_not, not_ne_iff, m.unsentCauses_eq_nil_iff p]
    simp
  · intro m p e q causes
    have hmarks (x : Mach) : (x.notFired p e (maskOf causes)).port q = x.port q := by
      rw [Mach.port, Mach.notFired_ports, Mach.port]
    unfold Mach.notSent
    dsimp only
    rw [hmarks]
    split <;> split <;> simp [Mach.fireCount, Mach.linkCount, Mach.passEvent, Mach.tx_onFire, Mach.tx_onLink]

end Sys2Proof.Machine

/-! Objects of a job: posts, settings of layers and of the job, edits of nozzles and head slots (R106, R111, R117, R173,
R174). -/

namespace Sys2Proof.Machine

/-- LAYER_POST that passes its checks goes by the status of the post (R106). -/
theorem Mach.writeLayerPost_of_ok {m : Mach} {w : Who} {layer : Nat} (ha : m.answers w = true)
    (hg : m.writeGate w 0x5020 0 = .ok) (hlayer : okValueAt 0x5020 1 layer = true) (job frame content : Nat) :
    m.writeLayerPost w layer job frame content = match m.postStatus layer job frame content with
      | .ok => (m.enterPost layer job frame content).accept w 0x5020 0 0 (postBytes layer job frame content)
      | .authFailed => (m.record 0x0207 content frame).reply w 0x5020 0 .authFailed
      | st => m.reply w 0x5020 0 st := by
  rw [Mach.writeLayerPost, Mach.guarded_of_ok ha hg, hlayer]
  rfl

/-- LAYER_CONFIG of a layer other than L7 needs the levels of every layer (R117). -/
theorem Mach.writeLayerConfig_of_admits {m : Mach} {sid l sub : Nat} {data : Bytes} {vals : List (Nat × Fld × Bytes)}
    (hl : (m.locals (.host sid)).layerSel = l) (h7 : l ≠ 7) (h : m.admitsBytes (.host sid) 0x5010 sub 10 data vals = true) :
    m.writeLayerConfig (.host sid) sub data =
      if (m.storeVals 0x5010 l vals).layerFits l then (m.storeVals 0x5010 l vals).staged m (.host sid) 0x5010 sub l data
      else m.reply (.host sid) 0x5010 sub .outOfRange := by
  have hinst : m.instOf (.host sid) .layer = l := hl
  simp only [Mach.writeLayerConfig, hinst, h7, decide_false, Bool.false_and, Bool.false_eq_true, if_false]
  rw [Mach.guardedBytes_of_admits h]

/-- JOB_CONFIG of a sub-index that is no job identifier is stored and staged (R111). -/
theorem Mach.writeJobConfig_of_admits {m : Mach} {w : Who} {sub : Nat} {data : Bytes} {vals : List (Nat × Fld × Bytes)}
    (hsub : 1 < sub) (h : m.admitsBytes w 0x5001 sub 10 data vals = true) :
    m.writeJobConfig w sub data = (m.storeVals 0x5001 0 vals).staged m w 0x5001 sub 0 data := by
  rw [Mach.writeJobConfig, Mach.guardedBytes_of_admits h]
  simp [hsub.not_ge]

theorem Mach.writeHeadSlot_of_admits {m n : Mach} {sid slot v p : Nat} (hp : (m.locals (.host sid)).portSel = p)
    (h : m.admits (.host sid) 0x3010 (slot + 1) v = true) (hn : m.setNum 0x3010 (slot + 1) p v = n) :
    m.writeHeadSlot (.host sid) slot v =
      if slotsFit (n.slots p) && n.staggerFits (n.nat 0x2010 0 0) then
        (n.rewriteSlots p).acceptNum (.host sid) 0x3010 (slot + 1) p 8 v
      else m.reply (.host sid) 0x3010 (slot + 1) .outOfRange := by
  have hinst : m.instOf (.host sid) .port = p := hp
  rw [Mach.writeHeadSlot, Mach.guardedNum_of_admits h]
  simp only [hinst, hn]

/-- Settles O18: each object is checked once, and then stored or refused by its own condition. -/
theorem jobObjectsAreStored : Obligations.JobObjectsAreStored := by
  unfold Obligations.JobObjectsAreStored
  refine ⟨?_, ?_, ?_, ?_, ?_⟩
  · intro dt sid layer job frame content s m hm hanswers hgate hlayer
    refine ⟨fun hok => ?_, fun hfailed => ?_⟩
    · rw [exec_layerPost]
      refine State.act_of_found hm ?_
      rw [Mach.writeLayerPost_of_ok hanswers hgate hlayer, hok]
      rfl
    · rw [exec_layerPost]
      refine State.act_of_found hm ?_
      rw [Mach.writeLayerPost_of_ok hanswers hgate hlayer, hfailed]
  · rintro dt sid sub data s m n l vals hm hl h7 hadmits rfl hfits
    rw [exec_layerConfigWrite]
    refine State.act_of_found hm ?_
    rw [Mach.writeLayerConfig_of_admits hl h7 hadmits, if_pos hfits]
  · intro dt sid sub data s m vals hm hsub hadmits
    rw [exec_jobConfigWrite]
    exact State.act_of_found hm (Mach.writeJobConfig_of_admits hsub hadmits)
  · intro dt sid v s m hm hadmits
    rw [exec_nozzleEdit]
    refine State.act_of_found hm ?_
    rw [Mach.writeNozzleEdit, Mach.guardedNum_of_admits hadmits]
  · rintro dt sid slot v p s m n - hm hp hadmits hn
    refine ⟨fun hfits => ?_, fun hunfit => ?_⟩
    · rw [exec_headSlotWrite]
      refine State.act_of_found hm ?_
      rw [Mach.writeHeadSlot_of_admits hp hadmits hn, if_pos hfits]
    · rw [exec_headSlotWrite]
      refine State.act_of_found hm ?_
      rw [Mach.writeHeadSlot_of_admits hp hadmits hn, if_neg (by rw [hunfit]; decide)]

end Sys2Proof.Machine

/-! The head links: what trains a port anew, sleep, timers, acknowledgements, statuses, tokens and requests (R186 to R207,
R217, R219, R245, R450). -/

namespace Sys2Proof.Machine

/-! ### Training anew -/

/-- The events whose FIRE a retraining port has not sent (R199, R242). -/
def Mach.dropUnsent (m : Mach) (p : Nat) : Mach :=
  ((m.port p).fire.fires.filter (fun x => !x.left)).foldl (fun acc x => (acc.linkCount p 4 1).notFired p x.event (2 ^ 7)) m

theorem Mach.port_notFired (m : Mach) (p e causes q : Nat) : (m.notFired p e causes).port q = m.port q := by
  rw [Mach.port, Mach.notFired_ports, Mach.port]

/-- Counting the events that are not fired changes no other port, and not what the port itself fires. -/
theorem Mach.port_dropUnsent (m : Mach) (p : Nat) :
    ((m.dropUnsent p).port p).fire = (m.port p).fire ∧ ∀ q, q ≠ p → (m.dropUnsent p).port q = m.port q := by
  unfold Mach.dropUnsent
  generalize (m.port p).fire.fires.filter (fun x => !x.left) = unsent
  induction unsent generalizing m with
  | nil => exact ⟨rfl, fun _ _ => rfl⟩
  | cons x xs ih =>
    obtain ⟨hfire, hother⟩ := ih ((m.linkCount p 4 1).notFired p x.event (2 ^ 7))
    refine ⟨?_, fun q hq => ?_⟩
    · rw [List.foldl_cons, hfire, Mach.port_notFired]
      simp [Mach.linkCount]
    · rw [List.foldl_cons, hother q hq, Mach.port_notFired, Mach.linkCount, Mach.port_onLink_other m hq]

theorem Mach.port_sendSet (m : Mach) (p kind q : Nat) : (m.sendSet p kind).port q = m.port q := rfl

/-- Training anew leaves every other port. -/
theorem Mach.port_startTraining_other (m : Mach) {p q : Nat} (h : q ≠ p) : (m.startTraining p).port q = m.port q := by
  unfold Mach.startTraining
  dsimp only
  rw [Mach.port_sendSet, Mach.port_onPort_other _ h]
  exact (m.port_dropUnsent p).2 q h

/-- Training anew restarts the sequence numbers, and nothing that was on its way waits any more (R189, R199). -/
theorem Mach.port_startTraining (m : Mach) (p : Nat) : ((m.startTraining p).port p).link.phase = .ts1
    ∧ ((m.startTraining p).port p).tx.txSeq = 0 ∧ ((m.startTraining p).port p).tx.rxSeq = 0
    ∧ ((m.startTraining p).port p).tx.unacked = [] ∧ ((m.startTraining p).port p).tx.token = false
    ∧ ((m.startTraining p).port p).tx.cfgQueue = []
    ∧ ((m.startTraining p).port p).fire.fires = (m.port p).fire.fires.filter (fun y => y.left) := by
  unfold Mach.startTraining
  dsimp only
  rw [Mach.port_sendSet, Mach.port_onPort]
  refine ⟨rfl, rfl, rfl, rfl, rfl, rfl, ?_⟩
  exact congrArg (fun x : FirePort => x.fires.filter (fun y => y.left)) (m.port_dropUnsent p).1

/-- LINK_RETRAIN of the selected port (R189). -/
theorem Mach.writeLinkRetrain_of_admits {m : Mach} {sid p : Nat} (hp : (m.locals (.host sid)).portSel = p)
    (h : m.admits (.host sid) 0x3045 0 1 = true) :
    m.writeLinkRetrain (.host sid) 1 =
      (((m.onLink p (fun l => { l with failures := 0 })).linkCount p 5 1).startTraining p).acceptNum (.host sid) 0x3045 0 p 1 1 := by
  have hinst : m.instOf (.host sid) .port = p := hp
  rw [Mach.writeLinkRetrain, Mach.guardedNum_of_admits (v := ((1 : Nat) : Int)) h]
  simp only [hinst, if_true]

/-- REF_CONFIG with a reference, or of a module without a peer, trains every port anew (R225, R226). -/
theorem Mach.writeRefConfig_of_admits {m : Mach} {w : Who} {v : Nat} (h : m.admits w 0x3101 0 v = true)
    (href : m.paired = false ∨ bits v 8 2 ≠ 0) : m.writeRefConfig w v =
      (forEach allPorts ((m.setNum 0x3101 0 0 v).emit (.refOut (m.setNum 0x3101 0 0 v).refOutputs)) (fun p acc =>
        ((acc.onLink p (fun l => { l with failures := 0 })).linkCount p 5 1).startTraining p)).acceptNum w 0x3101 0 0 2 v := by
  have hnot : ¬(m.paired && decide (bits v 8 2 = 0)) = true := by
    rcases href with hp | hb
    · simp [hp]
    · simp [hb]
  rw [Mach.writeRefConfig, Mach.guardedNum_of_admits h, if_neg hnot]

/-- LINK_SLEEP that passes its checks (R187): a pair does not sleep; else the ports sleep or wake as the object now says. -/
theorem Mach.writeLinkSleep_of_admits {m : Mach} {w : Who} {v : Nat} (h : m.admits w 0x3102 0 v = true) :
    m.writeLinkSleep w v =
      if v = 1 ∧ m.paired = true then m.reply w 0x3102 0 .outOfRange
      else (if (m.setNum 0x3102 0 0 v).sleeps then (m.setNum 0x3102 0 0 v).sleepPorts
        else if v = 0 then (m.setNum 0x3102 0 0 v).wakePorts else m.setNum 0x3102 0 0 v).acceptNum w 0x3102 0 0 1 v := by
  rw [Mach.writeLinkSleep, Mach.guardedNum_of_admits h]
  simp only [Bool.and_eq_true, decide_eq_true_eq]

/-- Settles O23: each command that trains a port anew ends in `startTraining`, which replaces the port's own fields and leaves
every other port. -/
theorem linksRetrainAndSleep : Obligations.LinksRetrainAndSleep := by
  unfold Obligations.LinksRetrainAndSleep
  refine ⟨⟨?_, ?_, ?_, ?_, ?_, ?_, ?_, ?_⟩, ?_⟩
  · intro dt sid p s m hm hp hadmits
    rw [exec_linkRetrain]
    exact State.act_of_found hm (Mach.writeLinkRetrain_of_admits hp hadmits)
  · intro dt p s m hp hm hup
    rw [exec_lockLost]
    refine State.actUnit_of_found hp hm ?_
    simp only [hup, if_true]
    rfl
  · intro dt p gap first a b s m hp hm hup hbad
    rw [exec_rxInvalidSymbol]
    refine State.actUnit_of_found hp hm ?_
    simp [Mach.invalidSymbol, hup, hbad, sumOf]
  · intro dt sid v s m hm hadmits href
    rw [exec_refConfigWrite]
    exact State.act_of_found hm (Mach.writeRefConfig_of_admits hadmits href)
  · intro dt sid s m hm halone
    refine ⟨fun hadmits hsleeps => ?_, fun hadmits hwakes => ?_⟩
    · rw [exec_linkSleep]
      refine State.act_of_found hm ?_
      rw [Mach.writeLinkSleep_of_admits (v := 1) hadmits, if_neg (by simp [halone]), Nat.cast_one, if_pos hsleeps]
    · rw [exec_linkSleep]
      refine State.act_of_found hm ?_
      rw [Mach.writeLinkSleep_of_admits (v := 0) hadmits, if_neg (by simp), Nat.cast_zero, if_neg (by simp [hwakes]), if_pos rfl]
  · intro dt sid s m hm hpaired hadmits
    rw [exec_linkSleep]
    refine State.act_of_found hm ?_
    rw [Mach.writeLinkSleep_of_admits (v := 1) hadmits, if_pos ⟨rfl, hpaired⟩]
  · intro dt p s hp
    rw [exec_eiosReceived]
    exact State.actUnit_of_found hp rfl rfl
  · intro dt p s hp
    rw [exec_wakeBurstReceived]
    exact State.actUnit_of_found hp rfl rfl
  · intro m p
    obtain ⟨hphase, htxSeq, hrxSeq, hunacked, htoken, hcfg, hfires⟩ := m.port_startTraining p
    exact ⟨hphase, htxSeq, hrxSeq, hunacked, htoken, hcfg, hfires, fun q hq => m.port_startTraining_other hq⟩

/-! ### Timers, acknowledgements and lost frames -/

/-- A sample of the delay ends the exchange that was sent, and only the sixteenth ends the measurement (R192). -/
theorem Mach.delaySample_of_exchange {m : Mach} {p t1 : Nat} (h : (m.port p).link.exchange = some t1)
    (hmore : (m.port p).link.samples.length + 1 ≠ 16) (t2 t3 : Nat) : m.delaySample p t2 t3 =
      m.onLink p (fun l => { l with
        exchange := none, samples := l.samples ++ [8 * (((m.linkTime : Int) - t1) - ((t3 : Int) - t2))] }) := by
  simp [Mach.delaySample, h, hmore]

/-- A NAK of a reason that names frames loses them, with BUFFER_FULL also what an ACK has covered (R206, R207, R213). -/
theorem Mach.nak_of_reason {m : Mach} {reason : Nat} (h4 : reason ≠ 4) (h5 : reason ≠ 5) (p first missing : Nat) :
    m.nak p first missing reason =
      (m.nakNames p first missing reason).foldl (fun acc x => acc.frameLost p x true) m := by
  simp [Mach.nak, h4, h5]

theorem Mach.nak_of_no_frames {m : Mach} {reason : Nat} (h : reason = 4 ∨ reason = 5) (p first missing : Nat) :
    m.nak p first missing reason = m := by
  simp [Mach.nak, h]

/-- A bad frame that the port receives is answered with a NAK of its reason; reason 0 also counts and records it (R197). -/
theorem Mach.rxBad_of_fault {m : Mach} {p reason : Nat} {bytes : Bytes} {symbolError : Bool} (h : m.receives p = true)
    (hfault : frameFault bytes symbolError = some reason) : m.rxBad p bytes symbolError =
      (if reason = 0 then
        ((m.linkCount p 1 1).onLink p (fun l => { l with
          badTimes := l.badTimes.filter (fun t => decide (m.now < t + 1000000000)) ++ [m.now] })).record 0x0403 p 1
        else m).sendPlain p (.nak (m.port p).tx.rxSeq 1 reason) := by
  rw [Mach.rxBad, if_pos h, hfault]

/-- Settles O24: each timer compares its last time with the time now; a frame from the endpoint counts where the port receives. -/
theorem linkTimersAndAcknowledgements : Obligations.LinkTimersAndAcknowledgements := by
  unfold Obligations.LinkTimersAndAcknowledgements
  refine ⟨⟨?_, ?_, ?_, ?_, ?_, ?_⟩, ?_, ?_, ?_, ?_, ?_⟩
  · intro dt s m hm hdue
    rw [exec_timeSyncTimer]
    refine State.actUser_of_found hm ?_
    rw [Mach.timeSync, if_pos hdue]
  · intro dt s m hm hdue
    rw [exec_livenessTimer]
    exact State.act_of_found hm (if_pos hdue)
  · intro dt p s m hp hm hmeasuring hidle hdue
    rw [exec_delayExchange]
    refine State.actUnit_of_found hp rfl ?_
    simp only [Mach.delayExchange, hm, hmeasuring, hidle, hdue]
    rfl
  · intro dt p seq t1 t2 t3 lastSeq lostMask s m hp hreceives hm hexchange hmore
    rw [exec_ackTimeEcho]
    refine State.actUnit_of_found hp rfl ?_
    simp only [hreceives, if_true]
    rw [hm, Mach.delaySample_of_exchange hexchange hmore]
  · intro dt p seq lastSeq lostMask s m hp hm hreceives
    rw [exec_ackCumulative]
    exact State.actUnit_of_found hp hm (if_pos hreceives)
  · intro dt p seq t2 t3 lastSeq lostMask s m hp hm hreceives
    have hdown : ¬ m.receives p = true := by simp [hreceives]
    refine ⟨?_, ?_⟩
    · rw [exec_ackCumulative]
      exact State.actUnit_of_found hp hm (if_neg hdown)
    · rw [exec_ackTimeEcho]
      exact State.actUnit_of_found hp hm (if_neg hdown)
  · intro dt p seq first missing reason s m hp hreceives hm h4 h5
    rw [exec_nakReceived]
    refine State.actUnit_of_found hp rfl ?_
    simp only [hreceives, if_true]
    rw [hm, Mach.nak_of_reason h4 h5]
    rfl
  · intro dt p seq first missing reason s hp hreceives hreason
    rw [exec_nakReceived]
    refine State.actUnit_of_found hp rfl ?_
    simp only [hreceives, if_true]
    exact Mach.nak_of_no_frames hreason p first missing
  · intro dt p bytes symbolError s m hp hm hreceives hfault
    rw [exec_rxFrameBad]
    refine State.actUnit_of_found hp hm ?_
    rw [Mach.rxBad_of_fault hreceives hfault, if_pos rfl]
  · intro dt p bytes symbolError s m hp hm hreceives hfault
    rw [exec_rxFrameBad]
    refine State.actUnit_of_found hp hm ?_
    rw [Mach.rxBad_of_fault hreceives hfault, if_neg (by decide)]
  · intro dt p bytes symbolError s hp hreceives
    rw [exec_rxFrameBad]
    refine State.actUnit_of_found hp rfl ?_
    simp [Mach.rxBad, hreceives]

/-! ### Statuses and tokens -/

@[simp] theorem Mach.frameStarts_pair (m : Mach) (p : Nat) (f : Frame) : (m.frameStarts p f).pair = m.pair := by
  unfold Mach.frameStarts
  split <;> rfl

@[simp] theorem Mach.depart_pair (m : Mach) (p : Nat) (f : Frame) : (m.depart p f).pair = m.pair :=
  Mach.frameStarts_pair _ _ _

/-- What leaves on a lane leaves the pair. -/
@[simp] theorem Mach.leave_pair (m : Mach) (p : Nat) : (m.leave p).pair = m.pair := by
  unfold Mach.leave
  dsimp only
  split
  · rfl
  · split
    · rw [Mach.depart_pair]; rfl
    · split <;> rfl

@[simp] theorem Mach.sendFrame_pair (m : Mach) (p : Nat) (body : FrameBody) (event : Option Nat) (gen : Nat)
    (resend applyAt : Bool) : (m.sendFrame p body event gen resend applyAt).pair = m.pair := by
  rw [Mach.sendFrame, Mach.leave_pair]; rfl

@[simp] theorem Mach.sendPlain_pair (m : Mach) (p : Nat) (body : FrameBody) : (m.sendPlain p body).pair = m.pair :=
  Mach.sendFrame_pair _ _ _ _ _ _ _

@[simp] theorem Mach.sendAck_pair (m : Mach) (p : Nat) : (m.sendAck p).pair = m.pair := by
  unfold Mach.sendAck
  dsimp only
  split
  · rfl
  · rw [← Mach.sendPlain_pair m p]; rfl

@[simp] theorem Mach.headerSeq_pair (m : Mach) (p seq : Nat) : (m.headerSeq p seq).pair = m.pair := by
  unfold Mach.headerSeq
  dsimp only
  split
  · rfl
  · rw [Mach.sendPlain_pair]; rfl

/-- A frame that is received in sequence leaves the pair, and so the module's identifier. -/
theorem Mach.received_moduleId (m : Mach) (p seq : Nat) : (m.received p seq).moduleId = m.moduleId := by
  have hpair : (m.received p seq).pair = m.pair := by
    rw [Mach.received, Mach.sendAck_pair, ← Mach.headerSeq_pair m p seq]; rfl
  rw [Mach.moduleId, Mach.paired, hpair, Mach.moduleId, Mach.paired]

/-- A grant, once the holder that it names is kept: where a claim waits, it is granted or denied (R450). -/
theorem Mach.tokenGrant_of_claim {m n : Mach} {p kind sentAt tries : Nat} {g : Grant}
    (hn : m.onLink p (fun l => { l with holder := if g.holder = 0 then 0 else if g.holder = m.moduleId then 1 else 2 }) = n)
    (hclaim : (n.port p).tx.claim = some (kind, sentAt, tries)) :
    (g.result ≤ 1 → kind ≠ 1 → g.lastFired = noLine → m.tokenGrant p g =
      ((n.onTx p (fun t => { t with token := true, claim := none, denied := 0 })).record
        0x0406 (p + 256 * g.result) (g.grantTime % 2 ^ 32)).takeoverDone)
    ∧ (1 < g.result → m.tokenGrant p g = (n.denied p kind g.result).takeoverDone) := by
  unfold Mach.tokenGrant
  simp only [hn, hclaim]
  refine ⟨fun hgranted hkind hfired => ?_, fun hdenied => ?_⟩
  · simp [hgranted, hkind, hfired]
  · simp [hdenied.not_ge]

/-- A claim without an answer, which no longer waits for the lane: it is resent up to three times, and then counts as denied
(R207, R453). -/
theorem Mach.tokenTimeout_of_claim {m : Mach} {p kind sentAt tries : Nat}
    (hclaim : (m.port p).tx.claim = some (kind, sentAt, tries))
    (hleft : (m.port p).tx.queue.any (fun f => bodyType f.body = 0x10) = false) : m.tokenTimeout p =
      if tries < 3 ∧ sentAt + 5000 ≤ m.now then
        (m.resend p { body := .tokenClaim kind m.moduleId, event := none, gen := 0, resend := true, applyAt := false
                      seq := (((m.port p).tx.unacked.filter (fun u => bodyType u.f.body = 0x10)).getLast?.map
                        (fun u => u.f.seq)).getD 0 }).onTx p (fun t => { t with claim := some (kind, m.now, tries + 1) })
      else if tries = 3 ∧ sentAt + 21000 ≤ m.now then (m.denied p kind 3).takeoverDone
      else m := by
  simp only [Mach.tokenTimeout, hclaim, hleft, Bool.and_eq_true, decide_eq_true_eq]
  rfl

/-- Settles O25: a status and a grant count on a port that is up; a claim goes by the number of its tries. -/
theorem statusesAndTokens : Obligations.StatusesAndTokens := by
  unfold Obligations.StatusesAndTokens
  refine ⟨⟨?_, ?_, ?_⟩, ?_, ?_, ?_⟩
  · intro dt p seq st s m hp hm hup
    rw [exec_statusReceived]
    exact State.actUnit_of_found hp hm (if_pos hup)
  · intro dt p s m hp hm hseen hawake hlate hfirst
    rw [exec_statusTimeout]
    refine State.actUnit_of_found hp hm ?_
    simp [Mach.statusTimeout, hseen, hawake, hlate, hfirst]
  · intro dt p s m hp hm hagain
    rw [exec_statusTimeout]
    refine State.actUnit_of_found hp hm ?_
    simp [Mach.statusTimeout, hagain]
  · intro dt p seq kind sentAt tries g s m n hp hm hup hn hclaim hgranted hkind hfired
    rw [exec_tokenGrantReceived]
    refine State.actUnit_of_found hp hm ((if_pos hup).trans ?_)
    rw [← Mach.received_moduleId m p seq] at hn
    exact (Mach.tokenGrant_of_claim hn hclaim).1 hgranted hkind hfired
  · intro dt p seq kind sentAt tries g s m n hp hm hup hn hclaim hdenied
    rw [exec_tokenGrantReceived]
    refine State.actUnit_of_found hp hm ((if_pos hup).trans ?_)
    rw [← Mach.received_moduleId m p seq] at hn
    exact (Mach.tokenGrant_of_claim hn hclaim).2 hdenied
  · intro dt p kind sentAt tries s m hp hm hup hclaim hleft
    refine ⟨fun us u hunacked htype htries hlate => ?_, fun htries hlate => ?_⟩
    · rw [exec_tokenClaimTimeout]
      refine State.actUnit_of_found hp hm ((if_pos hup).trans ?_)
      rw [Mach.tokenTimeout_of_claim hclaim hleft, if_pos ⟨htries, hlate⟩, hunacked]
      simp [htype]
    · rw [exec_tokenClaimTimeout]
      refine State.actUnit_of_found hp hm ((if_pos hup).trans ?_)
      rw [Mach.tokenTimeout_of_claim hclaim hleft, if_neg (by omega), if_pos ⟨htries, hlate⟩]

/-! ### Requests -/

/-- The oldest request whose answer is late is resent up to three times, and then the port trains anew (R207, R219). -/
theorem Mach.cfgTimeout_of_head {m : Mach} {p : Nat} {r : CfgReq} {rest : List CfgReq}
    (hqueue : (m.port p).tx.cfgQueue = r :: rest) (hlate : r.sentAt + 1000000 ≤ m.now)
    (hleft : (m.port p).tx.queue.any (fun f => f.body = cfgBody r.addr r.data && f.event = r.event) = false) :
    m.cfgTimeout p =
      if r.tries < 3 then
        (m.resend p { body := cfgBody r.addr r.data, seq := r.seq, event := r.event, gen := 0, resend := true
                      applyAt := r.event.isSome }).onTx p (fun t => { t with
          cfgQueue := t.cfgQueue.map (fun x => if x = r then { x with sentAt := m.now, tries := x.tries + 1 } else x) })
      else m.retrain p 3 := by
  have hfound : firstWhere (fun r => decide (r.sentAt + 1000000 ≤ m.now)
      && !(m.port p).tx.queue.any (fun f => f.body = cfgBody r.addr r.data && f.event = r.event)) (m.port p).tx.cfgQueue = some r := by
    rw [hqueue, firstWhere, List.filter_cons_of_pos (by simpa [hlate] using hleft), List.head?_cons]
  unfold Mach.cfgTimeout
  simp only [hfound]

/-- Settles O26: an answer counts on a port that is up; the oldest request goes by the number of its tries. -/
theorem requestsAreAnsweredOrResent : Obligations.RequestsAreAnsweredOrResent := by
  unfold Obligations.RequestsAreAnsweredOrResent
  refine ⟨?_, ?_, ?_⟩
  · intro dt p seq addr result write data s m hp hm hup
    rw [exec_cfgReplyReceived]
    refine (if_pos hp).trans (State.actUser_of_found hm ?_)
    exact if_pos hup
  · intro dt p seq addr result write data s m hp hm hdown
    have hskips : m.cfgReplyReceived p seq write addr result data = m := if_neg (by simp [hdown])
    have hrun : s.actUser dt (fun m => m.cfgReplyReceived p seq write addr result data) = s.becomesUser dt m :=
      State.actUser_of_found hm hskips
    rw [exec_cfgReplyReceived, execCfgReplyReceived, if_pos hp, hrun, State.becomesUser_eq (by rw [hm])]
  · intro dt p r rest s m hp hm hqueue hlate hleft
    refine ⟨fun htries => ?_, fun htries => ?_⟩
    · rw [exec_cfgTimeout]
      refine State.actUnit_of_found hp hm ?_
      rw [Mach.cfgTimeout_of_head hqueue hlate hleft, if_pos htries]
    · rw [exec_cfgTimeout]
      refine State.actUnit_of_found hp hm ?_
      rw [Mach.cfgTimeout_of_head hqueue hlate hleft, if_neg htries.not_gt]

end Sys2Proof.Machine

/-! Gates, cameras and the cycles of the colour loop (R248 to R254, R260 to R291, R300 to R330). -/

namespace Sys2Proof.Machine

/-! ### Gates -/

/-- GATE_CLEAR that passes its checks (R253, R254): an input that is still active refuses it. -/
theorem Mach.writeGateClear_of_admits {m : Mach} {w : Who} {v : Nat} (h : m.admits w 0x2152 0 v = true) :
    m.writeGateClear w v =
      if (setBits v 10).any (fun k => bit m.gate.present k) = true then m.reply w 0x2152 0 .notReady
      else
        let n := m.withStops (fun x => { x with gate := { x.gate with
          latched := maskOf ((setBits x.gate.latched 10).filter (fun k => !bit v k)) } })
        (if allPorts.any (fun p => m.gateCovers p && !n.gateCovers p) then
          n.record 0x050B (maskOf ((setBits v 10).filter (fun k => bit m.gate.latched k))) (m.webLine % 2 ^ 32) else n).acceptNum
            w 0x2152 0 0 2 v := by
  rw [Mach.writeGateClear, Mach.guardedNum_of_admits h]

/-- HEAD_REENABLE of a host that passes its checks (R248): the port must be stopped, and every head below LIMIT less the
hysteresis. -/
theorem Mach.writeHeadReenable_of_admits {m : Mach} {sid p : Nat} (hp : (m.locals (.host sid)).portSel = p)
    (h : m.admits (.host sid) 0x3025 0 1 = true) : m.writeHeadReenable (.host sid) 1 =
      if ((m.port p).fire.tempStop && m.allBelow p ((m.limits p).2.1 - (m.limits p).2.2)) = true then
        (((m.withStops (fun x => x.onFire p (fun f => { f with tempStop := false }))).sendVerdict
          (.headPolicy p 3 (m.queueNext (barOf p)))).record 0x0509 p (p32sat ((m.port p).fire.tempMax.getD (-32768)))).acceptNum
            (.host sid) 0x3025 0 p 1 1
      else m.reply (.host sid) 0x3025 0 .notReady := by
  subst hp
  unfold Mach.writeHeadReenable
  rw [Mach.guardedNum_of_admits (v := ((1 : Nat) : Int)) h]
  rfl

/-- Settles O27: the input's enable bit, the inputs that are active, and the readings of a port's heads decide. -/
theorem gatesLatchUntilCleared : Obligations.GatesLatchUntilCleared := by
  unfold Obligations.GatesLatchUntilCleared
  refine ⟨?_, ?_, ?_, ?_⟩
  · rintro dt k s m n hk hm rfl
    refine ⟨fun henabled => ?_, fun hdisabled => ?_⟩
    · rw [exec_gateInhibit]
      refine State.actUnit_of_found hk hm ?_
      simp only [Mach.gateInhibit, henabled, if_true]
    · rw [exec_gateInhibit]
      refine State.actUnit_of_found hk hm ?_
      simp only [Mach.gateInhibit, hdisabled, Bool.false_eq_true, if_false]
  · intro dt k s m hk hm
    rw [exec_gateInputInactive]
    exact State.actUnit_of_found hk hm rfl
  · intro dt sid v s m hm hadmits
    refine ⟨fun hactive => ?_, fun n hquiet hn => ?_⟩
    · rw [exec_gateClear]
      refine State.act_of_found hm ?_
      rw [Mach.writeGateClear_of_admits hadmits, if_pos hactive]
    · subst hn
      rw [exec_gateClear]
      refine State.act_of_found hm ?_
      rw [Mach.writeGateClear_of_admits hadmits, if_neg (by rw [hquiet]; decide)]
  · intro dt sid p s m hm hp hadmits hstopped
    refine ⟨fun hcool => ?_, fun hwarm => ?_⟩
    · rw [exec_headReenable]
      refine State.act_of_found hm ?_
      rw [Mach.writeHeadReenable_of_admits hp hadmits, if_pos (by rw [hstopped, hcool]; rfl)]
    · rw [exec_headReenable]
      refine State.act_of_found hm ?_
      rw [Mach.writeHeadReenable_of_admits hp hadmits, if_neg (by rw [hwarm]; simp)]

/-! ### Cameras -/

/-- CAM_SOFT_TRIGGER of the selected port is a trigger that is due now (R270). -/
theorem Mach.writeSoftTrigger_of_admits {m : Mach} {sid c : Nat} (hc : (m.locals (.host sid)).camSel = c)
    (h : m.admits (.host sid) 0x6011 0 1 = true) : m.writeSoftTrigger (.host sid) 1 =
      (m.triggerDue c noLine m.webLine 0xFF m.enc.raw (m.calTakes c)).acceptNum (.host sid) 0x6011 0 c 1 1 := by
  have hinst : m.instOf (.host sid) .cam = c := hc
  rw [Mach.writeSoftTrigger, Mach.guardedNum_of_admits (v := ((1 : Nat) : Int)) h]
  simp only [hinst, if_true]

/-- A trigger of a started port is issued, or skipped where it comes too soon (R268, R270). -/
theorem Mach.triggerDue_of_started {m : Mach} {c : Nat} (h : (m.cam c).phase = 2) (line seen index : Nat) (pos : Int) (cal : Bool) :
    m.triggerDue c line seen index pos cal =
      if m.trigTooSoon c = true then (m.recordAt 0x0601 (camParam c 0) 1 seen).camCount c 2 1
      else m.issue c line index pos cal true := by
  simp [Mach.triggerDue, h]

theorem Mach.frameDone_of_no_frame {m : Mach} {c : Nat} (h : (m.cam c).cur = none) (short : Bool) : m.frameDone c short = m := by
  unfold Mach.frameDone
  dsimp only
  rw [h]

/-- A frame starts where none is in progress: the oldest trigger gets it, or it is recorded as unexpected (R273). -/
theorem Mach.frameStart_of_no_frame {m : Mach} {c : Nat} (hphase : (m.cam c).phase ≠ 0) (hcur : (m.cam c).cur = none) :
    m.frameStart c = match (m.cam c).shots with
      | [] => (m.record 0x0606 c 1).camCount c 7 1
      | x :: rest => m.onCam c (fun y => { y with
          shots := rest, cur := some x, rows := [], rowCount := 0, lastRow := m.now, dropFrom := none }) := by
  unfold Mach.frameStart
  rw [Mach.frameDone_of_no_frame hcur]
  exact if_neg hphase

/-- A row of full length, without errors, that the writer takes is kept (R273, R291). -/
theorem Mach.rowReceived_of_good {m : Mach} {c : Nat} {x : Shot} {pixels : List Nat} (hcur : (m.cam c).cur = some x)
    (hrows : (m.cam c).rowCount < (m.sensor c).rows) (hlength : pixels.length = (m.sensor c).width)
    (hfree : bit m.mem.quarantine (8 + c) = false) : m.rowReceived c pixels true true =
      m.onCam c (fun y => { ((y.flag 1 false).flag 2 false).flag 3 false with
        rows := y.rows ++ [some pixels], rowCount := y.rowCount + 1, lastRow := m.now, dropFrom := y.dropFrom }) := by
  have htake : pixels.take (m.sensor c).width = pixels := by rw [← hlength, List.take_length]
  simp only [Mach.rowReceived, hcur, if_neg hrows.not_ge, htake, hlength, hfree]
  simp

theorem Mach.rowReceived_of_no_frame {m : Mach} {c : Nat} (h : (m.cam c).cur = none) (pixels : List Nat) (ok keeps : Bool) :
    m.rowReceived c pixels ok keeps = m := by
  simp [Mach.rowReceived, h]

/-- The strobe of a camera without a frame ends, and nothing is shifted (R266, R271). -/
theorem Mach.flashOver_of_no_frame {m : Mach} {c : Nat} (hshots : (m.cam c).shots = []) (hcur : (m.cam c).cur = none) :
    m.flashOver c = m.onCam c (fun x => { x with flashEnd := none, flashMid := none }) := by
  refine Mach.onCam_congr ?_
  simp [hshots, hcur]

/-- Settles O28: a pulse ends when its time has come; a packet counts on the camera's own channel, and a frame by the triggers
that wait for it. -/
theorem camerasTakeFrames : Obligations.CamerasTakeFrames := by
  unfold Obligations.CamerasTakeFrames
  refine ⟨⟨?_, ?_, ?_, ?_, ?_⟩, ?_, ?_, ?_, ?_, ?_, ?_, ?_, ?_, ?_, ?_⟩
  · intro dt c e s m hc hm hend hover
    rw [exec_trigPulseEnd]
    refine State.actUnit_of_found hc hm ?_
    simp [hend, hover]
  · intro dt c e s m hc hm hat hover
    rw [exec_flashStart]
    refine State.actUnit_of_found hc hm ?_
    simp [hat, hover]
  · intro dt c e s m hc hm hend hover hshots hcur
    rw [exec_flashEnd]
    refine State.actUnit_of_found hc hm ?_
    simp [hend, hover, Mach.flashOver_of_no_frame hshots hcur]
  · intro dt c e s m hc hm hend hearly
    rw [exec_flashEnd]
    refine State.actUnit_of_found hc hm ?_
    simp [hend, hearly.not_ge]
  · intro dt sid c s m hm hc hadmits hphase
    refine ⟨fun hready => ?_, fun hsoon => ?_⟩
    · rw [exec_camSoftTrigger]
      refine State.act_of_found hm ?_
      rw [Mach.writeSoftTrigger_of_admits hc hadmits, Mach.triggerDue_of_started hphase, if_neg (by rw [hready]; decide)]
    · rw [exec_camSoftTrigger]
      refine State.act_of_found hm ?_
      rw [Mach.writeSoftTrigger_of_admits hc hadmits, Mach.triggerDue_of_started hphase, if_pos hsoon]
  · intro dt c vc wrong x rest s m hc hm htakes hphase hcur hshots
    rw [exec_csiFrameStart]
    refine State.actUnit_of_found hc hm ((if_pos htakes).trans ?_)
    rw [Mach.frameStart_of_no_frame hphase hcur, hshots]
  · intro dt c vc wrong s m hc hm htakes hphase hcur hshots
    rw [exec_csiFrameStart]
    refine State.actUnit_of_found hc hm ((if_pos htakes).trans ?_)
    rw [Mach.frameStart_of_no_frame hphase hcur, hshots]
  · intro dt c vc type wrong pixels x s m hc hm htakes htype hcur hrows hlength hfree
    rw [exec_csiRowReceived]
    refine State.actUnit_of_found hc hm ((if_pos (by simp [htakes, htype])).trans ?_)
    exact Mach.rowReceived_of_good hcur hrows hlength hfree
  · intro dt c vc type wrong pixels ok keeps s m hc hm hcur
    rw [exec_csiRowReceived]
    refine State.actUnit_of_found hc hm ?_
    simp [Mach.rowReceived_of_no_frame hcur]
  · intro dt c vc wrong s hc htakes
    rw [exec_csiFrameEnd]
    exact State.actUnit_of_found hc rfl (if_pos htakes)
  · intro dt c vc type wrong pixels ok keeps s m hc hm htakes
    refine ⟨?_, ?_, ?_⟩
    · rw [exec_csiFrameStart]
      refine State.actUnit_of_found hc hm ?_
      simp [htakes]
    · rw [exec_csiRowReceived]
      refine State.actUnit_of_found hc hm ?_
      simp [htakes]
    · rw [exec_csiFrameEnd]
      refine State.actUnit_of_found hc hm ?_
      simp [htakes]
  · exact fun m c short hcur => Mach.frameDone_of_no_frame hcur short
  · intro dt c x rest s m hc hm hshots hlate hcal
    rw [exec_fsTimeout]
    refine State.actUnit_of_found hc hm ?_
    simp [Mach.fsTimeout, hshots, hlate.not_gt, hcal]
  · intro dt c s m hc hm hlate
    rw [exec_feTimeout]
    exact State.actUnit_of_found hc hm (if_pos hlate)
  · intro dt c s m hc hm hearly
    rw [exec_feTimeout]
    exact State.actUnit_of_found hc hm (if_neg hearly.not_ge)

/-- A write of a camera's configuration that passes its checks restarts the port, where what it stores fits (R260, R264). -/
theorem Mach.writeCamConfig_of_admits {m : Mach} {sid idx sub c : Nat} {data : Bytes} {vals : List (Nat × Fld × Bytes)}
    (hc : (m.locals (.host sid)).camSel = c) (h : m.admitsBytes (.host sid) idx sub (writeLevels idx sub) data vals = true) :
    m.writeCamConfig (.host sid) idx sub data =
      if idx = 0x6001 ∧ (m.storeVals idx c vals).camFits c = false then m.reply (.host sid) idx sub .outOfRange
      else ((m.storeVals idx c vals).camRestart c).accept (.host sid) idx sub c data := by
  have hinst : m.instOf (.host sid) .cam = c := hc
  rw [Mach.writeCamConfig, Mach.guardedBytes_of_admits h]
  simp only [hinst, Bool.and_eq_true, decide_eq_true_eq, Bool.not_eq_true']

/-- CAM_EXPOSURE_COMMIT of the selected port (R277): the set's own identifier refuses it, and a bus or a calibration that is
busy. -/
theorem Mach.writeExposureCommit_of_admits {m : Mach} {sid c : Nat} (hc : (m.locals (.host sid)).camSel = c)
    (h : m.admits (.host sid) 0x6019 0 1 = true) : m.writeExposureCommit (.host sid) 1 =
      if (m.shadowSet c).setId = (m.cam c).inEffect.setId then m.reply (.host sid) 0x6019 0 .outOfRange
      else if (m.cal.phase != 0 || (m.cam c).expState = 1 || (m.cam c).expState = 2 || !(m.cam c).bus.isEmpty) = true then
        m.reply (.host sid) 0x6019 0 .busy
      else ((m.onCam c (fun y => { y with
        expState := 1, pendingSet := some (m.shadowSet c), effectFrame := none })).busStart c 1 (m.group c (m.shadowSet c))).acceptNum
          (.host sid) 0x6019 0 c 1 1 := by
  have hinst : m.instOf (.host sid) .cam = c := hc
  rw [Mach.writeExposureCommit, Mach.guardedNum_of_admits (v := ((1 : Nat) : Int)) h]
  simp only [hinst, one_ne_zero, if_false]

/-- CAM_STREAM_COMMIT of the selected port, whose crops fit (R290). -/
theorem Mach.writeStreamCommit_of_admits {m : Mach} {sid c : Nat} (hc : (m.locals (.host sid)).camSel = c)
    (h : m.admits (.host sid) 0x6032 0 1 = true) (ha : m.cropFits c (m.nat 0x6030 1 c) (m.nat 0x6030 2 c) = true)
    (hb : m.cropFits c (m.nat 0x6030 4 c) (m.nat 0x6030 5 c) = true) : m.writeStreamCommit (.host sid) 1 =
      (m.onCam c (fun x => { x with nextStreams := some (m.now, m.streamShadow c) })).acceptNum (.host sid) 0x6032 0 c 1 1 := by
  have hinst : m.instOf (.host sid) .cam = c := hc
  rw [Mach.writeStreamCommit, Mach.guardedNum_of_admits (v := ((1 : Nat) : Int)) h]
  simp only [hinst, one_ne_zero, if_false, ha, hb, Bool.and_self, if_true]

/-- Settles O29: each write is that of the selected camera; what the stored values and the set's identifier say decides. -/
theorem cameraSettingsTakeEffect : Obligations.CameraSettingsTakeEffect := by
  unfold Obligations.CameraSettingsTakeEffect
  refine ⟨?_, ?_, ?_, ?_, ?_, ?_⟩
  · intro dt sid idx sub c data s m vals hm hc hidx hadmits
    have hrange : (0x6001 ≤ idx && idx ≤ 0x6003) = true := by rcases hidx with rfl | rfl <;> decide
    have hother : ¬(idx = 0x6001 ∧ (m.storeVals idx c vals).camFits c = false) := by omega
    rw [exec_camConfigWrite]
    refine State.act_of_found hm ((if_pos hrange).trans ?_)
    rw [Mach.writeCamConfig_of_admits hc hadmits, if_neg hother]
  · intro dt sid sub c data s m vals hm hc hadmits
    rw [exec_camConfigWrite]
    refine State.act_of_found hm ((if_pos (by decide)).trans ?_)
    rw [Mach.writeCamConfig_of_admits hc hadmits]
    cases (m.storeVals 0x6001 c vals).camFits c <;> rfl
  · intro dt c acked s hc
    rw [exec_camBusTransferDone]
    exact (if_pos hc).trans (State.actUser_of_found rfl rfl)
  · intro dt sid c s m hm hc hadmits hset hcal hwaits happlies hbus
    rw [exec_camExposureCommit]
    refine State.act_of_found hm ?_
    rw [Mach.writeExposureCommit_of_admits hc hadmits, if_neg hset, if_neg (by simp [hcal, hwaits, happlies, hbus])]
  · intro dt sid c s m hm hc hadmits hset
    rw [exec_camExposureCommit]
    refine State.act_of_found hm ?_
    rw [Mach.writeExposureCommit_of_admits hc hadmits, if_pos hset]
  · intro dt sid c s m hm hc hadmits ha hb
    rw [exec_camStreamCommit]
    exact State.act_of_found hm (Mach.writeStreamCommit_of_admits hc hadmits ha hb)

/-! ### The colour loop -/

/-- Settles O30: a cycle ends by the time since its last frame; each command of the loop is a write that passes its checks. -/
theorem loopCyclesAndCommands : Obligations.LoopCyclesAndCommands := by
  unfold Obligations.LoopCyclesAndCommands
  refine ⟨⟨?_, ?_, ?_, ?_⟩, ?_, ?_, ?_, ?_, ?_⟩
  · rintro dt a t s m m1 m2 items r hm hfrom hcomputing hintime hitems rfl rfl
    rw [exec_loopComputeDone]
    refine State.act_of_found hm ?_
    simp only [Mach.loopComputed, hfrom, hcomputing, if_neg hintime.not_gt, hitems]
  · intro dt a t s m hm hfrom hcomputing hlate
    rw [exec_loopComputeOverrun]
    refine State.act_of_found hm ?_
    simp only [Mach.loopOverrun, hfrom, hcomputing, if_pos hlate]
  · intro dt s m hm hidle
    refine ⟨?_, ?_⟩
    · rw [exec_loopComputeDone]
      refine State.act_of_found hm ?_
      cases hfrom : m.loop.cycleFrom <;> simp [Mach.loopComputed, hfrom, hidle]
    · rw [exec_loopComputeOverrun]
      refine State.act_of_found hm ?_
      cases hfrom : m.loop.cycleFrom <;> simp [Mach.loopOverrun, hfrom, hidle]
  · intro dt p s m hm hretry
    rw [exec_loopSeamRetry]
    refine State.act_of_found hm ?_
    simp only [Mach.loopRetry, hretry]
  · intro dt sid v s m hm hadmits
    refine ⟨?_, rfl⟩
    rw [exec_loopModeWrite]
    refine State.act_of_found hm ?_
    rw [Mach.writeLoopMode, Mach.guardedNum_of_admits hadmits]
  · intro dt sid v s m hm hadmits
    rw [exec_loopBarReset]
    refine State.act_of_found hm ?_
    rw [Mach.writeBarReset, Mach.guardedNum_of_admits hadmits]
  · intro dt sid s m hm hadmits
    rw [exec_loopBaselineSave]
    refine State.act_of_found hm ?_
    rw [Mach.writeBaselineSave, Mach.guardedNum_of_admits (v := ((1 : Nat) : Int)) hadmits, if_pos rfl]
  · intro dt s m hm hdue hlearns
    rw [exec_baselineSaveTimer]
    refine State.act_of_found hm ?_
    simp [Mach.baselineTimer, hdue, hlearns]
  · intro dt s m hm hearly
    rw [exec_baselineSaveTimer]
    refine State.act_of_found hm ?_
    simp [Mach.baselineTimer, hearly.not_ge]

end Sys2Proof.Machine

/-! Engines, semaphores and the debug port (R404 to R415, R421 to R427). -/

namespace Sys2Proof.Machine

/-! ### Engines and the user engine -/

/-- An ID that no longer waits is taken out of the waiters of every semaphore that the loop has reached, and others keep
theirs. -/
theorem Mach.waiters_foldl_filter (l : List Nat) (m : Mach) (id q : Nat) :
    ((l.foldl (fun acc i => acc.onSem i (fun x => { x with waiters := x.waiters.filter (fun y => y.1 != id) })) m).sem q).waiters
      = if q ∈ l then (m.sem q).waiters.filter (fun y => y.1 != id) else (m.sem q).waiters := by
  induction l generalizing m with
  | nil => rfl
  | cons i l ih =>
    rw [List.foldl_cons, ih]
    by_cases hi : q = i
    · subst hi; simp
    · simp [Mach.sem_onSem_other m hi, hi]

/-- An ID that no longer waits is in no list of waiters (R404). -/
theorem Mach.waiters_noLongerWaits (m : Mach) (id : Nat) {q : Nat} (hq : q < 64) :
    ((m.noLongerWaits id).sem q).waiters = (m.sem q).waiters.filter (fun y => y.1 != id) :=
  (Mach.waiters_foldl_filter (List.range 64) m id q).trans (if_pos (List.mem_range.mpr hq))

/-- An image that passes the checks of a write goes by its signature (R407). -/
theorem Mach.writeUserImage_of_admits {m : Mach} {w : Who} {image digest : Bytes} {vals : List (Nat × Fld × Bytes)}
    (h : m.admitsBytes w 0x9020 0 (writeLevels 0x9020 0) image vals = true)
    (hdigest : sha256 (image.take (image.length - 64)) = digest) : m.writeUserImage w image =
      if [5, 6, 7, 8].any (fun i => ecdsaOk (m.blob 0x1210 i 0) digest (image.drop (image.length - 64))) = true then
        ((((m.stopUser.setRun false).onUser (fun u => { u with image := image, digest := digest })).queueItem
          { kind := 4, key := 0, blobs := [(0, image)] }).record 0x0908 (leAt digest 0 4) image.length).accept w 0x9020 0 0 image
      else m.reply w 0x9020 0 .authFailed := by
  subst hdigest
  rw [Mach.writeUserImage, Mach.guardedBytes_of_admits h]

/-- USER_CONTROL (R407): RUN starts an engine that does not run, and its clearing stops it. -/
theorem Mach.writeUserControl_of_admits {m : Mach} {w : Who} {v : Nat} (h : m.admits w 0x9021 0 v = true) :
    (bit v 0 = true → m.userRun = false → m.writeUserControl w v = ((m.setNum 0x9021 0 0 v).startUser).acceptNum w 0x9021 0 0 1 v)
    ∧ (bit v 0 = false → m.writeUserControl w v = ((m.setNum 0x9021 0 0 v).stopUser).acceptNum w 0x9021 0 0 1 v) := by
  rw [Mach.writeUserControl, Mach.guardedNum_of_admits h]
  refine ⟨fun hrun hold => ?_, fun hclear => ?_⟩
  · simp [hrun, hold]
  · simp [hclear]

/-- USER_MAILBOX_IN (R409): eight messages fill it, and only a running user engine takes one. -/
theorem Mach.writeUserMailbox_of_admits {m : Mach} {w : Who} {msg : Bytes} {vals : List (Nat × Fld × Bytes)}
    (h : m.admitsBytes w 0x9024 0 (writeLevels 0x9024 0) msg vals = true) : m.writeUserMailbox w msg =
      if 8 ≤ m.cpu.user.mailIn.length then m.reply w 0x9024 0 .busy
      else if m.userRuns = false then m.reply w 0x9024 0 .notReady
      else (m.onUser (fun u => { u with mailIn := u.mailIn ++ [msg] })).accept w 0x9024 0 0 msg := by
  rw [Mach.writeUserMailbox, Mach.guardedBytes_of_admits h]
  simp only [Bool.not_eq_true']

/-- Settles O32: an engine's state, a signature, the RUN bit and the length of a queue decide. -/
theorem enginesFaultAndTheUserEngineRuns : Obligations.EnginesFaultAndTheUserEngineRuns := by
  unfold Obligations.EnginesFaultAndTheUserEngineRuns
  refine ⟨⟨?_, ?_, ?_, ?_⟩, ⟨?_, ?_, ?_, ?_, ?_⟩, ?_, ?_, ?_⟩
  · intro dt n cause s m hn hm hstate hlow hhigh
    rw [exec_engineFault]
    refine State.actUnit_of_found hn hm (if_pos ?_)
    rcases hstate with h | h | h <;> simp [h, hlow, hhigh]
  · exact fun m n q hq => m.waiters_noLongerWaits n hq
  · intro dt s m hm hstopped hfaulted
    rw [exec_supervisorWatchdog]
    exact State.act_of_found hm (if_neg (by simp [hstopped, hfaulted]))
  · intro dt n cause s m hn hm hstate
    rw [exec_engineFault]
    exact State.actUnit_of_found hn hm (if_neg (by simp [hstate]))
  · intro dt sid image s m vals digest hm hadmits hdigest
    refine ⟨fun hsigned => ?_, fun hunsigned => ?_⟩
    · rw [exec_userImage]
      refine State.act_of_found hm ?_
      rw [Mach.writeUserImage_of_admits hadmits hdigest, if_pos hsigned]
    · rw [exec_userImage]
      refine State.act_of_found hm ?_
      rw [Mach.writeUserImage_of_admits hadmits hdigest, if_neg (by rw [hunsigned]; decide)]
  · intro dt sid v s m hm hadmits
    obtain ⟨hstart, hstop⟩ := Mach.writeUserControl_of_admits hadmits
    refine ⟨fun hrun hold => ?_, fun hclear => ?_⟩
    · rw [exec_userRun]
      exact State.actUser_of_found hm (hstart hrun hold)
    · rw [exec_userRun]
      exact State.actUser_of_found hm (hstop hclear)
  · intro dt s m hm
    refine ⟨fun hover => ?_, fun hintime => ?_⟩
    · rw [exec_userWatchdog]
      exact State.actUser_of_found hm (if_pos (by simp [hover]))
    · rw [exec_userWatchdog]
      exact State.actUser_of_found hm (if_neg (by simp [hintime]))
  · intro dt s m hm hruns
    rw [exec_userWdtRestart]
    exact State.act_of_found hm (if_pos hruns)
  · intro dt idx sub consume data s m hm hruns
    refine ⟨?_, ?_⟩
    · rw [exec_userDictRequest]
      refine State.actUser_of_found hm ?_
      simp [hruns]
    · rw [exec_userDictRequest]
      refine State.actUser_of_found hm ?_
      simp [hruns]
  · intro dt sid msg s m vals hm hadmits
    refine ⟨fun hroom hruns => ?_, fun hfull => ?_, fun hroom hstopped => ?_⟩
    · rw [exec_userMailboxIn]
      refine State.act_of_found hm ?_
      rw [Mach.writeUserMailbox_of_admits hadmits, if_neg hroom.not_ge, if_neg (by simp [hruns])]
    · rw [exec_userMailboxIn]
      refine State.act_of_found hm ?_
      rw [Mach.writeUserMailbox_of_admits hadmits, if_pos hfull]
    · rw [exec_userMailboxIn]
      refine State.act_of_found hm ?_
      rw [Mach.writeUserMailbox_of_admits hadmits, if_neg hroom.not_ge, if_pos hstopped]
  · intro dt msg s m n hm hruns hlow hhigh
    have hsome : msg ≠ [] := by rintro rfl; simp at hlow
    refine ⟨fun hroom hn => ?_, fun hfull => ?_⟩
    · subst hn
      rw [exec_userMailboxPost]
      refine State.act_of_found hm ?_
      simp only [hruns, hroom.not_ge]
      simp [hsome, hhigh]
    · rw [exec_userMailboxPost]
      refine State.act_of_found hm ?_
      simp [hruns, hsome, hhigh.not_gt, hfull]
  · intro dt msg rest s m hm hruns hqueue
    rw [exec_userMailboxRead]
    refine State.act_of_found hm ((if_neg (by simp [hruns])).trans (Mach.onUser_congr ?_))
    simp [hqueue]

/-! ### Semaphores -/

/-- A read of TRY or WAIT (R411): what is not held is granted, and another owner's semaphore is answered or waited for. -/
theorem Mach.semRead_of_free {m : Mach} {q : Nat} (h : (m.sem q).state ≠ 1) (id : Nat) (wait : Bool) :
    m.semRead q id wait = m.semGrant q id := by
  simp [Mach.semRead, h]

theorem Mach.semRead_of_held {m : Mach} {q id : Nat} (h : (m.sem q).state = 1) (hother : (m.sem q).owner ≠ id) (wait : Bool) :
    m.semRead q id wait = if wait then m.semQueue q id else m.semAnswer id (semWord 2 (m.sem q) m.now) := by
  simp [Mach.semRead, h, hother]

/-- Only the owner of a held semaphore acts on it (R411, R412). -/
theorem Mach.owned_of_owner {m : Mach} {q id : Nat} (h : (m.sem q).state = 1) (howner : (m.sem q).owner = id) (f : Mach → Mach) :
    m.owned q id f = f m := by
  simp [Mach.owned, h, howner]

/-- Another ID's operation is recorded and does nothing (R411). -/
theorem Mach.owned_of_other {m : Mach} {q id : Nat} (hother : (m.sem q).owner ≠ id) (f : Mach → Mach) :
    m.owned q id f = m.record 0x0907 q id := by
  simp [Mach.owned, hother]

/-- A semaphore that leaves HELD with no waiter has no owner (R411). -/
theorem Mach.semLeave_of_no_waiters {m : Mach} {q : Nat} (h : (m.sem q).waiters = []) (abandoned : Bool) :
    m.semLeave q abandoned = m.onSem q (fun x => { x with
      state := if abandoned then 2 else 0, recovering := false, lastOwner := x.owner, owner := 14, leaseEnd := 0, frozen := none }) := by
  simp [Mach.semLeave, h, longestWaiter]

/-- Settles O33: the semaphore's state and owner decide each operation; a grant and a release change that semaphore alone. -/
theorem semaphoresAreGrantedAndReleased : Obligations.SemaphoresAreGrantedAndReleased := by
  unfold Obligations.SemaphoresAreGrantedAndReleased
  refine ⟨⟨?_, ?_, ?_⟩, ?_, ?_⟩
  · intro dt n q s m hn hq hm hruns
    refine ⟨fun hfree => ⟨?_, ?_⟩, fun hheld hother => ⟨?_, ?_, ?_, ?_, ?_⟩, fun hheld howner => ⟨?_, ?_, ?_⟩⟩
    · rw [exec_semTry]
      exact State.actSem_of_found hn hq hm hruns (Mach.semRead_of_free hfree n false)
    · rw [exec_semWait]
      exact State.actSem_of_found hn hq hm hruns (Mach.semRead_of_free hfree n true)
    · rw [exec_semTry]
      exact State.actSem_of_found hn hq hm hruns (Mach.semRead_of_held hheld hother false)
    · rw [exec_semWait]
      exact State.actSem_of_found hn hq hm hruns (Mach.semRead_of_held hheld hother true)
    · rw [exec_semRelease]
      exact State.actSem_of_found hn hq hm hruns (Mach.owned_of_other hother _)
    · rw [exec_semRenew]
      exact State.actSem_of_found hn hq hm hruns (Mach.owned_of_other hother _)
    · rw [exec_semDeclareRecovery]
      exact State.actSem_of_found hn hq hm hruns (Mach.owned_of_other hother _)
    · rw [exec_semRelease]
      exact State.actSem_of_found hn hq hm hruns (Mach.owned_of_owner hheld howner _)
    · rw [exec_semRenew]
      exact State.actSem_of_found hn hq hm hruns (Mach.owned_of_owner hheld howner _)
    · rw [exec_semDeclareRecovery]
      exact State.actSem_of_found hn hq hm hruns (Mach.owned_of_owner hheld howner _)
  · intro dt q s m hq hm hheld hmoves hover
    have hends : m.leaseExpired q = Mach.leaseFault ((m.record 0x0903 q (m.sem q).owner).semLeave q true) (m.sem q).owner :=
      if_pos (by simp [hheld, hmoves, hover])
    rw [exec_semLeaseExpired]
    exact (if_pos hq).trans (State.actUser_of_found hm hends)
  · intro dt q s m hq hm hearly
    have hstays : m.leaseExpired q = m := if_neg (by simp [hearly.not_ge])
    rw [exec_semLeaseExpired]
    exact (if_pos hq).trans (State.actUser_of_found hm hstays)
  · intro m q id
    refine ⟨?_, fun r hr => ?_⟩
    · rw [Mach.sem_semGrant]
      simp
    · rw [Mach.semGrant, Mach.sem_semAnswer, Mach.sem_onSem_other m hr]
  · intro m q abandoned hnone
    rw [Mach.semLeave_of_no_waiters hnone]
    exact ⟨Mach.sem_onSem m q _, fun r hr => Mach.sem_onSem_other m hr _⟩

/-! ### The debug port: unlocking and boundary scan -/

/-- DBG_CHALLENGE where the port may be unlocked (R422). -/
theorem Mach.dbgChallenge_of_permitted {m : Mach} {scope : Nat} (hlock : m.sys.debugLock = 0) (hpermit : m.nat 0x9041 0 0 ≠ 0)
    (hblocked : m.cpu.dbg.blocked = false) (hscope : scope = 1 ∨ scope = 2) : m.dbgChallenge scope =
      Mach.emit ((m.onDbg (fun d => { d with ir := 0x10, driven := 0 })).drawn.onDbg (fun d => { d with
        nonce := m.randomBytes 32, challenge := m.challengeBytes (m.randomBytes 32) scope, scope := scope }))
          (.tap (m.challengeBytes (m.randomBytes 32) scope)) := by
  unfold Mach.dbgChallenge
  exact if_neg (by rcases hscope with rfl | rfl <;> simp [hlock, hpermit, hblocked])

theorem Mach.dbgChallenge_of_forbidden {m : Mach}
    (h : m.sys.debugLock ≠ 0 ∨ m.nat 0x9041 0 0 = 0 ∨ m.cpu.dbg.blocked = true) (scope : Nat) :
    m.dbgChallenge scope = m.onDbg (fun d => { d with ir := 0x10, driven := 0, challenge := [] }) := by
  unfold Mach.dbgChallenge
  refine if_pos ?_
  rcases h with h | h | h <;> simp [h]

/-- DBG_RESPONSE to a challenge of its scope, by a key of it (R422, R423): the signature decides. -/
theorem Mach.dbgResponse_of_key {m : Mach} {scope i : Nat} {key : Bytes} (hblocked : m.cpu.dbg.blocked = false)
    (hchallenge : m.cpu.dbg.challenge ≠ []) (hlock : m.sys.debugLock = 0) (hscope : scope = m.cpu.dbg.scope)
    (hkey : m.hashSlot (scopeSlots scope) key = some i) (sig : Bytes) : m.dbgResponse scope key sig =
      if ecdsaOk key (sha256 m.cpu.dbg.challenge) sig = true then
        (((m.onDbg (fun d => { d with ir := 0x11, driven := 0 })).onDbg (fun d => { d with unlocked := scope })).record
          0x0909 scope i).trailRec 0x0B0A scope i
      else (m.onDbg (fun d => { d with ir := 0x11, driven := 0 })).dbgFailed scope := by
  have hslot : (if (m.cpu.dbg.challenge.isEmpty || m.sys.debugLock != 0 || scope != m.cpu.dbg.scope) = true then none
      else m.hashSlot (scopeSlots scope) key) = some i := by
    rw [if_neg (by simp [hchallenge, hlock, hscope]), hkey]
  unfold Mach.dbgResponse
  dsimp only
  rw [if_neg (by rw [hblocked]; decide), hslot]

/-- Settles O35: the lock, the permission and the block decide on a challenge, the key and its signature on a response, and
the unlock on what drives the lands. -/
theorem theDebugPortUnlocksAndScans : Obligations.TheDebugPortUnlocksAndScans := by
  unfold Obligations.TheDebugPortUnlocksAndScans
  refine ⟨⟨?_, ?_, ?_, ?_⟩, ?_, ?_, ?_, ?_, ?_, ?_⟩
  · intro dt scope s m hm hlock hpermit hblocked hscope
    rw [exec_dbgChallenge]
    exact State.act_of_found hm (Mach.dbgChallenge_of_permitted hlock hpermit hblocked hscope)
  · intro dt scope s m hm hforbidden
    rw [exec_dbgChallenge]
    exact State.act_of_found hm (Mach.dbgChallenge_of_forbidden hforbidden scope)
  · intro dt scope i key sig s m hm hblocked hchallenge hlock hscope hkey
    refine ⟨fun hgood => ?_, fun hbad => ?_⟩
    · rw [exec_dbgResponse]
      refine State.act_of_found hm ?_
      rw [Mach.dbgResponse_of_key hblocked hchallenge hlock hscope hkey, if_pos hgood]
      rfl
    · rw [exec_dbgResponse]
      refine State.act_of_found hm ?_
      rw [Mach.dbgResponse_of_key hblocked hchallenge hlock hscope hkey, if_neg (by rw [hbad]; decide)]
  · intro dt scope key sig s m hm hblocked
    rw [exec_dbgResponse]
    exact State.act_of_found hm (if_pos hblocked)
  · intro dt code s hcode
    rw [exec_tapBypass]
    exact State.act_of_found rfl (if_neg (by rw [hcode]; decide))
  · intro dt s
    rw [exec_tapIdcode]
    exact State.act_of_found rfl rfl
  · intro dt preload lands s
    rw [exec_tapSamplePreload]
    exact State.act_of_found rfl rfl
  · intro dt s m hm hunlocked
    have hdrive (code how : Nat) : m.tapDrive code how = m.onDbg (fun d => { d with ir := code, driven := how }) :=
      Mach.onDbg_congr (if_neg hunlocked)
    refine ⟨?_, ?_, ?_⟩
    · rw [exec_tapExtest]
      exact State.act_of_found hm (hdrive 0x00 1)
    · rw [exec_tapClamp]
      exact State.act_of_found hm (hdrive 0x03 2)
    · rw [exec_tapHighz]
      exact State.act_of_found hm (hdrive 0x04 3)
  · intro dt s m hm hlocked
    have hbypass (code how : Nat) : m.tapDrive code how = m.onDbg (fun d => { d with ir := 0xFF, driven := 0 }) :=
      Mach.onDbg_congr (if_pos hlocked)
    refine ⟨?_, ?_, ?_⟩
    · rw [exec_tapExtest]
      exact State.act_of_found hm (hbypass 0x00 1)
    · rw [exec_tapClamp]
      exact State.act_of_found hm (hbypass 0x03 2)
    · rw [exec_tapHighz]
      exact State.act_of_found hm (hbypass 0x04 3)
  · intro dt s
    rw [exec_tapReset]
    exact State.act_of_found rfl rfl

/-! ### The debug port: engines, memory and semaphores -/

/-- A debug command of an unlocked port, in its scope, acts on the module with DEBUG_CMD selected (R421, R424). -/
theorem Mach.dbgCommand_of_allowed {m n : Mach} (hunlocked : m.cpu.dbg.unlocked ≠ 0)
    (hn : m.onDbg (fun d => { d with ir := 0x20, driven := 0, access := none }) = n) {allowed : Bool} (hallowed : allowed = true)
    (f : Mach → Mach) : m.dbgCommand allowed f = f n := by
  subst hn hallowed
  exact if_neg hunlocked

theorem Mach.dbgCommand_of_locked {m : Mach} (hlocked : m.cpu.dbg.unlocked = 0) (allowed : Bool) (f : Mach → Mach) :
    m.dbgCommand allowed f = m.onDbg (fun d => { d with ir := 0xFF, driven := 0 }) :=
  if_pos hlocked

/-- Outside the scope of the unlock a command is refused with status 1 (R424). -/
theorem Mach.dbgCommand_of_not_allowed {m : Mach} (hunlocked : m.cpu.dbg.unlocked ≠ 0) {allowed : Bool}
    (hallowed : allowed = false) (f : Mach → Mach) : m.dbgCommand allowed f =
      (m.onDbg (fun d => { d with ir := 0x20, driven := 0, access := none })).dbgStatus 1 0 := by
  subst hallowed
  exact if_neg hunlocked

theorem Mach.whenHalted_of_halted {m : Mach} {n : Nat} (h : (m.engine n).state = 2) (f : Mach → Mach) : m.whenHalted n f = f m :=
  if_pos h

theorem Mach.whenHalted_of_not_halted {m : Mach} {n : Nat} (h : (m.engine n).state ≠ 2) (f : Mach → Mach) :
    m.whenHalted n f = m.dbgStatus 3 0 :=
  if_neg h

/-- Settles O36: a command in scope acts on the module with DEBUG_CMD selected, and there by the engine's state. -/
theorem theDebugPortHaltsAndSteps : Obligations.TheDebugPortHaltsAndSteps := by
  unfold Obligations.TheDebugPortHaltsAndSteps
  refine ⟨?_, ?_⟩
  · intro dt n s m hn hunlocked hscope hm
    refine ⟨fun hstate => ?_, fun hhalted => ⟨?_, ?_, fun reg hreg => ?_, fun reg data hreg => ?_⟩, fun hruns => ?_,
      fun bp data hbp => ?_, fun bp hbp => ?_, fun bp hbp hstate hset => ?_⟩
    · rw [exec_dbgHalt]
      refine State.act_of_found rfl ((Mach.dbgCommand_of_allowed hunlocked hm hscope _).trans ?_)
      rcases hstate with h | h | h <;> simp [h]
    · rw [exec_dbgResume]
      refine State.act_of_found rfl ((Mach.dbgCommand_of_allowed hunlocked hm hscope _).trans ?_)
      exact Mach.whenHalted_of_halted hhalted _
    · rw [exec_dbgStep]
      refine State.act_of_found rfl ((Mach.dbgCommand_of_allowed hunlocked hm hscope _).trans ?_)
      exact Mach.whenHalted_of_halted hhalted _
    · rw [exec_dbgReadReg]
      refine State.act_of_found rfl ((Mach.dbgCommand_of_allowed hunlocked hm hscope _).trans ?_)
      exact (Mach.whenHalted_of_halted hhalted _).trans (if_pos hreg)
    · rw [exec_dbgWriteReg]
      refine State.act_of_found rfl ((Mach.dbgCommand_of_allowed hunlocked hm hscope _).trans ?_)
      exact (Mach.whenHalted_of_halted hhalted _).trans (if_pos hreg)
    · rw [exec_dbgStep]
      refine State.act_of_found rfl ((Mach.dbgCommand_of_allowed hunlocked hm hscope _).trans ?_)
      exact Mach.whenHalted_of_not_halted hruns _
    · rw [exec_dbgSetBp]
      refine State.act_of_found rfl ((Mach.dbgCommand_of_allowed hunlocked hm hscope _).trans ?_)
      rw [Nat.mod_eq_of_lt hbp]
    · rw [exec_dbgClearBp]
      refine State.act_of_found rfl ((Mach.dbgCommand_of_allowed hunlocked hm hscope _).trans ?_)
      rw [Nat.mod_eq_of_lt hbp]
    · rw [exec_breakpointHit]
      exact State.actUnits_of_found hn hbp rfl (if_pos (by simp [hstate, hset]))
  · intro dt n s m hn hm
    refine ⟨fun hlocked => ⟨?_, ?_⟩, fun hunlocked hscope => ⟨?_, ?_⟩⟩
    · rw [exec_dbgHalt]
      exact State.act_of_found hm (Mach.dbgCommand_of_locked hlocked _ _)
    · rw [exec_dbgStep]
      exact State.act_of_found hm (Mach.dbgCommand_of_locked hlocked _ _)
    · rw [exec_dbgHalt]
      exact State.act_of_found hm (Mach.dbgCommand_of_not_allowed hunlocked hscope _)
    · rw [exec_dbgStep]
      exact State.act_of_found hm (Mach.dbgCommand_of_not_allowed hunlocked hscope _)

theorem Mach.sem_dbgStatus (m : Mach) (st v q : Nat) : (m.dbgStatus st v).sem q = m.sem q := rfl

/-- Settles O37: an address without bit 31 is local memory, one that reaches job memory is written there, and the time of the
last access decides whether it is undone. -/
theorem theDebugPortReachesMemoryAndSemaphores : Obligations.TheDebugPortReachesMemoryAndSemaphores := by
  unfold Obligations.TheDebugPortReachesMemoryAndSemaphores
  refine ⟨⟨?_, ?_, ?_⟩, ?_⟩
  · rintro dt n a s m - hunlocked hallowed hoffset hlocal hm
    have hnojob : ¬ (s.found dt).dbgReachesJob n (a % 2 ^ 32) = true := by simp only [Mach.dbgReachesJob, hlocal]; simp
    refine ⟨?_, fun data => ?_⟩
    · rw [exec_dbgReadMem]
      refine State.act_of_found rfl ((Mach.dbgCommand_of_allowed hunlocked hm hallowed _).trans ?_)
      simp only [hoffset, hlocal]
      rfl
    · rw [exec_dbgWriteMem]
      refine (if_neg hnojob).trans (State.act_of_found rfl ((Mach.dbgCommand_of_allowed hunlocked hm hallowed _).trans ?_))
      simp only [hoffset, hlocal]
      rfl
  · rintro dt n a data s m - rfl hreaches
    rw [exec_dbgWriteMem]
    exact if_pos hreaches
  · intro dt t a old s m hm haccess
    have hrun : exec (.dbgTimeout dt) s = .next { s with m := (dbgTimedOut m s.mem).1, mem := (dbgTimedOut m s.mem).2 } := by
      rw [exec_dbgTimeout, ← hm]; rfl
    rw [hrun]
    refine ⟨fun hover => ?_, fun hintime => ?_⟩
    · simp only [dbgTimedOut, haccess, if_pos hover]
    · simp only [dbgTimedOut, haccess, if_neg hintime.not_ge, State.becomes]
  · intro dt q s m hq hunlocked hscope hm
    refine ⟨fun wait hfree => ?_, fun hheld howner hrecovers => ?_, fun hheld howner => ?_⟩
    · rw [exec_dbgSemAcquire]
      refine State.act_of_found rfl ((Mach.dbgCommand_of_allowed hunlocked hm hscope _).trans ?_)
      exact Mach.semRead_of_free (by rwa [Mach.sem_dbgStatus]) 15 wait
    · rw [exec_dbgSemRelease]
      refine State.act_of_found rfl ((Mach.dbgCommand_of_allowed hunlocked hm hscope _).trans ?_)
      rw [Mach.semReleased, Mach.owned_of_owner hheld howner, if_neg (by rw [hrecovers]; decide)]
    · rw [exec_dbgSemRecovered]
      refine State.act_of_found rfl ((Mach.dbgCommand_of_allowed hunlocked hm hscope _).trans ?_)
      rw [Mach.semRecovered, Mach.owned_of_owner hheld howner]

end Sys2Proof.Machine

/-! What the peer reports, signed writes of Yarrow, and the network ports (R326, R440, R442, R484 to R494, R504 to R507). -/

namespace Sys2Proof.Machine

/-! ### Reports of the peer -/

/-- The digest that the module's own content has ends the wait for it (R440). -/
theorem Mach.digestReceived_of_same {m : Mach} {h since : Nat} {c : Content} (hc : m.content h = some c)
    (hwait : c.waitSince = some since) : m.digestReceived h c.hash =
      m.onContent h (fun x => { x with peerDigest := c.hash, ready := true, doneAt := m.now, waitSince := none }) := by
  simp [Mach.digestReceived, hc, hwait]

/-- Another digest is kept, and the content is sent to a peer in step (R440). -/
theorem Mach.digestReceived_of_other {m : Mach} {h : Nat} {digest : Bytes} {c : Content} (hc : m.content h = some c)
    (hstate : c.state = 5) (hother : digest ≠ c.hash) (hstep : m.inStepPeer = true) (hwait : c.waitSince = none) :
    m.digestReceived h digest = (m.onContent h (fun x => { x with peerDigest := digest })).emit
      (.peer (.resync (.content h c.hash c.copy))) := by
  simp [Mach.digestReceived, hc, hwait, hstate, hother, hstep]

/-- A wait without a digest ends in a cold standby when its time has passed (R440). -/
theorem Mach.ingestExpiry_of_waits {m : Mach} {h since : Nat} {c : Content} (hc : m.content h = some c)
    (hwait : c.waitSince = some since) : m.ingestExpiry h =
      if since + m.nat 0xA005 0 0 * 1000000 ≤ m.now then
        ((m.onContent h (fun x => { x with ready := true, waitSince := none, doneAt := m.now })).record 0x0A10 h
          ((m.now - since) / 1000000)).peerCold 1
      else m := by
  simp only [Mach.ingestExpiry, hc, hwait]

/-- A stop that the debug port of the peer reports, of no ports, is recorded and marks nothing (R442). -/
theorem Mach.stopReport_of_debug {m : Mach} (hactive : m.pair.role = 1) (event : Nat) :
    m.stopReport 2 0 event = m.recordPeer 0x090B 0 (m.webLine % 2 ^ 32) := by
  have hnone : setBits 0 64 = [] := by decide
  simp [Mach.stopReport, hactive, hnone]

/-- Settles O41: the role of this module, and the wait and the digest of a content, decide what a report does. -/
theorem peerReportsAreTaken : Obligations.PeerReportsAreTaken := by
  unfold Obligations.PeerReportsAreTaken
  refine ⟨?_, ?_, ?_, ?_, ?_, ?_, ?_⟩
  · intro dt c line profiles s m hm hpaired
    rw [exec_peerStatsReceived]
    exact State.act_of_found hm (if_neg (by rw [hpaired]; decide))
  · intro dt event s m hm hactive
    rw [exec_stopReportReceived]
    exact State.act_of_found hm (Mach.stopReport_of_debug hactive event)
  · intro dt cause ports event s m hm hpassive
    rw [exec_stopReportReceived]
    exact State.act_of_found hm (if_pos (by simpa using hpassive))
  · intro dt h since c s m hm hc hwait
    rw [exec_digestReceived]
    exact State.act_of_found hm (Mach.digestReceived_of_same hc hwait)
  · intro dt h digest c s m hm hc hstate hother hstep hwait
    rw [exec_digestReceived]
    exact State.act_of_found hm (Mach.digestReceived_of_other hc hstate hother hstep hwait)
  · intro dt h since c s m hm hc hwait
    refine ⟨fun hover => ?_, fun hintime => ?_⟩
    · rw [exec_ingestWaitExpiry]
      refine State.goesOn_of_becomes (State.act_of_found hm ?_)
      rw [Mach.ingestExpiry_of_waits hc hwait, if_pos hover]
    · rw [exec_ingestWaitExpiry]
      refine State.goesOn_of_becomes (State.act_of_found hm ?_)
      rw [Mach.ingestExpiry_of_waits hc hwait, if_neg hintime.not_ge]
  · intro dt table vals s m hm hjoins
    rw [exec_resyncDataReceived]
    refine State.act_of_found hm ?_
    simp [Mach.resyncData, hjoins]

/-! ### Signed writes -/

/-- METRO_WRITE while Yarrow answers and has room (R487, R489): without the nonce in force it fails, and with a key, a
signature, a form and a value that are right it is put. -/
theorem Mach.writeMetro_of_admits {m : Mach} {w : Who} {data : Bytes} {vals : List (Nat × Fld × Bytes)}
    (h : m.admitsBytes w 0xC01A 0 4 data vals = true) (hup : m.yarrowAnswers = true) (hroom : m.yarrow.full = false) (key : Bytes) :
    (m.nonceOk (slice data 4 16) = false → m.writeMetro w data key = m.reply w 0xC01A 0 .authFailed)
    ∧ ∀ slot, m.nonceOk (slice data 4 16) = true → m.metroSigner (leAt data 0 2) key = some slot →
      ecdsaOk key (sha256 (data.take (data.length - 64))) (data.drop (data.length - 64)) = true → leAt data 3 1 = 0 →
      leAt data 20 4 + 88 = data.length → m.metroValueOk (leAt data 0 2) (leAt data 2 1) (slice data 24 (data.length - 88)) = true →
      m.foreignProof (leAt data 0 2) (slice data 24 (data.length - 88)) = true →
      m.writeMetro w data key = (m.metroPut (leAt data 0 2) (leAt data 2 1) slot
        (slice data 24 (data.length - 88))).accept w 0xC01A 0 0 data := by
  rw [Mach.writeMetro, Mach.guardedBytes_of_admits h]
  refine ⟨fun hnonce => ?_, fun slot hnonce hsigner hsigned hflags hlength hvalue hproof => ?_⟩
  · simp [hup, hroom, hnonce]
  · simp [hup, hroom, hnonce, hsigner, hsigned, hflags, hlength, hvalue, hproof]

/-- METRO_STOP_CLEAR (R484): it clears only without a cause. -/
theorem Mach.writeMetroStopClear_of_admits {m : Mach} {w : Who} (h : m.admits w 0xC050 0 1 = true) :
    m.writeMetroStopClear w 1 =
      if stopCauses m.yarrow.causes ≠ 0 then m.reply w 0xC050 0 .notReady
      else (m.withStops (fun x => x.onYarrow (fun y => { y with metroStop := false }))).acceptNum w 0xC050 0 0 1 1 := by
  rw [Mach.writeMetroStopClear, Mach.guardedNum_of_admits (v := ((1 : Nat) : Int)) h]
  simp

/-- YR_FW_IMAGE while Yarrow answers and has room (R489): the firmware key and its signature decide. -/
theorem Mach.writeYrFirmware_of_admits {m : Mach} {w : Who} {image : Bytes} {vals : List (Nat × Fld × Bytes)}
    (h : m.admitsBytes w 0xC051 0 4 image vals = true) (hup : m.yarrowAnswers = true) (hroom : m.yarrow.full = false)
    (sig key : Bytes) : m.writeYrFirmware w image sig key =
      if sha256 key ≠ m.yarrow.fwHash ∨ ecdsaOk key (sha256 image) sig = false then m.reply w 0xC051 0 .authFailed
      else ((m.trailRec 0x0B0B (leAt (sha256 image) 0 4) (leAt m.yarrow.fwDigest 0 4)).onYarrow (fun y =>
        { (y.restart m.now) with fwDigest := sha256 image })).accept w 0xC051 0 0 image := by
  rw [Mach.writeYrFirmware, Mach.guardedBytes_of_admits h]
  simp [hup, hroom]

/-- TRAIL_RENEW with the nonce in force and a signature of a VERIFIER key (R494): the hash that its reader read must be the
running one. -/
theorem Mach.writeTrailRenew_of_admits {m : Mach} {w : Who} {slot : Nat} {data key : Bytes} {vals : List (Nat × Fld × Bytes)}
    (h : m.admitsBytes w 0xC04B 0 4 data vals = true) (hup : m.yarrowAnswers = true) (hsealed : m.yarrow.sealClosed = true)
    (hnonce : m.nonceOk (slice data 0 16) = true) (hkey : m.keySlot key = some slot)
    (hsigned : ecdsaOk key (sha256 (data.take 48)) (data.drop 48) = true) : m.writeTrailRenew w data key =
      if slice data 16 32 ≠ m.yarrow.runningHash then m.reply w 0xC04B 0 .commitRejected
      else
        let n := m.onYarrow (fun y => { y with
          trailBase := y.runningHash, trail := [], trailLost := 0, renewals := y.renewals + 1, lockRestarts := 0
          causes := setBit (setBit (setBit (setBit y.causes 0 false) 1 false) 2 false) 6 false })
        (n.trailRec 0x0B0C n.yarrow.renewals slot).accept w 0xC04B 0 0 data := by
  rw [Mach.writeTrailRenew, Mach.guardedBytes_of_admits h]
  simp [hup, hsealed, hnonce, hkey, hsigned]

/-- Settles O46: a write that passes the checks of an access is then tried by its nonce, its key and its signature. -/
theorem signedWritesNeedTheNonce : Obligations.SignedWritesNeedTheNonce := by
  unfold Obligations.SignedWritesNeedTheNonce
  refine ⟨?_, ?_, ?_, ?_, ?_, ?_⟩
  · intro dt sid s m hm hanswers
    refine ⟨fun hup => ?_, fun hdown => ?_⟩
    · rw [exec_metroNonce]
      refine State.act_of_found hm ?_
      simp [Mach.readNonce, hanswers, hup]
    · rw [exec_metroNonce]
      refine State.act_of_found hm ?_
      simp [Mach.readNonce, hanswers, hdown]
  · intro dt t n s m hm hnonce
    refine ⟨fun hover => ?_, fun hintime => ?_⟩
    · rw [exec_nonceExpiry]
      refine State.act_of_found hm ?_
      simp only [hnonce, if_pos hover]
    · rw [exec_nonceExpiry]
      refine State.act_of_found hm ?_
      simp only [hnonce, if_neg hintime.not_ge]
  · intro dt sid slot data key s m vals hm hadmits hup hroom
    obtain ⟨hfails, hputs⟩ := Mach.writeMetro_of_admits hadmits hup hroom key
    refine ⟨fun hnonce => ?_, fun hnonce hsigner hsigned hflags hlength hvalue hproof => ?_⟩
    · rw [exec_metroWrite]
      exact State.act_of_found hm (hfails hnonce)
    · rw [exec_metroWrite]
      exact State.act_of_found hm (hputs slot hnonce hsigner hsigned hflags hlength hvalue hproof)
  · intro dt sid s m hm hadmits
    refine ⟨fun hnone => ?_, fun hcause => ?_⟩
    · rw [exec_metroStopClear]
      refine State.act_of_found hm ?_
      rw [Mach.writeMetroStopClear_of_admits hadmits, if_neg (not_not.mpr hnone)]
    · rw [exec_metroStopClear]
      refine State.act_of_found hm ?_
      rw [Mach.writeMetroStopClear_of_admits hadmits, if_pos hcause]
  · intro dt sid image sig key s m vals hm hadmits hup hroom
    refine ⟨fun hkey hsigned => ?_, fun hother => ?_⟩
    · rw [exec_yrFwImage]
      refine State.act_of_found hm ?_
      rw [Mach.writeYrFirmware_of_admits hadmits hup hroom, if_neg (by simp [hkey, hsigned])]
    · rw [exec_yrFwImage]
      refine State.act_of_found hm ?_
      rw [Mach.writeYrFirmware_of_admits hadmits hup hroom, if_pos (.inl hother)]
  · intro dt sid slot data key s m n vals hm hadmits hup hsealed hnonce hkey hsigned
    refine ⟨fun hhash hn => ?_, fun hstale => ?_⟩
    · subst hn
      rw [exec_trailRenew]
      refine State.act_of_found hm ?_
      rw [Mach.writeTrailRenew_of_admits hadmits hup hsealed hnonce hkey hsigned, if_neg (not_not.mpr hhash)]
    · rw [exec_trailRenew]
      refine State.act_of_found hm ?_
      rw [Mach.writeTrailRenew_of_admits hadmits hup hsealed hnonce hkey hsigned, if_pos hstale]

/-! ### Network ports -/

/-- A frame on a port that is up and enabled (R504, R505): its FCS, its addresses and length, and the room in the buffer. -/
theorem Mach.netFrame_of_up {m : Mach} {p : Nat} (hup : (m.netPort p).linkUp = true) (hon : bit (m.netCfg p) 0 = true) (f : NetFrame) :
    m.netFrame p f =
      if f.fcsOk = false then m.netCount p 3
      else if m.takesDst p f = false ∨ m.tagOk p f = false ∨ f.length < 64 ∨ 9216 < f.length ∨ f.kind = 7 then m.netCount p 5
      else if 262144 < f.buffered + f.length then (m.netCount p 4).record 0x0C03 p 1
      else if (f.kind = 6 || ((f.kind = 2 || f.kind = 4) && f.checksumOk && (f.udpPort = 319 || f.udpPort = 320))) = true then
        (((m.netCount p 1).netReply p f).netCount p 6).onNet p (fun n => { n with ptpRxAt := some m.now })
      else (m.netCount p 1).netReply p f := by
  simp [Mach.netFrame, hup, hon, or_assoc]

/-- NET_CONFIG_WRITE (R507): RS-FEC needs 25 Gbit/s. -/
theorem Mach.writeNetConfig_of_admits {m : Mach} {w : Who} {p v : Nat} (h : m.admits w 0xD001 (p + 1) v = true) :
    m.writeNetConfig w p v =
      if bit v 2 = true ∧ bit v 1 = false then m.reply w 0xD001 (p + 1) .outOfRange
      else ((m.setNum 0xD001 (p + 1) 0 v).acceptNum w 0xD001 (p + 1) 0 4 v).netDown p 2 := by
  rw [Mach.writeNetConfig, Mach.guardedNum_of_admits h]
  simp

/-- Settles O47: the checks of a frame in their order; a link comes up or goes down once. -/
theorem networkPortsPassFrames : Obligations.NetworkPortsPassFrames := by
  unfold Obligations.NetworkPortsPassFrames
  refine ⟨?_, ?_, ?_, ?_, ?_⟩
  · intro dt p f s m hp hm hup hon
    have hframe := Mach.netFrame_of_up hup hon f
    refine ⟨fun hbad => ?_, fun hgood hdst htag hlong hshort hkind => ⟨fun hroom h6 => ?_, fun hroom h1 => ?_, fun hfull => ?_⟩,
      fun hgood hlength => ?_⟩
    · rw [exec_netFrameReceived]
      exact State.actUnit_of_found hp hm (hframe.trans (if_pos hbad))
    · rw [exec_netFrameReceived]
      refine State.actUnit_of_found hp hm (hframe.trans ?_)
      simp [hgood, hdst, htag, hlong.not_gt, hshort.not_gt, hroom.not_gt, h6]
    · rw [exec_netFrameReceived]
      refine State.actUnit_of_found hp hm (hframe.trans ?_)
      simp [hgood, hdst, htag, hlong.not_gt, hshort.not_gt, hroom.not_gt, h1]
    · rw [exec_netFrameReceived]
      refine State.actUnit_of_found hp hm (hframe.trans ?_)
      simp [hgood, hdst, htag, hlong.not_gt, hshort.not_gt, hfull, hkind]
    · rw [exec_netFrameReceived]
      refine State.actUnit_of_found hp hm (hframe.trans ?_)
      rw [if_neg (by simp [hgood]), if_pos (.inr (.inr (hlength.imp_right .inl)))]
  · rintro dt p sp s m hp hm hon hdown hmode rfl
    rw [exec_netLinkUp]
    refine State.actUnit_of_found hp hm (if_neg ?_)
    simp [hon, hdown, hmode]
  · intro dt p s m hp hm hup
    rw [exec_netLinkDown]
    refine State.actUnit_of_found hp hm ?_
    simp [Mach.netDown, hup]
  · intro dt p cause s m hp hm hdown
    rw [exec_netLinkDown]
    exact State.actUnit_of_found hp hm (if_pos (by simp [hdown]))
  · intro dt sid p v s m hp hm hadmits
    refine ⟨fun hfits => ?_, fun hfec hslow => ?_⟩
    · rw [exec_netConfigWrite]
      refine State.act_of_found hm ?_
      rw [Mach.writeNetConfig_of_admits hadmits, if_neg ?_]
      rintro ⟨hfec, hslow⟩
      rcases hfits with h | h
      · simp [h] at hfec
      · simp [h] at hslow
    · rw [exec_netConfigWrite]
      refine State.act_of_found hm ?_
      rw [Mach.writeNetConfig_of_admits hadmits, if_pos ⟨hfec, hslow⟩]

end Sys2Proof.Machine

/-! Time domains: their masters, path delays, and the choice of output time (R513 to R523). -/

namespace Sys2Proof.Machine

/-! ### Messages of a master -/

/-- A follow-up that is not the chosen master's changes nothing (R513). -/
theorem execPtpFollowUp_of_other {dt d p sender : Nat} {s : State} {m : Mach} (hd : d < 2) (hp : p < 2) (hm : s.found dt = m)
    (hother : m.fromMaster d p sender = false) (seq origin : Nat) (corr : Int) :
    execPtpFollowUp dt d p sender seq origin corr s = s.becomes m := by
  refine State.actUnits_of_found hd hp hm ?_
  split
  · exact if_neg (by simp [hother])
  · rfl

/-- Settles O48: whether the message is the followed master's decides what it does, and a silent master ends in holdover. -/
theorem domainsFollowTheirMaster : Obligations.DomainsFollowTheirMaster := by
  unfold Obligations.DomainsFollowTheirMaster
  refine ⟨?_, ?_, ?_, ?_, ?_⟩
  · intro dt d p a s m hd hp hm hon
    refine ⟨fun hsteps => ?_, fun hsteps => ?_⟩
    · rw [exec_ptpAnnounce]
      exact State.actUnits_of_found hd hp hm (if_pos (by rw [hon, decide_eq_true hsteps]; rfl))
    · rw [exec_ptpAnnounce]
      exact State.actUnits_of_found hd hp hm
        (if_neg (by rw [decide_eq_false (Nat.not_lt.mpr hsteps), Bool.and_false]; exact Bool.false_ne_true))
  · intro dt d p sender seq origin stamp corr log s m n hd hp hm hmaster hn
    subst hn
    have hgoes : ¬ (!m.fromMaster d p sender) = true := by simp [hmaster]
    refine ⟨?_, ?_⟩ <;> rw [exec_ptpSync]
    · exact State.actUnits_of_found hd hp hm ((if_neg hgoes).trans (if_neg Bool.false_ne_true))
    · exact State.actUnits_of_found hd hp hm ((if_neg hgoes).trans (if_pos rfl))
  · intro dt d p sender seq origin rx c corr s m hd hp hm hmaster htwo
    rw [exec_ptpFollowUp]
    refine State.actUnits_of_found hd hp hm ?_
    simp [htwo, hmaster]
  · intro dt d p sender seq origin stamp two corr log s m hd hp hm hother
    refine ⟨?_, ?_⟩
    · rw [exec_ptpSync]
      exact State.actUnits_of_found hd hp hm (if_pos (by simp [hother]))
    · rw [exec_ptpFollowUp]
      exact execPtpFollowUp_of_other hd hp hm hother seq origin corr
  · intro dt d s m hd hm hon hmaster hlocked hquality hsilent
    rw [exec_ptpHoldover]
    exact State.actUnit_of_found hd hm (if_pos (by simp [hon, hmaster, hlocked, hquality, hsilent]))

/-! ### Path delays -/

/-- The answer to the open Delay_Req gives the mean path delay of a Sync and the request (R513). -/
theorem Mach.delayResp_of_pair {m : Mach} {d p sender t0 : Nat} {t1 t2 t3 : Int} (hmaster : m.fromMaster d p sender = true)
    (he2e : m.p2p d = false) (hsent : (m.domain d).reqSent = some (t0, t3)) (hpair : (m.domain d).syncPair = some (t1, t2))
    (time : Nat) (corr log : Int) :
    m.delayResp d p sender (m.domain d).reqSeq time corr log = m.onDomain d (fun t => { t with
      pathDelay := min (2 ^ 32 - 1) (((m.domain d).at_ t2.toNat - t1 + ((time : Int) - corr - (m.domain d).at_ t3.toNat)) / 2).toNat
      reqInterval := intervalNs log }) := by
  simp [Mach.delayResp, hmaster, he2e, hsent, hpair]

/-- The answer to a peer's request keeps t2 with its stamp (R513). -/
theorem Mach.pdelayResp_of_answer {m : Mach} {d p : Nat} (hon : (m.tdOn d && m.p2p d && m.carries d p) = true)
    (time stamp : Nat) (corr : Int) :
    m.pdelayResp d p (fget (m.domain d).pdSeq p 0) false time corr stamp =
      m.onDomain d (fun t => { t with pdGot := fset t.pdGot p ((time : Int), m.rxStamp p stamp, corr) }) := by
  simp only [Mach.pdelayResp, hon, bne_self_eq_false, Bool.not_true, Bool.or_false, Bool.false_eq_true, if_false,
    Bool.not_false, if_true]

/-- The follow-up of that answer gives the peer delay (R513). -/
theorem Mach.pdelayResp_of_followUp {m : Mach} {d p t0 : Nat} {t1 t2 t4 c : Int}
    (hon : (m.tdOn d && m.p2p d && m.carries d p) = true) (hsent : ffind (m.domain d).pdSent p = some (t0, t1))
    (hgot : ffind (m.domain d).pdGot p = some (t2, t4, c)) (time stamp : Nat) (corr : Int) :
    m.pdelayResp d p (fget (m.domain d).pdSeq p 0) true time corr stamp = m.onDomain d (fun t => { t with
      pdDelay := fset t.pdDelay p ((((t4 - t1) - ((time : Int) - t2)) - corr - c) / 2).toNat
      pathDelay := min (2 ^ 32 - 1) ((((t4 - t1) - ((time : Int) - t2)) - corr - c) / 2).toNat
      pdGot := fdel t.pdGot p }) := by
  simp only [Mach.pdelayResp, hon, bne_self_eq_false, Bool.not_true, Bool.or_false, Bool.false_eq_true, if_false,
    hsent, hgot]

/-- A change of a domain depends on that domain's own value alone. -/
theorem Mach.onDomain_congr {m : Mach} {d : Nat} {f g : TimeDomain → TimeDomain} (h : f (m.domain d) = g (m.domain d)) :
    m.onDomain d f = m.onDomain d g := by
  unfold Mach.domain at h
  unfold Mach.onDomain
  split at h
  · simp only [if_pos ‹d = 0›, h]
  · simp only [if_neg ‹¬ d = 0›, h]

/-- With no request open, a domain that measures end to end asks its master (R513). -/
theorem Mach.delayReq_of_due {m : Mach} {d : Nat} (hon : m.tdOn d = true) (he2e : m.p2p d = false)
    (hmaster : (m.domain d).master.isSome = true) (hup : (m.netPort (m.domain d).portNow).linkUp = true)
    (hsent : (m.domain d).reqSent = none) :
    m.delayReq d = ((m.onDomain d (fun t => { t with
      reqSeq := (t.reqSeq + 1) % 65536, reqSent := some (m.now, m.txStamp (m.domain d).portNow) })).netCount
        (m.domain d).portNow 2).emit (.net (m.domain d).portNow 1 d [((m.domain d).reqSeq + 1) % 65536]) := by
  have hports : m.onDomain d (fun t => { t with reqSeq := (t.reqSeq + 1) % 65536, reqSent := some (m.now, m.txStamp t.portNow) }) =
      m.onDomain d (fun t => { t with
        reqSeq := (t.reqSeq + 1) % 65536, reqSent := some (m.now, m.txStamp (m.domain d).portNow) }) := Mach.onDomain_congr rfl
  rw [← hports]
  simp only [Mach.delayReq, hon, he2e, hmaster, hup, hsent, Bool.not_false, Bool.and_true, if_true]

/-- With no request open on a port, a domain that measures peer to peer asks there (R513). -/
theorem Mach.pdelayReq_of_due {m : Mach} {d p : Nat}
    (hon : (m.tdOn d && m.p2p d && m.carries d p && (m.netPort p).linkUp) = true) (hsent : ffind (m.domain d).pdSent p = none) :
    m.pdelayReq d p = ((m.onDomain d (fun t => { t with
      pdSeq := fset t.pdSeq p ((fget (m.domain d).pdSeq p 0 + 1) % 65536), pdSent := fset t.pdSent p (m.now, m.txStamp p)
      pdGot := fdel t.pdGot p })).netCount p 2).emit (.net p 2 d [(fget (m.domain d).pdSeq p 0 + 1) % 65536]) := by
  simp only [Mach.pdelayReq, hon, hsent, Bool.and_true, if_true]

/-- Settles O49: each message's own lemma says what it leaves. -/
theorem pathDelaysAreMeasured : Obligations.PathDelaysAreMeasured := by
  unfold Obligations.PathDelaysAreMeasured
  refine ⟨?_, ?_, ?_, ?_, ?_⟩
  · intro dt d p sender seq time t0 t1 t2 t3 corr log s m hd hp hm hmaster he2e hseq hsent hpair
    subst hseq
    rw [exec_ptpDelayResp]
    exact State.actUnits_of_found hd hp hm (Mach.delayResp_of_pair hmaster he2e hsent hpair time corr log)
  · intro dt d p sender seq stamp s m hd hp hm hon
    rw [exec_ptpPdelayReq]
    exact State.actUnits_of_found hd hp hm (if_pos hon)
  · intro dt d p sender time stamp t0 corr t1 t2 t4 c s m hd hp hm hon
    refine ⟨?_, fun hsent hgot => ?_⟩
    · rw [exec_ptpPdelayResp]
      exact State.actUnits_of_found hd hp hm (Mach.pdelayResp_of_answer hon time stamp corr)
    · rw [exec_ptpPdelayResp]
      exact State.actUnits_of_found hd hp hm (Mach.pdelayResp_of_followUp hon hsent hgot time stamp corr)
  · intro dt d p s m hd hm hon he2e hmaster hport hup hsent
    subst hport
    rw [exec_delayReqTimer]
    exact State.actUnit_of_found hd hm (Mach.delayReq_of_due hon he2e hmaster hup hsent)
  · intro dt d p seq s m hd hp hm hon hsent hseq
    subst hseq
    rw [exec_pdelayReqTimer]
    exact State.actUnits_of_found hd hp hm (Mach.pdelayReq_of_due hon hsent)

/-! ### Time is set, selected and slewed -/

/-- A domain that is enabled, with a number of its own, waits for a master (R514). -/
theorem Mach.writeTdConfig_of_enabled {m : Mach} {w : Who} {d v : Nat} (h : m.admits w 0xD020 (d + 1) v = true)
    (hon : bit v 0 = true)
    (hother : bits ((m.setNum 0xD020 (d + 1) 0 v).tdCfg 0) 16 8 ≠ bits ((m.setNum 0xD020 (d + 1) 0 v).tdCfg 1) 16 8) :
    m.writeTdConfig w d v = ((((m.setNum 0xD020 (d + 1) 0 v).onDomain d (fun t => { t with
      master := none, foreigns := [], gm := 0, steps := 0, portNow := 0xFF, samples := [], freq := 0, good := 0, twoStep := none
      syncPair := none, reqSent := none, pdGot := [] })).setQuality d 1).acceptNum w 0xD020 (d + 1) 0 4 v) := by
  rw [Mach.writeTdConfig, Mach.guardedNum_of_admits h]
  simp only [hother, decide_false, Bool.false_and, Bool.false_eq_true, if_false, hon, if_true]

/-- A domain that is off and not selected is set by hand, with its record (R519). -/
theorem Mach.writeTdSet_of_off {m : Mach} {w : Who} {d v : Nat} (h : m.admits w 0xD023 (d + 1) v = true)
    (hoff : m.tdOn d = false) (hsel : m.time.sel ≠ d) : m.writeTdSet w d v =
      (Mach.record ((m.adjust d ((v : Int) - (m.domain d).at_ m.linkTime)).onDomain d (fun t => { t with everLocked := true }))
        0x0C09 d (p32sat ((v : Int) - (m.domain d).at_ m.linkTime))).acceptNum w 0xD023 (d + 1) 0 8 v := by
  rw [Mach.writeTdSet, Mach.guardedNum_of_admits h]
  simp only [hoff, Bool.false_eq_true, if_false, hsel]

/-- A domain that is enabled is not set by hand (R519). -/
theorem Mach.writeTdSet_of_on {m : Mach} {w : Who} {d v : Nat} (h : m.admits w 0xD023 (d + 1) v = true)
    (hon : m.tdOn d = true) : m.writeTdSet w d v = m.reply w 0xD023 (d + 1) .notReady := by
  rw [Mach.writeTdSet, Mach.guardedNum_of_admits h]
  exact if_pos hon

/-- What a write of TIME_SELECT that is admitted does (R522). -/
theorem Mach.writeTimeSelect_of_admits {m : Mach} {w : Who} {v : Nat} (h : m.admits w 0xD030 0 v = true) :
    m.writeTimeSelect w v =
      if bits v 0 1 = m.time.sel then (m.setNum 0xD030 0 0 v).acceptNum w 0xD030 0 0 1 v
      else if (m.domain (bits v 0 1)).quality ≤ 1 then m.reply w 0xD030 0 .notReady
      else ((m.setNum 0xD030 0 0 v).switchTo (bits v 0 1)).acceptNum w 0xD030 0 0 1 v := by
  rw [Mach.writeTimeSelect, Mach.guardedNum_of_admits h]

/-- K of a switch, by its sign: it moves towards 0 by 1 ns for each 10,000 ns and stops there (R523). -/
theorem Time.kAt_of_slew {t : Time} {c0 : Nat} (h : t.slewFrom = some c0) (c : Nat) :
    t.kAt c = if 0 ≤ t.k then max 0 (t.k - ((c - c0) / 10000 : Nat)) else min 0 (t.k + ((c - c0) / 10000 : Nat)) := by
  simp only [Time.kAt, h]

/-- The magnitude of K falls by the steps since the switch (R523). -/
theorem Time.natAbs_kAt {t : Time} {c0 : Nat} (h : t.slewFrom = some c0) (c : Nat) :
    (t.kAt c).natAbs = t.k.natAbs - (c - c0) / 10000 := by
  rw [Time.kAt_of_slew h]
  split <;> omega

/-- Settles O50: each write's lemma, and for K the fall of its magnitude (`Time.natAbs_kAt`). -/
theorem timeIsSetSelectedAndSlewed : Obligations.TimeIsSetSelectedAndSlewed := by
  unfold Obligations.TimeIsSetSelectedAndSlewed
  refine ⟨⟨?_, ?_, ?_, ?_⟩, ?_⟩
  · intro dt sid d v s m n _ hm h hn hon hother
    subst hn
    rw [exec_tdConfigWrite]
    exact State.act_of_found hm (Mach.writeTdConfig_of_enabled h hon hother)
  · intro dt sid d v s m _ hm h
    refine ⟨fun hoff hsel => ?_, fun hon => ?_⟩
    · rw [exec_tdSet]
      exact State.act_of_found hm (Mach.writeTdSet_of_off h hoff hsel)
    · rw [exec_tdSet]
      exact State.act_of_found hm (Mach.writeTdSet_of_on h hon)
  · intro dt sid v s m hm h
    refine ⟨fun hsame => ?_, fun hother hready => ?_, fun hother hnone => ?_⟩ <;> rw [exec_timeSelectWrite] <;>
      refine State.act_of_found hm ((Mach.writeTimeSelect_of_admits h).trans ?_)
    · exact if_pos hsame
    · exact (if_neg hother).trans (if_neg (Nat.not_le.mpr hready))
    · exact (if_neg hother).trans (if_pos hnone)
  · intro dt s m hm hslew
    refine ⟨fun hzero => ?_, fun hmoves => ?_⟩
    · rw [exec_slewEnd]
      exact State.act_of_found hm (if_pos (by rw [hslew, hzero]; decide))
    · rw [exec_slewEnd]
      exact State.act_of_found hm (if_neg (by rw [decide_eq_false hmoves, Bool.and_false]; exact Bool.false_ne_true))
  · intro t c0 c h
    refine ⟨Time.natAbs_kAt h c, fun hpos => ?_, fun hneg => ?_, fun hle hmoves => ?_⟩
    · rw [Time.kAt_of_slew h, if_pos hpos]
      exact le_max_left _ _
    · rw [Time.kAt_of_slew h]
      split <;> omega
    · have hleft : (t.kAt (c + 10000)).natAbs ≠ 0 := Int.natAbs_ne_zero.mpr hmoves
      rw [Time.natAbs_kAt h] at hleft
      rw [Time.natAbs_kAt h, Time.natAbs_kAt h]
      omega

end Sys2Proof.Machine

/-! The Hyaskion access protocol: the checks of a request, sessions, transfers and subscriptions (R530 to R536, R543 to R550). -/

namespace Sys2Proof.Machine

/-! ### Finite maps under deletion and a change of their values -/

/-- A key that was deleted is not found. -/
theorem ffind_fdel_same {α : Type} (l : FMap α) (k : Nat) : ffind (fdel l k) k = none := by
  induction l with
  | nil => rfl
  | cons p t ih =>
    obtain ⟨j, v⟩ := p
    by_cases hj : j = k
    · simpa [fdel, hj] using ih
    · simpa [fdel, ffind, hj] using ih

/-- Another key is found as before. -/
theorem ffind_fdel_other {α : Type} {k c : Nat} (h : c ≠ k) (l : FMap α) : ffind (fdel l k) c = ffind l c := by
  induction l with
  | nil => rfl
  | cons p t ih =>
    obtain ⟨j, v⟩ := p
    have ih' : ffind (t.filter (fun p => p.1 != k)) c = ffind t c := ih
    by_cases hj : j = k
    · have hc : j ≠ c := fun e => h (e.symm.trans hj)
      simpa [fdel, ffind, hj, hc, h.symm] using ih'
    · simp [fdel, ffind, hj, ih']

/-- A change of values that leaves the keys finds the same keys. -/
theorem ffind_map_isSome {α : Type} {f : Nat × α → Nat × α} (hf : ∀ p, (f p).1 = p.1) (l : FMap α) (k : Nat) :
    (ffind (l.map f) k).isSome = (ffind l k).isSome := by
  induction l with
  | nil => rfl
  | cons p t ih =>
    rw [List.map_cons]
    by_cases hk : p.1 = k
    · simp [ffind, hf, hk]
    · simp [ffind, hf, hk, ih]

/-! ### The checks of a request (R530, R535, R536) -/

/-- A request of a session that has not passed AUTH is refused (log entry 61). -/
theorem Mach.request_of_unauthenticated {m : Mach} {x : HyMsg} {op : Nat} {c : Session} (f : Session → Mach → Mach)
    (h : m.hears x op c) (hno : c.authed = false) (hop : op ≠ 2) :
    m.request x op f = (m.heard x).respond c.kRsp op x.src x.sid x.seq .accessDenied [] [] := by
  obtain ⟨htakes, hblocked, hformed, hfind, hmac, hseq⟩ := h
  have hlast : ¬ (decide (x.seq = c.lastSeq) && decide (x.mac = c.lastMac)) = true := by simp; omega
  unfold Mach.request Mach.heard
  simp only [htakes, hblocked, hformed, hfind, ← hmac, hseq, hno, hop, bne_self_eq_false, if_neg, Bool.not_true, Bool.or_false,
    Bool.not_false, Bool.true_and, bne_iff_ne, ne_eq, not_false_eq_true, if_true, Bool.false_eq_true,
    Nat.succ_ne_self, decide_false, Bool.false_and]

section
variable {m : Mach} {x : HyMsg} {op : Nat} {c : Session} (f : Session → Mach → Mach)
  (htakes : m.takesFrom x.net = true) (hblocked : m.isBlocked x.src = false) (hformed : hyFormed x = true)
  (hfind : ffind m.hy.sessions x.sid = some c)
include htakes hblocked hformed hfind

/-- A wrong MAC is recorded and counted (R530). -/
theorem Mach.request_of_wrongMac (hmac : x.mac ≠ hyExpected x c.kReq op) :
    m.request x op f = (m.record 0x0D04 x.sid 1).hyCount 2 := by
  simp [Mach.request, htakes, hblocked, hformed, hfind, hmac]

/-- A number that is not the next, and not that of the last request again, is stale (R536). -/
theorem Mach.request_of_stale (hmac : x.mac = hyExpected x c.kReq op) (hagain : ¬ (x.seq = c.lastSeq ∧ x.mac = c.lastMac))
    (hnext : x.seq ≠ c.lastSeq + 1) : m.request x op f =
      (m.hyCount 3).sendOn x.net (hyResponse c.kRsp op x.src x.sid x.seq .staleSequence [] []) := by
  have hlast : (decide (x.seq = c.lastSeq) && decide (x.mac = c.lastMac)) = false := by
    rw [← Bool.decide_and]; exact decide_eq_false hagain
  simp only [Mach.request, htakes, hblocked, hformed, hfind, hlast, bne_iff_ne.mpr hnext, bne_eq_false_iff_eq.mpr hmac,
    Bool.not_true, Bool.or_false, Bool.false_eq_true, if_false, if_true]

/-- The last request again is answered with what was kept (R536). -/
theorem Mach.request_of_again {o : Out} (hmac : x.mac = hyExpected x c.kReq op) (hseq : x.seq = c.lastSeq) (hlast : x.mac = c.lastMac)
    (hkept : c.kept = some o) : m.request x op f =
      ((m.hyCount 4).onSession x.sid (fun s => { s with net := x.net, lastReq := m.now })).sendOn x.net (o.sentTo x.src) := by
  simp only [Mach.request, htakes, hblocked, hformed, hfind, bne_eq_false_iff_eq.mpr hmac, decide_eq_true hseq, decide_eq_true hlast,
    hkept, Bool.not_true, Bool.or_false, Bool.false_eq_true, if_false, Bool.and_true, if_true]
end

/-- Settles O51: one lemma for each outcome of the checks. -/
theorem requestsAreCheckedFirst : Obligations.RequestsAreCheckedFirst := by
  unfold Obligations.RequestsAreCheckedFirst
  intro m x op c f
  refine ⟨Mach.request_of_hears, Mach.request_of_unauthenticated f, fun hblocked => ?_, fun hlost => ?_,
    fun htakes hblocked hformed hfind => ⟨?_, ?_, ?_, ?_⟩⟩
  · exact if_pos (by simp [hblocked])
  · exact if_pos (by simp [hlost])
  · exact Mach.request_of_wrongMac f htakes hblocked hformed hfind
  · intro hmac hseq hnext
    exact Mach.request_of_stale f htakes hblocked hformed hfind hmac (fun h => hseq h.1) hnext
  · intro hmac hseq hlast
    exact Mach.request_of_stale f htakes hblocked hformed hfind hmac (fun h => hlast h.2) (by omega)
  · intro o hmac hseq hlast hkept
    exact Mach.request_of_again f htakes hblocked hformed hfind hmac hseq hlast hkept

/-! ### Sessions -/

/-- A HELLO that passes every check opens a session with the next number (R532, R533). -/
theorem Mach.hello_of_opens {m : Mach} {x : HyMsg} (htakes : m.takesFrom x.net = true) (hblocked : m.isBlocked x.src = false)
    (hformed : hyFormed x = true) (hsid : x.sid = 0) (hseq : x.seq = 0) (hmac : x.mac = List.replicate 32 0)
    (hlen : x.body.length = 84) (hzero : leAt x.body 1 3 = 0) (hlow : 1 ≤ leAt x.body 0 1) (hhigh : leAt x.body 0 1 ≤ 4)
    (hpoint : (ecPoint (slice x.body 20 64)).isSome = true) (hroom : m.hy.sessions.length < 16) :
    m.hello x = Mach.sendOn { m.drawn.drawn.drawn with hy := { m.hy with
        sessions := fset m.hy.sessions m.hy.nextSid (m.newSession x (m.randomBytes 16) (m.drawn.randomBytes 32))
        nextSid := m.hy.nextSid + 1 } } x.net
      (.response x.src m.hy.nextSid 0 .ok []
        (m.randomBytes 16 ++ ecBytes (ecMul 256 (scalarOf (m.drawn.randomBytes 32)) p256G) ++ m.drawn.drawn.randomBytes 64)
        (List.replicate 32 0)) := by
  have hdiscard : (!m.takesFrom x.net || m.isBlocked x.src || !hyFormed x || x.sid != 0 || x.seq != 0
      || x.mac != List.replicate 32 0) = false := by
    simp only [htakes, hblocked, hformed, hsid, hseq, hmac, bne_self_eq_false, Bool.not_true, Bool.or_false]
  have hrange : (x.body.length != 84 || leAt x.body 1 3 != 0 || decide (leAt x.body 0 1 = 0) || decide (4 < leAt x.body 0 1)
      || (ecPoint (slice x.body 20 64)).isNone) = false := by
    have hpoint' : (ecPoint (slice x.body 20 64)).isNone = false := by
      rw [Option.isNone_eq_false_iff]; exact hpoint
    rw [hlen, hzero, hpoint', decide_eq_false (by omega : ¬ leAt x.body 0 1 = 0), decide_eq_false (by omega : ¬ 4 < leAt x.body 0 1)]
    rfl
  unfold Mach.hello
  simp only [hdiscard, hrange, Nat.not_le.mpr hroom, Bool.false_eq_true, if_false]

/-- AUTH by a key of the session's level is decided by its signature (R534, R535). -/
theorem Mach.auth_of_key {m : Mach} {x : HyMsg} {c : Session} (h : m.hears x 2 c) (hnew : c.authed = false)
    (hkey : (m.heard x).keyMatches c.level (slice x.body 0 64) = true) (hlen : x.body.length = 128) :
    m.auth x =
      if ecdsaOk (slice x.body 0 64) (sha256 (c.transcript ++ ascii "auth")) (slice x.body 64 64) = true then
        ((m.heard x).takeIn x.sid c.level).respond c.kRsp 2 x.src x.sid x.seq .ok [] []
      else ((m.heard x).respond c.kRsp 2 x.src x.sid x.seq .authFailed [] []).refuseAuth x.src c.level := by
  rw [Mach.auth, Mach.request_of_hears h (.inr rfl)]
  simp only [hnew, hkey, hlen, decide_true, Bool.true_and, Bool.false_eq_true, if_false, if_true]

/-- Recording keeps which sessions exist, the request that runs and those that wait (R550). -/
theorem Mach.recordRec_hy (m : Mach) (y : Rec) : (m.recordRec y).hy.run = m.hy.run ∧ (m.recordRec y).hy.queue = m.hy.queue
    ∧ ∀ c, (ffind (m.recordRec y).hy.sessions c).isSome = (ffind m.hy.sessions c).isSome := by
  obtain ⟨r, hr⟩ := m.recordQuiet_cases y
  unfold Mach.recordRec
  split
  · next m' e =>
    have hm : m' = { m with recorder := r } := by rw [← hr, e]
    subst hm
    exact ⟨rfl, rfl, fun c => rfl⟩
  · next m' z e =>
    have hm : m' = { m with recorder := r } := by rw [← hr, e]
    subst hm
    obtain ⟨r', h'⟩ := Mach.recordDropped_cases (notifySessions m.hy.sessions z).2
      { m with recorder := r, hy := { m.hy with
        sessions := (notifySessions m.hy.sessions z).1, counters := bump m.hy.counters 6 (notifySessions m.hy.sessions z).2.length } }
    simp only [h']
    refine ⟨trivial, trivial, fun c => ffind_map_isSome (fun p => ?_) _ _⟩
    split <;> rfl

/-- The module with a session taken out: what `Mach.closeSession` then records the end of. -/
def Mach.withoutSession (m : Mach) (sid : Nat) : Mach :=
  { m with hy := { m.hy with
    sessions := fdel m.hy.sessions sid
    run := match m.hy.run with | some r => if r.sid = sid then none else some r | none => none
    queue := m.hy.queue.filter (fun r => r.sid != sid) } }

/-- An end takes the session out and records it (R535). -/
theorem Mach.closeSession_eq (m : Mach) (sid cause : Nat) :
    m.closeSession sid cause = (m.withoutSession sid).record 0x0D02 sid cause := rfl

/-- No request of a session that was taken out runs. -/
theorem Mach.withoutSession_run {m : Mach} {sid : Nat} {r : HyRun} (h : (m.withoutSession sid).hy.run = some r) : r.sid ≠ sid := by
  unfold Mach.withoutSession at h
  dsimp only at h
  split at h
  · split at h
    · cases h
    · cases h
      assumption
  · cases h

/-- A session that ends exists no more; nothing of it runs or waits, and the other sessions stay (R531, R535). -/
theorem Mach.closeSession_hy (m : Mach) (sid cause : Nat) :
    ffind (m.closeSession sid cause).hy.sessions sid = none
      ∧ (∀ c, c ≠ sid → (ffind (m.closeSession sid cause).hy.sessions c).isSome = (ffind m.hy.sessions c).isSome)
      ∧ (∀ r ∈ (m.closeSession sid cause).hy.queue, r.sid ≠ sid)
      ∧ (∀ r, (m.closeSession sid cause).hy.run = some r → r.sid ≠ sid) := by
  obtain ⟨hrun, hqueue, hsessions⟩ := (m.withoutSession sid).recordRec_hy
    ((m.withoutSession sid).mkRec 0x0D02 sid cause (m.withoutSession sid).webLine false)
  rw [Mach.closeSession_eq, Mach.record, Mach.recordAt, hrun, hqueue]
  refine ⟨?_, fun c hc => ?_, fun r hr => ?_, fun r hr => Mach.withoutSession_run hr⟩
  · have hgone : (ffind (m.withoutSession sid).hy.sessions sid).isSome = false := by
      rw [Mach.withoutSession, ffind_fdel_same]; rfl
    rw [← Option.not_isSome_iff_eq_none, hsessions, hgone]
    exact Bool.false_ne_true
  · rw [hsessions, Mach.withoutSession, ffind_fdel_other hc]
  · simpa using (List.mem_filter.mp hr).2

/-- Settles O52: an open, an authentication and an end each by its lemma (`Mach.closeSession_hy` for what an end leaves). -/
theorem sessionsOpenAndEnd : Obligations.SessionsOpenAndEnd := by
  unfold Obligations.SessionsOpenAndEnd
  refine ⟨⟨?_, ?_, ?_, ?_, ?_⟩, Mach.closeSession_hy⟩
  · intro dt x s m nm secret hm htakes hblocked hformed hsid hseq hmac hlen hzero hlow hhigh hpoint hroom hnm hsecret
    subst hnm hsecret
    rw [exec_hello]
    exact State.act_of_found hm (Mach.hello_of_opens htakes hblocked hformed hsid hseq hmac hlen hzero hlow hhigh hpoint hroom)
  · intro dt x c s m hm hears hnew hkey hlen
    refine ⟨fun hgood => ?_, fun hbad => ?_⟩ <;> rw [exec_auth] <;>
      refine State.act_of_found hm ((Mach.auth_of_key hears hnew hkey hlen).trans ?_)
    · exact if_pos hgood
    · exact if_neg (by rw [hbad]; exact Bool.false_ne_true)
  · intro dt x c s m hm hauth
    refine ⟨fun hears => ?_, fun hears => ?_⟩
    · rw [exec_close]
      exact State.act_of_found hm (Mach.request_of_hears hears (.inl hauth))
    · rw [exec_keepalive]
      exact State.act_of_found hm (Mach.request_of_hears hears (.inl hauth))
  · intro dt sid c s m hm hfind
    refine ⟨fun hno hover => ?_, fun hauth => ?_, fun hover => ?_, fun hintime => ?_⟩
    · rw [exec_authTimeout]
      exact State.act_of_found hm (by simp [hfind, hno, hover])
    · rw [exec_authTimeout]
      exact State.act_of_found hm (by simp [hfind, hauth])
    · rw [exec_idleTimeout]
      exact State.act_of_found hm (by simp only [hfind]; exact if_pos hover)
    · rw [exec_idleTimeout]
      exact State.act_of_found hm (by simp only [hfind]; exact if_neg (Nat.not_le.mpr hintime))
  · intro dt src s m hm hkept hover
    rw [exec_authBlockExpiry]
    exact State.act_of_found hm (if_pos (by rw [hkept, hover]; rfl))

/-! ### Transfers (R543 to R546) -/

/-- A single module opens a transfer that passes every check, with the next numbers (R543). -/
theorem Mach.bulkOpen_of_opens {m : Mach} {x : HyMsg} {c : Session} (hears : m.hears x 0x20 c) (hauth : c.authed = true)
    (hlevel : levelHas c.level 10 = true) (hsingle : (m.heard x).pair.role = 0) (hmode : (m.heard x).stages = true)
    (hok : openOk x.body = true) (hfew : ((m.heard x).hy.transfers.filter (fun t => t.2.state = 0)).length < 8)
    (hroom : (m.heard x).roomFor (openedContent x.body) = true) (hbytes : (openedContent x.body).streamBytes ≠ 0) :
    m.bulkOpen x = (Mach.startTransfer { m.heard x with hy := { (m.heard x).hy with
        nextTransfer := ((m.heard x).hy.nextTransfer + 1) % 2 ^ 32, nextHandle := 1 + (m.heard x).freeHandle % 0xFFFFFFFE } }
          (m.heard x).hy.nextTransfer (m.heard x).freeHandle x.net x.body).respond c.kRsp 0x20 x.src x.sid x.seq .ok []
            (leBytes 4 (m.heard x).hy.nextTransfer ++ leBytes 4 (m.heard x).freeHandle ++ leBytes 4 8192) := by
  have hpaired : (m.heard x).paired = false := by simp [Mach.paired, hsingle]
  rw [Mach.bulkOpen, Mach.request_of_hears hears (.inl hauth)]
  generalize m.heard x = n at *
  have hrole : (Mach.startTransfer { n with hy := { n.hy with
      nextTransfer := (n.hy.nextTransfer + 1) % 2 ^ 32, nextHandle := 1 + n.freeHandle % 0xFFFFFFFE } }
        n.hy.nextTransfer n.freeHandle x.net x.body).pair.role = 0 := hsingle
  simp only [hlevel, hpaired, hmode, hok, Nat.not_le.mpr hfew, hroom, hbytes, Mach.inStepPeer, Mach.joiningPeer, hrole,
    Bool.not_true, Bool.false_and, Bool.or_self, Bool.false_eq_true, if_false, Nat.zero_ne_one, decide_false]

/-- A transfer that has ended does not time out (R546). -/
theorem Mach.bulkTimeout_of_ended {m : Mach} {tid : Nat} {t : Transfer} (h : ffind m.hy.transfers tid = some t)
    (hstate : t.state ≠ 0) : m.bulkTimeout tid = m := by
  simp [Mach.bulkTimeout, h, hstate]

/-- An open transfer fails once it has been silent for BULK_TIMEOUT (R546). -/
theorem Mach.bulkTimeout_of_open {m : Mach} {tid : Nat} {t : Transfer} (h : ffind m.hy.transfers tid = some t)
    (hstate : t.state = 0) : m.bulkTimeout tid =
      if t.lastChunk + m.nat 0x1201 2 0 * 1000000 ≤ m.now then m.failTransfer tid 2 else m := by
  simp only [Mach.bulkTimeout, h, hstate, decide_true, Bool.true_and, decide_eq_true_eq]

/-- The status of a transfer that has ended is told (R546). -/
theorem Mach.bulkStatus_of_ended {m : Mach} {x : HyMsg} {c : Session} {t : Transfer} (hears : m.hears x 0x21 c)
    (hauth : c.authed = true) (hfind : ffind (m.heard x).hy.transfers (leAt x.body 0 4) = some t) (hstate : t.state ≠ 0) :
    m.bulkStatus x = (m.heard x).respond c.kRsp 0x21 x.src x.sid x.seq .ok [] t.status := by
  rw [Mach.bulkStatus, Mach.request_of_hears hears (.inl hauth)]
  simp only [Mach.bulkTimeout_of_ended hfind hstate, hfind]

/-- A close makes the transfer fail (R546). -/
theorem Mach.bulkClose_of_known {m : Mach} {x : HyMsg} {c : Session} {t : Transfer} (hears : m.hears x 0x22 c)
    (hauth : c.authed = true) (hfind : ffind (m.heard x).hy.transfers (leAt x.body 0 4) = some t) :
    m.bulkClose x = ((m.heard x).failTransfer (leAt x.body 0 4) 4).respond c.kRsp 0x22 x.src x.sid x.seq .ok [] [] := by
  rw [Mach.bulkClose, Mach.request_of_hears hears (.inl hauth)]
  simp only [hfind]

/-- A chunk of an open transfer that does not complete it: its new bytes are kept (R545). -/
theorem Mach.bulkChunk_of_part {m : Mach} {d : Bytes} {t : Transfer} (hup : m.hyUp = true) (hok : chunkOk d = true)
    (hfind : ffind m.hy.transfers (leAt d 0 4) = some t) (hstate : t.state = 0) (hfits : leAt d 8 8 + leAt d 4 2 ≤ t.total)
    (hwhole : leAt d 4 2 % 64 = 0 ∨ leAt d 8 8 + leAt d 4 2 = t.total) (hclean : bit m.mem.quarantine (12 + t.net) = false)
    (hmore : missing (addRange t.received (leAt d 8 8, leAt d 8 8 + leAt d 4 2)) 0 t.total ≠ []) :
    m.bulkChunk d = { m with hy := { m.hy with transfers := fset m.hy.transfers (leAt d 0 4) { t with
      received := addRange t.received (leAt d 8 8, leAt d 8 8 + leAt d 4 2), lastChunk := m.now
      data := ((missing t.received (leAt d 8 8) (leAt d 8 8 + leAt d 4 2)).map
        (fun r => (r.1, slice d (16 + (r.1 - leAt d 8 8)) (r.2 - r.1)))).foldl addPiece t.data } } } := by
  have htaken : (t.state != 0 || decide (t.total < leAt d 8 8 + leAt d 4 2)
      || (leAt d 4 2 % 64 != 0 && leAt d 8 8 + leAt d 4 2 != t.total)) = false := by
    rw [hstate, decide_eq_false (Nat.not_lt.mpr hfits)]
    rcases hwhole with h | h <;> simp [h]
  simp only [Mach.bulkChunk, hup, hok, hfind, htaken, hclean, List.isEmpty_eq_false_iff.mpr hmore, Bool.not_true, Bool.or_false,
    Bool.false_eq_true, if_false]

/-! ### Subscriptions and notices (R549, R550) -/

/-- Records wait for a session: up to 32 leave in one notice with the next number (R550). -/
theorem Mach.notice_of_waiting {m : Mach} {sid : Nat} {c : Session} (hfind : ffind m.hy.sessions sid = some c)
    (hup : m.hyUp = true) (hwaits : c.waiting ≠ []) :
    m.notice sid = (m.onSession sid (fun s => { s with
      noticeSeq := s.noticeSeq + 1, waiting := s.waiting.drop 32 })).sendOn c.net
        (hyNotice c.kRsp sid (c.noticeSeq + 1) (c.waiting.take 32)) := by
  simp only [Mach.notice, hfind, hup, List.isEmpty_eq_false_iff.mpr hwaits, Bool.not_true, Bool.or_false, Bool.false_eq_true, if_false]

/-- What a subscription does, by what it asks for (R549). -/
theorem Mach.subscribe_of_hears {m : Mach} {x : HyMsg} {c : Session} (hears : m.hears x 0x30 c) (hauth : c.authed = true)
    (hlen : 4 ≤ x.body.length) : m.subscribe x =
      if leAt x.body 0 1 = 0 then ((m.heard x).onSession x.sid (fun s => { s with
        eventMask := some (leAt x.body 2 2) })).respond c.kRsp 0x30 x.src x.sid x.seq .ok [] []
      else if leAt x.body 0 1 = 1 then ((m.heard x).onSession x.sid (fun s => { s with
        preview := some (leAt x.body 1 1, leAt x.body 2 2) })).respond c.kRsp 0x30 x.src x.sid x.seq .ok [] []
      else (m.heard x).respond c.kRsp 0x30 x.src x.sid x.seq .outOfRange [] [] := by
  rw [Mach.subscribe, Mach.request_of_hears hears (.inl hauth), if_neg (Nat.not_lt.mpr hlen)]
  split
  · next h => exact (if_pos h).symm
  · next h => rw [if_neg (by omega), if_pos h]
  · next h0 h1 => exact ((if_neg h0).trans (if_neg h1)).symm

/-- What the end of a subscription does, by what it ends (R531). -/
theorem Mach.unsubscribe_of_hears {m : Mach} {x : HyMsg} {c : Session} (hears : m.hears x 0x31 c) (hauth : c.authed = true)
    (hbody : x.body ≠ []) : m.unsubscribe x =
      if leAt x.body 0 1 = 0 then ((m.heard x).onSession x.sid (fun s => { s with
        eventMask := none, waiting := [] })).respond c.kRsp 0x31 x.src x.sid x.seq .ok [] []
      else if leAt x.body 0 1 = 1 then ((m.heard x).onSession x.sid (fun s => { s with
        preview := none })).respond c.kRsp 0x31 x.src x.sid x.seq .ok [] []
      else (m.heard x).respond c.kRsp 0x31 x.src x.sid x.seq .outOfRange [] [] := by
  rw [Mach.unsubscribe, Mach.request_of_hears hears (.inl hauth),
    if_neg (by rw [List.isEmpty_eq_false_iff.mpr hbody]; exact Bool.false_ne_true)]
  split
  · next h => exact (if_pos h).symm
  · next h => rw [if_neg (by omega), if_pos h]
  · next h0 h1 => exact ((if_neg h0).trans (if_neg h1)).symm

/-- Settles O54: each message's own lemma says what it leaves. -/
theorem transfersAndSubscriptions : Obligations.TransfersAndSubscriptions := by
  unfold Obligations.TransfersAndSubscriptions
  refine ⟨⟨?_, ?_, ?_, ?_, ?_⟩, ?_, ?_, ?_⟩
  · intro dt x c s m n hm hears hauth hn hlevel hsingle hmode hok hfew hroom hbytes
    subst hn
    rw [exec_bulkOpen]
    exact State.act_of_found hm (Mach.bulkOpen_of_opens hears hauth hlevel hsingle hmode hok hfew hroom hbytes)
  · intro dt tid x c t s m n hm hauth hn htid hfind
    subst hn htid
    refine ⟨fun hears hstate => ?_, fun hears => ?_⟩
    · rw [exec_bulkStatus]
      exact State.act_of_found hm (Mach.bulkStatus_of_ended hears hauth hfind hstate)
    · rw [exec_bulkClose]
      exact State.act_of_found hm (Mach.bulkClose_of_known hears hauth hfind)
  · intro dt n off d t s m hm hup hok hn hoff hfind hstate hfits hwhole hclean hmore
    subst hn hoff
    rw [exec_bulkChunk]
    exact State.act_of_found hm (Mach.bulkChunk_of_part hup hok hfind hstate hfits hwhole hclean hmore)
  · intro dt d s hbad
    rw [exec_bulkChunk]
    exact State.act_of_found rfl (if_pos (by simp [hbad]))
  · intro dt tid t s m hm hfind hstate
    refine ⟨fun hover => ?_, fun hintime => ?_⟩ <;> rw [exec_bulkTimeout] <;>
      refine State.act_of_found hm ((Mach.bulkTimeout_of_open hfind hstate).trans ?_)
    · exact if_pos hover
    · exact if_neg (Nat.not_le.mpr hintime)
  · intro dt x c s m n hm hears hauth hn hlen
    subst hn
    refine ⟨fun hkind => ?_, fun hkind => ?_, fun hkind => ?_⟩ <;> rw [exec_subscribe] <;>
      refine State.act_of_found hm ((Mach.subscribe_of_hears hears hauth hlen).trans ?_)
    · exact if_pos hkind
    · exact (if_neg (by omega)).trans (if_pos hkind)
    · exact (if_neg (by omega)).trans (if_neg (by omega))
  · intro dt x c s m n hm hears hauth hn hbody
    subst hn
    refine ⟨fun hkind => ?_, fun hkind => ?_⟩ <;> rw [exec_unsubscribe] <;>
      refine State.act_of_found hm ((Mach.unsubscribe_of_hears hears hauth hbody).trans ?_)
    · exact if_pos hkind
    · exact (if_neg (by omega)).trans (if_pos hkind)
  · intro dt sid c s m hm hfind hup hwaits
    rw [exec_notice]
    exact State.act_of_found hm (Mach.notice_of_waiting hfind hup hwaits)

end Sys2Proof.Machine

/-! The dictionary's reads and writes; the recorder, the settings store and the camera calibration (R541, R542, R548, R557, R571,
R573, R587 to R609). -/

namespace Sys2Proof.Machine

/-! ### The dictionary -/

/-- What a write of DICT_QUERY that is admitted does (R557): its top bit asks for the next object. -/
theorem Mach.writeQuery_of_admits {m : Mach} {w : Who} {v : Nat} (h : m.admits w 0x1100 0 v = true) :
    (bit v 31 = false → m.writeQuery w v = (m.setLocals w { m.locals w with query := v }).reply w 0x1100 0 .ok)
    ∧ (∀ q, bit v 31 = true → nextObject (bits v 0 24) = some q →
      m.writeQuery w v = (m.setLocals w { m.locals w with query := q }).reply w 0x1100 0 .ok) := by
  rw [Mach.writeQuery, Mach.guardedNum_of_admits h]
  refine ⟨fun hthis => ?_, fun q hnext hq => ?_⟩
  · exact if_pos (by rw [hthis]; rfl)
  · simp only [hnext, hq, Bool.not_true, Bool.false_eq_true, if_false]

/-- What a write of CONTENT_RELEASE that names a content does (R548). -/
theorem Mach.writeContentRelease_of_admits {m : Mach} {w : Who} {h : Nat} (ha : m.admits w 0x1224 0 h = true)
    (hc : (m.content h).isSome = true) : m.writeContentRelease w h =
      if m.contentHeld h = true then m.reply w 0x1224 0 .busy
      else Mach.acceptNum { m.freeBuffers h with frc := { (m.freeBuffers h).frc with
        objects := fdel (m.freeBuffers h).frc.objects h, queue := (m.freeBuffers h).frc.queue.filter (· != h) } } w 0x1224 0 0 4 h := by
  have hknown : ¬ (m.content h).isNone = true := by rw [Option.isNone_iff_eq_none, ← ne_eq, Option.ne_none_iff_isSome]; exact hc
  rw [Mach.writeContentRelease, Mach.guardedNum_of_admits ha]
  exact if_neg hknown

/-- What a segment of job memory answers where the session may read it (R573). -/
theorem Mach.jobMemSegment_of_allowed {m : Mach} {w : Who} {length : Nat} (mem : List Host.Cell) (offset : Nat)
    (hgate : m.readGate w 0x1105 0 false = .ok) (hmode : m.sys.mode ≠ .boot) (hlen : 1 ≤ length) :
    m.jobMemSegment mem w offset length =
      if 8192 < length ∨ 2 ^ 35 < (m.locals w).memBase + offset + length then .error .outOfRange
      else .ok (m.jobBytes mem ((m.locals w).memBase + offset) length) := by
  have hlen' : length ≠ 0 := by omega
  simp only [Mach.jobMemSegment, hgate, hmode, if_false, hlen', decide_false, Bool.false_or, Bool.or_eq_true, decide_eq_true_eq]

/-- What a consuming read answers (R542). -/
theorem Mach.readObj_of_consume {m : Mach} {w : Who} {idx sub : Nat} (h : m.answers w = true) :
    (∀ b n, m.look w idx sub true = .ok (b, n) → m.readObj w idx sub true = (m.looked w idx true).emit (.value w idx sub b n))
    ∧ (∀ st, m.look w idx sub true = .error st → m.readObj w idx sub true = m.reply w idx sub st) := by
  refine ⟨fun b n hlook => ?_, fun st hlook => ?_⟩ <;>
    simp only [Mach.readObj, h, hlook, Bool.not_true, Bool.and_false, Bool.false_eq_true, if_false]

/-- Settles O55: what is stored goes through `Mach.writeObj_stored`; each other message has its own lemma. -/
theorem theDictionaryReadsAndWrites : Obligations.TheDictionaryReadsAndWrites := by
  unfold Obligations.TheDictionaryReadsAndWrites
  refine ⟨⟨?_, ?_, ?_, ?_⟩, ?_, ?_⟩
  · intro dt sid idx sub data s m n o vals hm ho ha hgate hplain hown hn hstored
    rw [exec_dictWrite]
    exact State.actUser_of_found hm (Mach.writeObj_stored ho ha hgate hplain hown hn hstored)
  · intro dt sid v s m hm h
    obtain ⟨hthis, hnext⟩ := Mach.writeQuery_of_admits h
    refine ⟨fun hbit => ?_, fun q hbit hq => ?_⟩
    · rw [exec_dictQuery]
      exact State.act_of_found hm (hthis hbit)
    · rw [exec_dictQuery]
      exact State.act_of_found hm (hnext q hbit hq)
  · intro dt sid h s m n hm ha hc
    refine ⟨fun hfree hn => ?_, fun hheld => ?_⟩
    · subst hn
      rw [exec_contentRelease]
      refine State.act_of_found hm ((Mach.writeContentRelease_of_admits ha hc).trans ?_)
      exact if_neg (by rw [hfree]; exact Bool.false_ne_true)
    · rw [exec_contentRelease]
      exact State.act_of_found hm ((Mach.writeContentRelease_of_admits ha hc).trans (if_pos hheld))
  · intro dt sid offset length a s m hm hanswers hgate hmode ha hlen
    subst ha
    have hsegment := Mach.jobMemSegment_of_allowed s.mem offset hgate hmode hlen
    refine ⟨fun hshort hinside => ?_, fun hlong => ?_⟩ <;> rw [exec_jobMemRead] <;> refine State.act_of_found hm ?_
    · rw [if_neg (by omega)] at hsegment
      simp only [hanswers, hsegment, if_true]
    · rw [if_pos (.inl hlong)] at hsegment
      simp only [hanswers, hsegment, if_true]
  · intro dt sid idx sub n b s m hm hanswers hlook
    rw [exec_rcConsume]
    exact State.act_of_found hm ((Mach.readObj_of_consume hanswers).1 b n hlook)
  · intro dt sid idx sub st s m hm hanswers hlook
    rw [exec_rcConsume]
    exact State.act_of_found hm ((Mach.readObj_of_consume hanswers).2 st hlook)

/-! ### The recorder and the settings store -/

/-- A record closes once its window has passed without a merge (R587). -/
theorem Mach.windowClose_of_open {m : Mach} {k : Nat} {o : OpenRec} (h : m.recorder.openRecs[k]? = some o) :
    m.windowClose k = if o.lastAt + m.nat 0xB001 0 0 * 1000000 < m.now then { m with recorder := m.recorder.closeAt k } else m := by
  simp only [Mach.windowClose, h, decide_eq_true_eq]

/-- What a clear of the recorder leaves, by its layout (R593). -/
theorem Mach.writeRecorderClear_of_admits {m : Mach} {w : Who} (h : m.admits w 0xB020 0 1 = true) :
    m.writeRecorderClear w 1 = (if m.recorder.layout = 1 then
        ({ m with recorder := { m.recorder with fore := [], areaFull := false } }).record 0x0F0A m.recorder.fore.length 1
      else ({ m with recorder := { m.recorder with
        last := [], lastBase := 0, areaFull := false
        openRecs := m.recorder.openRecs.filter (fun o => decide (o.r.num < 1024)) } }).record 0x0F0A
          m.recorder.lastView.1.length 0).acceptNum w 0xB020 0 0 1 1 := by
  rw [Mach.writeRecorderClear, Mach.guardedNum_of_admits (v := ((1 : Nat) : Int)) h]
  exact if_neg one_ne_zero

/-- What a save does: it waits for its write, unless one waits already (R608). -/
theorem Mach.writeStoreSave_of_admits {m : Mach} {w : Who} (h : m.admits w 0xE001 0 1 = true) :
    m.writeStoreSave w 1 = if m.store.saver.isSome = true then m.reply w 0xE001 0 .busy
      else { m.queueItem m.configItem with store := { (m.queueItem m.configItem).store with saver := some w } } := by
  rw [Mach.writeStoreSave, Mach.guardedNum_of_admits (v := ((1 : Nat) : Int)) h]
  exact if_neg one_ne_zero

/-- What the end of a write of the store does: its item is kept, and a first failure is tried once more (R609). -/
theorem Mach.storeWritten_of_writes {m : Mach} {x : StoreItem} {retry : Bool} {rest : List (StoreItem × Bool)}
    (h : m.store.writes = (x, retry) :: rest) {n : Mach}
    (hn : { m.drawn with store := { m.store with erasesMax := max m.store.erasesMax (m.freeNat % 2 ^ 32) } } = n) :
    m.storeWritten true = Mach.saveEnds { n with store := { n.store with writes := rest, items := keepCopies n.store.items x } } x true
    ∧ (retry = false → m.storeWritten false = { n with store := { n.store with writes := (x, true) :: rest } }) := by
  subst hn
  refine ⟨?_, fun hfirst => ?_⟩
  · simp only [Mach.storeWritten, h, if_true]
  · simp only [Mach.storeWritten, h, hfirst, Bool.false_eq_true, if_false, Bool.not_false, if_true]

/-! ### Calibrations -/

/-- CAL_CAM_START makes every camera of the calibration due (R598). -/
theorem Mach.writeCalCamStart_of_admits {m : Mach} {w : Who} (h : m.admits w 0xE012 0 1 = true) :
    m.writeCalCamStart w 1 =
      (forEach m.calCams m (fun c acc => acc.onCam c (fun x => x.fallDue 1))).acceptNum w 0xE012 0 0 1 1 := by
  rw [Mach.writeCalCamStart, Mach.guardedNum_of_admits (v := ((1 : Nat) : Int)) h]
  simp only [if_true]

/-- A temperature of a camera that is calibrated, but not by its drift, is kept (R598). -/
theorem Mach.camTempRead_of_kept {m : Mach} {c : Nat} (hon : bit (m.calCfg c) 0 = true) (hreg : bits (m.calCfg c) 16 16 ≠ 0xFFFF)
    (hdrift : bit (m.calCfg c) 1 = false) (reg : Nat) :
    m.camTempRead c (some reg) = m.onCam c (fun x => { x with temp := some (m.camTemp c reg) }) := by
  simp only [Mach.camTempRead, hon, bne_iff_ne.mpr hreg, hdrift, Bool.and_self, if_true, Bool.false_and, Bool.false_eq_true, if_false]

/-- With a frame still wanted and nothing on the way, a lit frame of the calibration is triggered (R599). -/
theorem Mach.calFrame_of_lit {m : Mach} {c : Nat} (hphase : m.cal.phase = 2) (htakes : m.calTakes c = true)
    (hdark : (ffind m.cal.black c).isSome = true) (hcause : ffind m.cal.cause c = none) (htrig : (m.cam c).lastTrig = none)
    (hcur : (m.cam c).cur = none) (hshots : (m.cam c).shots = []) (hlit : (fget m.cal.lit c []).length < 3) :
    m.calFrame c = m.issue c noLine 0xFF m.enc.raw true true := by
  have hdark' : (ffind m.cal.black c).isNone = false := by rw [Option.isNone_eq_false_iff]; exact hdark
  have hsoon : m.trigTooSoon c = false := by simp [Mach.trigTooSoon, htrig]
  simp [Mach.calFrame, hphase, htakes, hdark', hcause, hsoon, hcur, hshots, hlit]

/-- Settles O56: each message's own lemma says what it leaves. -/
theorem recordsItemsAndCalibrations : Obligations.RecordsItemsAndCalibrations := by
  unfold Obligations.RecordsItemsAndCalibrations
  refine ⟨⟨?_, ?_, ?_, ?_⟩, ?_, ?_, ?_, ?_, ?_, ?_, ?_⟩
  · intro dt k o s m hm ho
    refine ⟨fun hover => ?_, fun hintime => ?_⟩ <;> rw [exec_recordWindowClose] <;>
      refine State.act_of_found hm ((Mach.windowClose_of_open ho).trans ?_)
    · exact if_pos hover
    · exact if_neg (Nat.not_lt.mpr hintime)
  · intro dt sid s m hm h
    refine ⟨fun hlayout => ?_, fun hlayout => ?_⟩ <;> rw [exec_recorderClear] <;>
      refine State.act_of_found hm ((Mach.writeRecorderClear_of_admits h).trans ?_)
    · rw [if_pos hlayout]
    · rw [if_neg hlayout]
  · intro dt sid s m n hm h
    refine ⟨fun hnone hn => ?_, fun hsaves => ?_⟩
    · subst hn
      rw [exec_storeSave]
      refine State.act_of_found hm ((Mach.writeStoreSave_of_admits h).trans ?_)
      exact if_neg (by rw [hnone]; exact Bool.false_ne_true)
    · rw [exec_storeSave]
      exact State.act_of_found hm ((Mach.writeStoreSave_of_admits h).trans (if_pos hsaves))
  · intro dt x retry rest s m n hm hwrites hn
    obtain ⟨hgood, hfirst⟩ := Mach.storeWritten_of_writes hwrites hn
    refine ⟨?_, fun hretry => ?_⟩ <;> rw [exec_storeWriteDone] <;> refine State.goesOn_of_becomes (State.act_of_found hm ?_)
    · exact hgood
    · exact hfirst hretry
  · intro dt sid v s m hm h
    rw [exec_calLinkMeasure]
    exact State.act_of_found hm (Mach.guardedNum_of_admits h _)
  · intro dt sid s m hm h
    rw [exec_calCamStart]
    exact State.act_of_found hm (Mach.writeCalCamStart_of_admits h)
  · intro dt c reg s m hc hm hon hreg hdrift
    rw [exec_camTempRead]
    exact State.actUnit_of_found hc hm (Mach.camTempRead_of_kept hon hreg hdrift reg)
  · intro dt c s hc
    rw [exec_camTempRead]
    exact State.actUnit_of_found hc rfl rfl
  · intro dt cause takes s m n hm hstart htakes hcause hn
    subst hcause htakes hn
    rw [exec_calCamStarted]
    exact State.act_of_found hm (if_pos hstart)
  · intro dt s m hm hsettled
    refine ⟨fun hphase => ?_, fun hphase => ?_⟩ <;> rw [exec_calArmSettle] <;> refine State.act_of_found hm ?_
    · exact if_pos (by simp [hphase, hsettled])
    · exact (if_neg (by simp [hphase])).trans (if_pos (by simp [hphase, hsettled]))
  · intro dt c s m hc hm hphase htakes hdark hcause htrig hcur hshots hlit
    rw [exec_calFrameTrigger]
    exact State.actUnit_of_found hc hm (Mach.calFrame_of_lit hphase htakes hdark hcause htrig hcur hshots hlit)

end Sys2Proof.Machine

/-! Mode requests and stationary firing (R613 to R629, R641, R642). -/

namespace Sys2Proof.Machine

/-! ### What a request that is taken does (R613 to R629) -/

section
variable {s : State} {dt sid : Nat} {m n : Mach}

/-- A request that is taken and changes the mode tells the standby, takes the mode and is answered (R443, R613). -/
theorem State.writeMode_of_taken {target : Mode} (hm : s.found dt = m) (h : m.takes sid target = true)
    (hn : m.takeMode (.host sid) target = n) : s.act dt (fun m => m.writeMode (.host sid) target) = s.becomes n :=
  State.act_of_found hm ((Mach.writeMode_of_takes h).trans hn)
end

/-- IDLE is requested outside SAFE: a change of mode (R613). -/
theorem Mach.takeMode_idle_of_change {m : Mach} (h : m.sys.mode ≠ .safe) (w : Who) :
    m.takeMode w .idle = m.changeMode w .idle m.webLine := if_neg h

/-- IDLE while the module does not print (R613). -/
theorem Mach.applyMode_idle_of_quiet {m : Mach} (h : m.printing = false) (line : Nat) : m.applyMode .idle line = m.toIdle :=
  if_neg (by rw [h]; exact Bool.false_ne_true)

/-- IDLE while the module prints: the run ends first (R613, R619). -/
theorem Mach.applyMode_idle_of_printing {m : Mach} (h : m.printing = true) (line : Nat) :
    m.applyMode .idle line = ((m.withStops (fun x => { x with
      gate := { x.gate with modeStop := true }, sys := { x.sys with holdRequested := false } })).leaveRun 1).toIdle := if_pos h

/-- ARMED with everything that it needs: a change of mode from the next line on (R614). -/
theorem Mach.takeMode_armed_of_ready {m : Mach} (hready : m.armRefused = false) (hfault : m.enc.fault = false) (w : Who) :
    m.takeMode w .armed = m.changeMode w .armed m.sys.nNext :=
  (if_neg (by rw [hready]; exact Bool.false_ne_true)).trans (if_neg (by rw [hfault]; exact Bool.false_ne_true))

/-- A request for PRINT from a mode that does not allow it is refused (R613). -/
theorem Mach.writeMode_of_notTarget {m : Mach} {w : Who} {target : Mode} (hanswers : m.answers w = true)
    (hpair : m.pairRefuses w 0x1011 = false) (hlevel : levelHas (m.level w) (modeLevels m.sys.mode target) = true)
    (hstarted : m.sys.mode ≠ .boot ∧ m.sys.mode ≠ .assemble) (hother : target ≠ m.sys.mode)
    (hnot : (modeTargets m.sys.mode).contains target = false) : m.writeMode w target = m.reply w 0x1011 0 .outOfRange := by
  unfold Mach.writeMode
  simp only [hanswers, hpair, hlevel, hstarted.1, hstarted.2, hnot, bne_iff_ne.mpr hother, Bool.not_true, Bool.or_self,
    Bool.false_eq_true, if_false, Bool.not_false, Bool.and_self, if_true, decide_false]

/-! ### A mode is entered (R641, R642) -/

/-- MODE holds the mode entered and the one before it; nothing of the web's motion, the ports, the seams or the gating changes. -/
theorem Mach.setMode_of_other {m : Mach} {t : Mode} (h : m.sys.mode ≠ t) :
    (m.setMode t).sys = { m.sys with mode := t, previous := m.sys.mode, enteredAt := m.linkTime } ∧ (m.setMode t).enc = m.enc
      ∧ (m.setMode t).ports = m.ports ∧ (m.setMode t).seams = m.seams ∧ (m.setMode t).gate = m.gate := by
  rw [Mach.setMode, if_neg h]
  exact ⟨Mach.record_sys _ _ _ _, Mach.record_enc _ _ _ _, Mach.record_ports _ _ _ _, Mach.record_seams _ _ _ _,
    Mach.record_gate _ _ _ _⟩

/-! ### Stationary firing (R620, R621) -/

/-- A start in PRIME or SERVICE whose period every port can keep runs as STATIONARY_FIRE says (R620). -/
theorem Mach.writeStationaryStart_of_allowed {m : Mach} {w : Who} (h : m.admits w 0x2025 0 1 = true)
    (hmode : m.sys.mode = .prime ∨ m.sys.mode = .service)
    (hperiod : (setBits (m.nat 0x2024 1 0) 64).any (fun p => decide (m.nat 0x2024 4 0 * 1000 < m.tMin p 0)) = false) :
    m.writeStationaryStart w 1 = m.startStationary.acceptNum w 0x2025 0 0 1 1 := by
  have hlocked : ¬ (m.sys.mode != .prime && m.sys.mode != .service) = true := by
    rcases hmode with hmode | hmode <;> rw [hmode] <;> decide
  rw [Mach.writeStationaryStart, Mach.guardedNum_of_admits (v := ((1 : Nat) : Int)) h]
  exact (if_neg one_ne_zero).trans ((if_neg hlocked).trans (if_neg (by rw [hperiod]; exact Bool.false_ne_true)))

/-- A line of stationary firing without an end that is due: every port of it fires, and the next line follows (R621). -/
theorem Mach.stationaryLine_of_due {m : Mach} (hactive : m.sys.stationary.active = true) (hmode : m.sys.mode = .prime)
    (hrole : m.pair.role = 0) (hdue : m.sys.stationary.dueAt ≤ m.now) (hleft : m.sys.stationary.left = none) {n : Mach}
    (hn : forEach (setBits m.sys.stationary.ports 64) m (fun p acc => acc.stationaryPort p m.sys.nNext) = n) :
    m.stationaryLine = { n with sys := { n.sys with
      nNext := m.sys.nNext + 1
      stationary := { m.sys.stationary with
        dueAt := m.now + m.sys.stationary.period, left := none, lineNo := m.sys.stationary.lineNo + 1, active := true } } } := by
  subst hn
  have hruns : (m.sys.stationary.active && (decide (m.sys.mode = .prime) || decide (m.sys.mode = .service))
      && (decide (m.pair.role = 0) || decide (m.pair.role = 1)) && decide (m.sys.stationary.dueAt ≤ m.now)
      && m.sys.stationary.left != some 0) = true := by
    rw [hactive, hmode, hrole, decide_eq_true hdue, hleft]
    rfl
  have hnone : (m.sys.stationary.left.map (fun n => n - 1)) = none := by rw [hleft]; rfl
  unfold Mach.stationaryLine
  rw [if_pos hruns, hnone]
  rfl

/-- Settles O57: a request that is taken is `Mach.takeMode`, whose cases are the modes' own. -/
theorem modeRequestsAreTaken : Obligations.ModeRequestsAreTaken := by
  unfold Obligations.ModeRequestsAreTaken
  refine ⟨?_, ⟨fun m t => Mach.setMode_of_other, ?_⟩, ?_, ?_, ?_⟩
  · intro dt sid s m hm
    refine ⟨fun h => ?_, fun h => ?_, fun h => ?_, fun h => ?_, fun h => ?_, fun n h hn => ?_, fun h hmode hquiet => ?_,
      fun n h hmode hn hprints => ?_, fun n h hready hfault hn => ?_, fun h hrefused => ?_, fun h => ?_, fun h hsafe => ?_,
      fun h => ?_⟩
    · rw [exec_modeRequestPrime]
      exact State.writeMode_of_taken hm h rfl
    · rw [exec_modeRequestService]
      exact State.writeMode_of_taken hm h rfl
    · rw [exec_modeRequestCalibrate]
      exact State.writeMode_of_taken hm h rfl
    · rw [exec_modeRequestVerify]
      exact State.writeMode_of_taken hm h rfl
    · rw [exec_modeRequestHold]
      exact State.writeMode_of_taken hm h rfl
    · subst hn
      rw [exec_modeRequestPrint]
      exact State.writeMode_of_taken hm h rfl
    · rw [exec_modeRequestIdle]
      refine State.writeMode_of_taken hm h ?_
      rw [Mach.takeMode_idle_of_change hmode, Mach.changeMode, Mach.applyMode_idle_of_quiet hquiet]
    · subst hn
      rw [exec_modeRequestIdle]
      refine State.writeMode_of_taken hm h ?_
      rw [Mach.takeMode_idle_of_change hmode, Mach.changeMode, Mach.applyMode_idle_of_printing hprints]
    · subst hn
      rw [exec_modeRequestArmed]
      exact State.writeMode_of_taken hm h (Mach.takeMode_armed_of_ready hready hfault _)
    · rw [exec_modeRequestArmed]
      exact State.writeMode_of_taken hm h (if_pos hrefused)
    · rw [exec_modeRequestSafe]
      exact State.writeMode_of_taken hm h rfl
    · rw [exec_modeRequestIdle]
      exact State.writeMode_of_taken hm h (if_pos hsafe)
    · rw [exec_modeRequestReset]
      exact State.writeMode_of_taken hm h rfl
  · intro dt sid s m hm hanswers hpair hlevel hmode
    rw [exec_modeRequestPrint]
    refine State.act_of_found hm (Mach.writeMode_of_notTarget hanswers hpair hlevel ?_ ?_ ?_) <;>
      rcases hmode with hmode | hmode | hmode | hmode <;> rw [hmode] <;> decide
  · intro dt sid s m hm h hmode hperiod
    rw [exec_stationaryStart]
    exact State.act_of_found hm (Mach.writeStationaryStart_of_allowed h hmode hperiod)
  · intro dt st s m n hm hst hactive hmode hrole hdue hleft hn
    subst hst
    rw [exec_stationaryLine]
    exact State.act_of_found hm (Mach.stationaryLine_of_due hactive hmode hrole hdue hleft hn)
  · intro dt s m hm hquiet
    rw [exec_stationaryLine]
    exact State.act_of_found hm (if_neg (by rw [hquiet]; exact Bool.false_ne_true))

end Sys2Proof.Machine

/-! The start of the module, what a reset keeps, and the supplies (R626 to R629, R643 to R655, R673). -/

namespace Sys2Proof.Machine

/-! ### The steps of a start -/

/-- A main die in reset with a good supply, no trip and no failure's sequence may start (R645). -/
theorem Mach.mayStart {m : Mach} (hmode : m.sys.mode = .reset) (hon : m.power.alwaysOn = true) (hheld : m.power.held = false)
    (htrip : m.power.tripped = none) (hfail : m.power.failAt = none) :
    (decide (m.sys.mode = .reset) && m.power.alwaysOn && !m.power.held && m.power.tripped.isNone && m.power.failAt.isNone) = true := by
  rw [hmode, hon, hheld, htrip, hfail]
  rfl

/-- The check of a start-up step in BOOT, where the mode is BOOT. -/
theorem Mach.bootStep_iff {m : Mach} (hmode : m.sys.mode = .boot) (k : Nat) :
    (decide (m.sys.mode = .boot) && decide (m.sys.step = k)) = true ↔ m.sys.step = k := by
  rw [decide_eq_true hmode, Bool.true_and, decide_eq_true_eq]

/-- A group of ports that is due in ASSEMBLE begins to train (R627). -/
theorem Mach.groupTrains {m : Mach} (hmode : m.sys.mode = .assemble) (hgroup : m.sys.group < 8) (hdue : m.sys.groupDue ≤ m.now)
    (hstep : 10 ≤ m.sys.step) :
    (decide (m.sys.mode = .assemble) && decide (m.sys.group < 8) && decide (m.sys.groupDue ≤ m.now)
      && (decide (10 ≤ m.sys.step) || (decide (m.sys.step = 6) && decide (m.pair.role = 0)))) = true := by
  rw [decide_eq_true hmode, decide_eq_true hgroup, decide_eq_true hdue, decide_eq_true hstep]
  rfl

/-- What a reset of the main die keeps and what it clears (R629, R643). -/
theorem Mach.mainReset_keeps (m : Mach) : m.mainReset.sys.mode = .reset ∧ m.mainReset.power = m.power
    ∧ m.mainReset.yarrow.acc = m.yarrow.acc
    ∧ m.mainReset.yarrow.trail = m.yarrow.trail ∧ m.mainReset.recorder.first = m.recorder.first
    ∧ m.mainReset.recorder.last = m.recorder.last ∧ m.mainReset.recorder.openRecs = [] ∧ m.mainReset.store.items = m.store.items
    ∧ m.mainReset.store.writes = [] ∧ m.mainReset.sys.slots = m.sys.slots ∧ m.mainReset.sys.otpConfig = m.sys.otpConfig
    ∧ m.mainReset.hy.sessions = [] ∧ m.mainReset.enc.origin = none ∧ m.mainReset.seams.table = []
    ∧ m.mainReset.cpu.dbg.unlocked = 0 ∧ ∀ p, m.mainReset.port p = {} :=
  ⟨rfl, rfl, rfl, rfl, rfl, rfl, rfl, rfl, rfl, rfl, rfl, rfl, rfl, rfl, rfl, fun _ => rfl⟩

/-- Settles O58: each step acts in its place of the order alone; for the reset, `Mach.mainReset_keeps`. -/
theorem theModuleStartsInOrder : Obligations.TheModuleStartsInOrder := by
  unfold Obligations.TheModuleStartsInOrder
  refine ⟨⟨?_, ?_, ?_, ?_⟩, Mach.mainReset_keeps⟩
  · intro dt s m hm hmode hon hheld htrip hfail
    have hstart := Mach.mayStart hmode hon hheld htrip hfail
    refine ⟨?_, ?_⟩
    · rw [exec_powerGood]
      exact State.act_of_found hm (if_pos hstart)
    · rw [exec_resetRelease]
      exact State.act_of_found hm (if_pos hstart)
  · intro dt s m hm hmode
    refine ⟨fun hstep => ?_, fun hstep => ?_, fun hstep => ?_, fun hstep => ?_, fun bad gone n hstep hn => ?_,
      fun bad gone hstep => ?_⟩
    · rw [exec_fwVerifyDone]
      exact State.act_of_found hm (if_pos ((Mach.bootStep_iff hmode 2).mpr hstep))
    · rw [exec_fwVerifyDone]
      exact State.act_of_found hm (if_neg (mt (Mach.bootStep_iff hmode 2).mp hstep))
    · rw [exec_dramTrainingDone]
      exact State.act_of_found hm (if_pos ((Mach.bootStep_iff hmode 4).mpr hstep))
    · rw [exec_dramTrainingDone]
      exact State.act_of_found hm (if_neg (mt (Mach.bootStep_iff hmode 4).mp hstep))
    · subst hn
      rw [exec_storeLoadDone]
      exact State.act_of_found hm (if_pos ((Mach.bootStep_iff hmode 5).mpr hstep))
    · rw [exec_storeLoadDone]
      exact State.act_of_found hm (if_neg (mt (Mach.bootStep_iff hmode 5).mp hstep))
  · intro dt s m n hm hmode hgroup hdue hstep hn
    subst hn
    rw [exec_portGroupTrain]
    exact State.act_of_found hm (if_pos (Mach.groupTrains hmode hgroup hdue hstep))
  · intro dt s m hm
    refine ⟨fun hmode hfail => ?_, fun hmode => ?_⟩ <;> rw [exec_resetN] <;> refine State.act_of_found hm ?_
    · exact if_neg (by simp [hmode, hfail])
    · exact if_pos (by simp [hmode])

/-! ### Power failures -/

/-- A power failure is counted; its record and its sequence come unless a sequence runs (R646, R647). -/
theorem Mach.powerFail_of_new {m : Mach} (hon : m.power.alwaysOn = true) (hheld : m.power.held = false) (source vin : Nat) :
    m.powerFail source vin = if m.power.failAt.isSome = true then
        (m.readVin vin).onPower (fun p => { p with held := true, fails := satAdd 0xFFFFFFFF p.fails 1 })
      else (((m.readVin vin).onPower (fun p => { p with held := true, fails := satAdd 0xFFFFFFFF p.fails 1 })).record
        0x0E20 source vin).failSequence :=
  if_neg (by rw [hon, hheld]; decide)

/-- The end of a failure's hold resets the main die, once its time has passed (R647). -/
theorem execPowerFailHoldEnd_of_failing {dt t : Nat} {s : State} {m : Mach} (hm : s.found dt = m) (h : m.power.failAt = some t) :
    execPowerFailHoldEnd dt s =
      s.becomes (if t + 2000000 ≤ m.now then m.mainReset.onPower (fun p => { p with failAt := none }) else m) :=
  State.act_of_found hm (by simp only [h])

/-- A supply without a trip is cool (R652). -/
theorem Power.cool_of_untripped {p : Power} (h : p.tripped = none) (now : Nat) : p.cool now = true := by
  simp [Power.cool, h]

/-- A trip has cooled once its temperatures have been below their levels for 1 s (R652). -/
theorem Power.cool_iff_of_below {p : Power} {x : Nat × Int} {t : Nat} (htrip : p.tripped = some x) (hbelow : p.belowSince = some t)
    (now : Nat) : p.cool now = true ↔ t + 1000000000 ≤ now := by
  simp [Power.cool, htrip, hbelow]

/-! ### Conditions of the supply and of temperatures -/

/-- A condition that does not hold yet begins with its record and ends in SAFE (R651). -/
theorem Mach.thermalSafe_of_new {m : Mach} {r : Nat} (hnew : bit m.power.conditions r = false) (hmode : m.sys.mode ≠ .reset)
    (value : Nat) : m.thermalSafe r value =
      ((m.onPower (fun p => { p with conditions := setBit p.conditions r true })).record 0x0E25 r value).enterSafe 5 0 :=
  if_neg (by simp [hnew, hmode])

/-- In reset the sensors and the supply are read, and nothing is judged (R652). -/
theorem Mach.junctionRead_of_reset {m : Mach} (hon : m.power.alwaysOn = true) (hmode : m.sys.mode = .reset)
    (main yarrow dcdc : Option Int) (vin iin pin : Nat) : m.junctionRead main yarrow dcdc vin iin pin =
      ((m.onPower (fun p => { p with
        tjMain := main, tjYarrow := yarrow, dcdc := dcdc, tjMax := hotter p.tjMax main, iin := iin, pin := pin })).readVin
          vin).coolSince main dcdc :=
  (if_neg (by rw [hon]; decide)).trans (if_pos hmode)

/-- What the monitor's view of the rails does while the module runs (R651). -/
theorem Mach.railFault_of_running {m : Mach} (hon : m.power.alwaysOn = true) (hfail : m.power.failAt = none)
    (hmode : m.sys.mode ≠ .reset) (rails : Nat) : m.railFault rails =
      if bits rails 0 9 = 0x1FF then (m.onPower (fun p => { p with rails := bits rails 0 9 })).thermalClear 3
      else if bit m.power.conditions 3 = true then m.onPower (fun p => { p with rails := bits rails 0 9 })
      else ((m.onPower (fun p => { p with rails := bits rails 0 9 })).record 0x0E22 (bits rails 0 9) 0).thermalSafe 3 0 :=
  if_neg (by simp [hon, hfail, hmode])

/-- Settles O60: each reading's own lemma says what it leaves. -/
theorem powerFailsAndSuppliesAreJudged : Obligations.PowerFailsAndSuppliesAreJudged := by
  unfold Obligations.PowerFailsAndSuppliesAreJudged
  refine ⟨⟨?_, ?_, ?_, ?_, ?_⟩, ?_, ?_, ?_, ?_, ?_⟩
  · intro dt source vin s m n hm hon hheld hn
    subst hn
    refine ⟨fun hfail => ?_, fun hfail => ?_⟩ <;> rw [exec_powerFail] <;>
      refine State.act_of_found hm ((Mach.powerFail_of_new hon hheld source vin).trans ?_)
    · exact if_neg (by rw [hfail]; exact Bool.false_ne_true)
    · exact if_pos hfail
  · intro dt t s m hm hfail
    refine ⟨fun hover => ?_, fun hintime => ?_⟩ <;> rw [exec_powerFailHoldEnd, execPowerFailHoldEnd_of_failing hm hfail]
    · rw [if_pos hover]
    · rw [if_neg (Nat.not_le.mpr hintime)]
  · intro dt s m hm hheld hfail hmode htrip
    rw [exec_powerRestored]
    refine State.act_of_found hm ((if_pos (by simp [hheld, hfail, hmode])).trans (if_pos ?_))
    exact Power.cool_of_untripped htrip _
  · intro dt s
    refine ⟨?_, rfl, rfl⟩
    rw [exec_vinBrownout]
    exact State.act_of_found rfl rfl
  · intro dt vin s m hm
    refine ⟨fun hoff => ?_, fun hon => ?_⟩ <;> rw [exec_vinStartThreshold] <;> refine State.act_of_found hm ?_
    · exact if_neg (by rw [hoff]; exact Bool.false_ne_true)
    · exact if_pos hon
  · intro dt vin iin pin main yarrow dcdc s m hm hon hmode
    rw [exec_junctionTempRead]
    exact State.act_of_found hm (Mach.junctionRead_of_reset hon hmode main yarrow dcdc vin iin pin)
  · intro dt vin iin pin main yarrow dcdc s hoff
    rw [exec_junctionTempRead]
    exact State.act_of_found rfl (if_pos (by rw [hoff]; decide))
  · intro dt who t0 t s m hm hmode hfail hheld htrip hbelow
    have hcool := Power.cool_iff_of_below htrip hbelow m.now
    refine ⟨fun hover => ?_, fun hintime => ?_⟩ <;> rw [exec_thermalTripRelease] <;> refine State.act_of_found hm ?_
    · exact if_pos (by simp [hmode, hfail, hheld, htrip, hcool, hover])
    · exact if_neg (by simp [hcool, hintime])
  · intro dt vin s m hm hon hmode
    refine ⟨fun hhigh hnew => ?_, fun hlow => ?_, fun side hfail => ?_⟩
    · rw [exec_vinHigh]
      refine State.act_of_found hm ((if_pos (by simp [hon, hhigh])).trans ?_)
      exact Mach.thermalSafe_of_new (m := m.readVin vin) hnew hmode vin
    · rw [exec_vinHigh]
      exact State.act_of_found hm (if_neg (by simp [hlow]))
    · rw [exec_vinOutOfRange]
      exact State.act_of_found hm (if_pos (by simp [hon, hfail]))
  · intro dt rails s m n hm hon hfail hmode hn
    subst hn
    refine ⟨fun hgood => ?_, fun hbad hold => ?_, fun hbad hnew => ?_⟩ <;> rw [exec_railFault] <;>
      refine State.act_of_found hm ((Mach.railFault_of_running hon hfail hmode rails).trans ?_)
    · exact if_pos hgood
    · exact (if_neg hbad).trans (if_pos hold)
    · exact (if_neg hbad).trans (if_neg (by rw [hnew]; exact Bool.false_ne_true))

end Sys2Proof.Machine
